-- ==== Sys2Proof/Word.lean ====
section
/-! DEFINITION. The word types: what the manual treats as bits. -/

namespace Sys2Proof

/-- One byte of a frame of either port (11.2). -/
abbrev Byte := BitVec 8

/-- The network basis and the part time: unsigned 32-bit counters (R1, R12). -/
abbrev Word := BitVec 32

end Sys2Proof
end

