-- ==== Sys2Proof/Config.lean ====
section
/-! DEFINITION. What the part fixes as constants, and the free values: the values the manual leaves open. -/

namespace Sys2Proof.Config

/-- Taken requests whose replies wait: at most four (R169). -/
def pendingLimit : Nat := 4

/-- BUSY refusals that wait at once: at most four (R169). -/
def busyLimit : Nat := 4

/-- Notices in the notice queue: at most 64 (R172). -/
def noticeLimit : Nat := 64

/-- Body bytes of a frame: at most 1024 (R28, R167). -/
def bodyLimit : Nat := 1024

/-- Records of one kind in an image (R3). -/
def segmentLimit : Nat := 256
def elementLimit : Nat := 512
def pointLimit : Nat := 192
def stationLimit : Nat := 64

/-- The gap timer of a LOADING image, in seconds (R18). -/
def gapTime : Nat := 60

/-- Orders in the queue, and orders in flight (R116, R120). -/
def queueLimit : Nat := 32
def inFlightLimit : Nat := 4

/-- Sends of one order (R116, R123, R125). -/
def sendBudget : Nat := 3

/-- Acknowledgement timer and station-unavailable timer, in seconds (R123, R124). -/
def ackTime : Nat := 3
def unavailableTime : Nat := 120

/-- Plan limits: zone segments and close-list entries (R140). -/
def zoneLimit : Nat := 24
def closeLimit : Nat := 48

/-- Isolation records (R152) and incident slots (R87). -/
def recordLimit : Nat := 8
def slotLimit : Nat := 64

/-- Entries of a call list (R86, R94). -/
def callListLimit : Nat := 16

/-- Entries and span in seconds of a point's history (R56), and the least span of a rate (R57). -/
def historyLimit : Nat := 8
def historySpan : Nat := 600
def rateSpan : Nat := 60

/-- A counter that saturates at 2^32 - 1 (customer-minutes, R79). -/
def minutesLimit : Nat := 4294967295

/-- The latest completion of a plan computation after its acceptance (R137) and of a SAVE (R177), in seconds. -/
def planSpan : Nat := 2
def saveSpan : Nat := 4

/-- FREE VALUE (log 5). The part time one second after FFFFFFFF hex: R1 gives the width and no successor. -/
opaque partTimePastEnd (n : Nat) : Word

/-- FREE VALUE (log 6). Which of several events due at one part time is taken first by the idle step. -/
opaque dueChoice (n : Nat) : Nat

/-- FREE VALUE (log 7). Whether every byte of a SAVE reads back equal, where the idle step ends the SAVE (R177). -/
opaque readsBack (n : Nat) : Bool

end Sys2Proof.Config
end

