-- ==== Sys2Proof/Syntax.lean ====
section
/-! DEFINITION. The commands: one constructor of `Instr` per row of spec/opcode_table.json, and their operands.

Multi-byte numbers of a frame are naturals; `WellFormed` says which values their fields can carry. Enumeration
bytes are held as received, because a value outside its set has a meaning of its own (R168: a value inside a
well-formed body that lies outside its range is judged by the request's own rules). -/

namespace Sys2Proof

/-- A request or REPORT body as the port reads it: one that fits the layout of its kind, read into its fields, or
the bytes of one that does not (R168, R180, R30). -/
inductive Body (α : Type) where
  | fits (args : α)
  | misfit (bytes : List Byte)
  deriving DecidableEq, Repr

/-- SEGMENT record as carried by a TOPO_PART (11.3.2). -/
structure RawSegment where
  number : Nat
  customers : Nat
  guarded : Nat
  deriving DecidableEq, Repr

/-- ELEMENT record as carried by a TOPO_PART (11.3.2). -/
structure RawElement where
  number : Nat
  kind : Nat
  endA : Nat
  endB : Nat
  cls : Nat
  station : Nat
  slot : Nat
  stroke : Nat
  defective : Nat
  deriving DecidableEq, Repr

/-- POINT record as carried by a TOPO_PART (11.3.2). -/
structure RawPoint where
  number : Nat
  segment : Nat
  station : Nat
  slot : Nat
  pl : Nat
  ph : Nat
  deriving DecidableEq, Repr

/-- STATION record as carried by a TOPO_PART (11.3.2). -/
structure RawStation where
  address : Nat
  limit : Nat
  mode : Nat
  deriving DecidableEq, Repr

/-- The records of one TOPO_PART: of one of the four kinds, or the bytes under a kind outside the four (R17, R180). -/
inductive PartRecords where
  | segments (l : List RawSegment)
  | elements (l : List RawElement)
  | points (l : List RawPoint)
  | stations (l : List RawStation)
  | unknown (kind : Nat) (bytes : List Byte)
  deriving DecidableEq, Repr

/-- SET_GLOBALS (R76). -/
structure GlobalsArgs where
  dead : Nat
  vent : Nat
  recharge : Nat
  deriving DecidableEq, Repr

/-- TOPO_BEGIN (R16). -/
structure BeginArgs where
  image : Nat
  segments : Nat
  elements : Nat
  points : Nat
  stations : Nat
  deriving DecidableEq, Repr

/-- TOPO_PART (R17). -/
structure PartArgs where
  sequence : Nat
  records : PartRecords
  deriving DecidableEq, Repr

/-- POINT_TUNE (R47). -/
structure TuneArgs where
  point : Nat
  offset : Int
  weight : Nat
  hyst : Nat
  fallLimit : Nat
  deriving DecidableEq, Repr

/-- POINT_LIMITS (R48). -/
structure LimitsArgs where
  point : Nat
  ll : Int
  l : Int
  h : Int
  hh : Int
  hyst : Nat
  deriving DecidableEq, Repr

/-- ORDER (R117). -/
structure OrderArgs where
  element : Nat
  action : Nat
  override : Bool
  deriving DecidableEq, Repr

/-- CREW_REPORT (R112). -/
structure CrewArgs where
  element : Nat
  position : Nat
  deriving DecidableEq, Repr

/-- OUTAGE_READ (R84). -/
structure WindowArgs where
  offset : Nat
  count : Nat
  deriving DecidableEq, Repr

/-- CALL (R89). -/
structure CallArgs where
  number : Nat
  segment : Nat
  cls : Nat
  age : Nat
  deriving DecidableEq, Repr

/-- INCIDENT_SET whose action is none of DISPATCH, ATTEND, SAFE and CLOSE: GRADE, or a value outside the set (R102). -/
structure GradeArgs where
  incident : Nat
  action : Nat
  grade : Nat
  deriving DecidableEq, Repr

/-- PLAN_READ (R147). -/
structure PlanReadArgs where
  part : Nat
  offset : Nat
  count : Nat
  release : Bool
  deriving DecidableEq, Repr

/-- EXECUTE (R154). -/
structure ExecuteArgs where
  plan : Nat
  override : Bool
  deriving DecidableEq, Repr

/-- One reading of a REPORT (R30). -/
structure Reading where
  slot : Nat
  count : Nat
  faulty : Bool
  deriving DecidableEq, Repr

/-- One position of a REPORT (R30). -/
structure Position where
  slot : Nat
  code : Nat
  deriving DecidableEq, Repr

/-- REPORT after its station address (R30). -/
structure ReportArgs where
  localFlag : Bool
  readings : List Reading
  positions : List Position
  deriving DecidableEq, Repr

/-- ORDER_ACK after its station address (R43). -/
structure AckArgs where
  verdict : Nat
  reason : Nat
  deriving DecidableEq, Repr

/-- The commands of the part: one constructor per row of spec/opcode_table.json, in the table's order. A request
carries its frame's tag and body. -/
inductive Instr where
  | status (tag : Nat) (body : Body Unit)
  | subscribe (tag : Nat) (body : Body (List Nat))
  | setGlobals (tag : Nat) (body : Body GlobalsArgs)
  | restart (tag : Nat) (body : Body Unit)
  | save (tag : Nat) (body : Body Unit)
  | topoBegin (tag : Nat) (body : Body BeginArgs)
  | topoPart (tag : Nat) (body : Body PartArgs)
  | topoCommit (tag : Nat) (body : Body Nat)
  | topoAbandon (tag : Nat) (body : Body Unit)
  | pointTune (tag : Nat) (body : Body TuneArgs)
  | pointLimits (tag : Nat) (body : Body LimitsArgs)
  | pointRead (tag : Nat) (body : Body Nat)
  | stationClear (tag : Nat) (body : Body Nat)
  | stationRead (tag : Nat) (body : Body Nat)
  | order (tag : Nat) (body : Body OrderArgs)
  | orderCancel (tag : Nat) (body : Body Nat)
  | crewReport (tag : Nat) (body : Body CrewArgs)
  | elementClearFault (tag : Nat) (body : Body Nat)
  | orderRead (tag : Nat) (body : Body Unit)
  | elementRead (tag : Nat) (body : Body Nat)
  | outageClear (tag : Nat) (body : Body Nat)
  | segmentRead (tag : Nat) (body : Body Nat)
  | outageRead (tag : Nat) (body : Body WindowArgs)
  | call (tag : Nat) (body : Body CallArgs)
  | incidentSetDispatch (tag incident grade : Nat)
  | incidentSetAttend (tag incident grade : Nat)
  | incidentSetSafe (tag incident grade : Nat)
  | incidentSetClose (tag incident grade : Nat)
  /-- Also every INCIDENT_SET frame whose action byte is outside the five, and every one whose body does not fit (log 13). -/
  | incidentSetGrade (tag : Nat) (body : Body GradeArgs)
  | incidentRead (tag : Nat) (body : Body Nat)
  | plan (tag : Nat) (body : Body Nat)
  | planRead (tag : Nat) (body : Body PlanReadArgs)
  | planCancel (tag : Nat) (body : Body Nat)
  | execute (tag : Nat) (body : Body ExecuteArgs)
  | restore (tag : Nat) (body : Body Nat)
  | isolationRead (tag : Nat) (body : Body Nat)
  | unknownKind (kind tag : Nat)
  /-- The bytes that arrived on the Control Port line up to the discard, after those the receiver already holds. -/
  | controlFrameDiscarded (bytes : List Byte)
  | controlFrameGapTimeout
  | replyTransmitted
  | noticeTransmitted
  | report (tag address : Nat) (body : Body ReportArgs)
  | orderAck (tag address : Nat) (body : Body AckArgs)
  /-- The bytes that arrived on the Field Port line up to the discard, after those the receiver already holds. -/
  | fieldFrameDiscarded (bytes : List Byte)
  | fieldFrameGapTimeout
  | fieldOrderFrameSent
  | powerOn
  | resetAssert
  | resetRelease
  | gapTimerExpiry
  | silenceExpiry (station : Nat)
  | ventTimerExpiry (segment : Nat)
  | rechargeTimerExpiry (segment : Nat)
  | customerMinute (segment : Nat)
  | deadlineExpiry (incident : Nat)
  | stationUnavailableExpiry (order : Nat)
  | acknowledgementExpiry (order : Nat)
  | strokeExpiry (order : Nat)
  | planCompletion
  /-- `good`: every byte read back equal to the byte written (R177). -/
  | saveCompletion (good : Bool)
  | boardSupplyFailure
  deriving DecidableEq, Repr

end Sys2Proof
end

