-- ==== Sys2Proof/Machine/Bytes.lean ====
section
/-! DEFINITION. Byte order, the two checks, and the topology records as bytes (R180, R181, 11.3.2). -/

namespace Sys2Proof

/-- `n` in `w` bytes, least significant byte first (R180). -/
def leBytes : Nat → Nat → List Byte
  | 0, _ => []
  | w + 1, n => BitVec.ofNat 8 n :: leBytes w (n / 256)

/-- The number that little-endian bytes hold (R180). -/
def leNat : List Byte → Nat
  | [] => 0
  | b :: bs => b.toNat + 256 * leNat bs

/-- A signed number in `w` bytes, two's complement (R180). -/
def signedBytes (w : Nat) (i : Int) : List Byte := leBytes w (i % (256 ^ w : Nat)).toNat

/-- The two's complement number that little-endian bytes hold (R180). -/
def leInt (bs : List Byte) : Int :=
  if 2 * leNat bs < 256 ^ bs.length then leNat bs else (leNat bs : Int) - (256 ^ bs.length : Nat)

/-- A flag as the part writes it: 0 for clear and 1 for set (R180). -/
def flagBytes (b : Bool) : List Byte := [if b then 1 else 0]

/-- One shift of the frame check register (R181). -/
def crc16Shift (r : BitVec 16) : BitVec 16 := if r.msb then (r <<< 1) ^^^ 0x1021#16 else r <<< 1

/-- One byte into the frame check register: into the top eight bits, then eight shifts (R181). -/
def crc16Byte (r : BitVec 16) (b : Byte) : BitVec 16 :=
  crc16Shift^[8] (r ^^^ (b.zeroExtend 16 <<< 8))

/-- The frame check over bytes (R167, R181). -/
def crc16 (bs : List Byte) : BitVec 16 := bs.foldl crc16Byte 0xFFFF#16

/-- One shift of the image check register (R181). -/
def crc32Shift (r : BitVec 32) : BitVec 32 := if r.getLsbD 0 then (r >>> 1) ^^^ 0xEDB88320#32 else r >>> 1

/-- One byte into the image check register: into the low eight bits, then eight shifts (R181). -/
def crc32Byte (r : BitVec 32) (b : Byte) : BitVec 32 := crc32Shift^[8] (r ^^^ b.zeroExtend 32)

/-- The image check register's initial value (R21, R181). -/
def crc32Start : BitVec 32 := 0xFFFFFFFF#32

/-- The image check register carried over further bytes (R21). -/
def crc32Carry (r : BitVec 32) (bs : List Byte) : BitVec 32 := bs.foldl crc32Byte r

/-- The image check that a register stands for: the final inversion (R21, R181). -/
def crc32Final (r : BitVec 32) : BitVec 32 := r ^^^ 0xFFFFFFFF#32

/-- The 32-bit check over bytes (R181). -/
def crc32 (bs : List Byte) : BitVec 32 := crc32Final (crc32Carry crc32Start bs)

/-- Record bytes of the four kinds (11.3.2). -/
def RawSegment.bytes (r : RawSegment) : List Byte :=
  leBytes 2 r.number ++ leBytes 2 r.customers ++ leBytes 1 r.guarded

def RawElement.bytes (r : RawElement) : List Byte :=
  leBytes 2 r.number ++ leBytes 1 r.kind ++ leBytes 2 r.endA ++ leBytes 2 r.endB ++ leBytes 1 r.cls
    ++ leBytes 1 r.station ++ leBytes 1 r.slot ++ leBytes 2 r.stroke ++ leBytes 1 r.defective

def RawPoint.bytes (r : RawPoint) : List Byte :=
  leBytes 2 r.number ++ leBytes 2 r.segment ++ leBytes 1 r.station ++ leBytes 1 r.slot
    ++ leBytes 4 r.pl ++ leBytes 4 r.ph

def RawStation.bytes (r : RawStation) : List Byte :=
  leBytes 1 r.address ++ leBytes 2 r.limit ++ leBytes 1 r.mode

/-- The record bytes of a TOPO_PART, which alone enter the running image check (R21). -/
def PartRecords.bytes : PartRecords → List Byte
  | .segments l => l.flatMap RawSegment.bytes
  | .elements l => l.flatMap RawElement.bytes
  | .points l => l.flatMap RawPoint.bytes
  | .stations l => l.flatMap RawStation.bytes
  | .unknown _ bs => bs

/-- The record kind byte of a TOPO_PART (11.4). -/
def PartRecords.kindByte : PartRecords → Nat
  | .segments _ => 1
  | .elements _ => 2
  | .points _ => 3
  | .stations _ => 4
  | .unknown k _ => k

end Sys2Proof
end

