-- ==== Sys2Proof/Decode.lean ====
section
/-! DEFINITION. Frames and bodies read into commands, and commands written as frames (chapter 11). The opcode table
gives no row any bits, so `decodeTableWord` reads none; a command's own encoding is the frame that carries it. -/

namespace Sys2Proof

/-- A frame whose check is good (11.2). -/
structure Frame where
  kind : Nat
  tag : Nat
  body : List Byte
  deriving DecidableEq, Repr

/-- The bytes under the frame check: length, kind, tag and body (R181). -/
def Frame.checked (f : Frame) : List Byte :=
  leBytes 2 f.body.length ++ leBytes 1 f.kind ++ leBytes 1 f.tag ++ f.body

/-- A frame as transmitted: start byte, checked bytes, check low byte first (11.2). -/
def Frame.bytes (f : Frame) : List Byte := 0xC3#8 :: (f.checked ++ leBytes 2 (crc16 f.checked).toNat)

/-- The receiver of either port (R28, R167), run over the bytes of a begun frame and those that follow. It answers the
frames found, oldest first, and the bytes of the frame begun and not yet whole (none while hunting). A length above
1024, or a check that differs, sends the hunt on from the byte after that start byte. The first argument bounds the
number of bytes looked at. -/
def receiveLoop : Nat → List Byte → List Frame × List Byte
  | 0, _ => ([], [])
  | _ + 1, [] => ([], [])
  | n + 1, b :: rest =>
    if b ≠ 0xC3#8 then receiveLoop n rest
    else if rest.length < 2 then ([], b :: rest)
    else
      let len := leNat (rest.take 2)
      if Config.bodyLimit < len then receiveLoop n rest
      else if rest.length < len + 6 then ([], b :: rest)
      else
        let covered := rest.take (len + 4)
        if leNat ((rest.drop (len + 4)).take 2) = (crc16 covered).toNat then
          let found := receiveLoop n (rest.drop (len + 6))
          ({ kind := leNat ((covered.drop 2).take 1), tag := leNat ((covered.drop 3).take 1),
             body := covered.drop 4 } :: found.1, found.2)
        else receiveLoop n rest

/-- The receiver over all bytes given (R28, R167). -/
def receive (bytes : List Byte) : List Frame × List Byte := receiveLoop (bytes.length + 1) bytes

namespace Layout

/-- The unsigned number of `w` bytes at an offset of a body. -/
def num (off w : Nat) (b : List Byte) : Nat := leNat ((b.drop off).take w)

/-- The signed number of `w` bytes at an offset of a body. -/
def int (off w : Nat) (b : List Byte) : Int := leInt ((b.drop off).take w)

/-- A flag at an offset: any value other than 0 is set (R180). -/
def flag (off : Nat) (b : List Byte) : Bool := num off 1 b != 0

/-- A body of one fixed length (11.3.1). -/
def exact {α : Type} (len : Nat) (read : List Byte → α) (b : List Byte) : Body α :=
  if b.length = len then .fits (read b) else .misfit b

def empty : List Byte → Body Unit := exact 0 fun _ => ()

/-- The one number a request names, in 2 bytes. -/
def one : List Byte → Body Nat := exact 2 (num 0 2)

/-- A station address or a record index, in 1 byte. -/
def oneByte : List Byte → Body Nat := exact 1 (num 0 1)

def subscribe (b : List Byte) : Body (List Nat) :=
  if b ≠ [] ∧ b.length = 1 + num 0 1 b then .fits ((b.drop 1).map BitVec.toNat) else .misfit b

def globals : List Byte → Body GlobalsArgs :=
  exact 6 fun b => { dead := num 0 2 b, vent := num 2 2 b, recharge := num 4 2 b }

def begin : List Byte → Body BeginArgs :=
  exact 12 fun b =>
    { image := num 0 4 b, segments := num 4 2 b, elements := num 6 2 b, points := num 8 2 b, stations := num 10 2 b }

/-- Records of one size laid end to end (11.3.2). -/
def records {α : Type} (size : Nat) (read : List Byte → α) : Nat → List Byte → List α
  | 0, _ => []
  | n + 1, b => read (b.take size) :: records size read n (b.drop size)

def segment (b : List Byte) : RawSegment :=
  { number := num 0 2 b, customers := num 2 2 b, guarded := num 4 1 b }

def element (b : List Byte) : RawElement :=
  { number := num 0 2 b, kind := num 2 1 b, endA := num 3 2 b, endB := num 5 2 b, cls := num 7 1 b
    station := num 8 1 b, slot := num 9 1 b, stroke := num 10 2 b, defective := num 12 1 b }

def point (b : List Byte) : RawPoint :=
  { number := num 0 2 b, segment := num 2 2 b, station := num 4 1 b, slot := num 5 1 b, pl := num 6 4 b
    ph := num 10 4 b }

def station (b : List Byte) : RawStation :=
  { address := num 0 1 b, limit := num 1 2 b, mode := num 3 1 b }

/-- TOPO_PART: with a kind of the four its records fill the body; with any other kind 3 bytes are enough (R180). -/
def part (b : List Byte) : Body PartArgs :=
  if b.length < 3 then .misfit b
  else
    let rest := b.drop 3
    let seq := num 0 2 b
    let whole := fun (size : Nat) (r : PartRecords) =>
      if rest.length % size = 0 then Body.fits { sequence := seq, records := r } else .misfit b
    if num 2 1 b = 1 then whole 5 (.segments (records 5 segment (rest.length / 5) rest))
    else if num 2 1 b = 2 then whole 13 (.elements (records 13 element (rest.length / 13) rest))
    else if num 2 1 b = 3 then whole 14 (.points (records 14 point (rest.length / 14) rest))
    else if num 2 1 b = 4 then whole 4 (.stations (records 4 station (rest.length / 4) rest))
    else .fits { sequence := seq, records := .unknown (num 2 1 b) rest }

def commit : List Byte → Body Nat := exact 4 (num 0 4)

def tune : List Byte → Body TuneArgs :=
  exact 10 fun b =>
    { point := num 0 2 b, offset := int 2 1 b, weight := num 3 1 b, hyst := num 4 4 b, fallLimit := num 8 2 b }

def limits : List Byte → Body LimitsArgs :=
  exact 22 fun b =>
    { point := num 0 2 b, ll := int 2 4 b, l := int 6 4 b, h := int 10 4 b, hh := int 14 4 b, hyst := num 18 4 b }

def order : List Byte → Body OrderArgs :=
  exact 4 fun b => { element := num 0 2 b, action := num 2 1 b, override := flag 3 b }

def crew : List Byte → Body CrewArgs := exact 3 fun b => { element := num 0 2 b, position := num 2 1 b }

def window : List Byte → Body WindowArgs := exact 4 fun b => { offset := num 0 2 b, count := num 2 2 b }

def call : List Byte → Body CallArgs :=
  exact 11 fun b => { number := num 0 4 b, segment := num 4 2 b, cls := num 6 1 b, age := num 7 4 b }

def incidentSet : List Byte → Body GradeArgs :=
  exact 4 fun b => { incident := num 0 2 b, action := num 2 1 b, grade := num 3 1 b }

def planRead : List Byte → Body PlanReadArgs :=
  exact 6 fun b => { part := num 0 1 b, offset := num 1 2 b, count := num 3 2 b, release := flag 5 b }

def execute : List Byte → Body ExecuteArgs := exact 3 fun b => { plan := num 0 2 b, override := flag 2 b }

def reading (b : List Byte) : Reading := { slot := num 0 1 b, count := num 1 2 b, faulty := flag 3 b }

def position (b : List Byte) : Position := { slot := num 0 1 b, code := num 1 1 b }

/-- REPORT body with its station address (11.3.3): its length is the one its two list lengths require. -/
def report (b : List Byte) : Body ReportArgs :=
  let n := num 2 1 b
  let m := num (3 + 4 * n) 1 b
  if 4 + 4 * n ≤ b.length ∧ b.length = 4 + 4 * n + 2 * m then
    .fits { localFlag := flag 1 b, readings := records 4 reading n (b.drop 3)
            positions := records 2 position m (b.drop (4 + 4 * n)) }
  else .misfit b

/-- ORDER_ACK body with its station address (11.3.3). -/
def ack : List Byte → Body AckArgs := exact 3 fun b => { verdict := num 1 1 b, reason := num 2 1 b }

end Layout

/-- INCIDENT_SET by its action byte (R102); log 13 for the frames that stand under GRADE. -/
def decodeIncidentSet (tag : Nat) : Body GradeArgs → Instr
  | .misfit b => .incidentSetGrade tag (.misfit b)
  | .fits a =>
    if a.action = 1 then .incidentSetDispatch tag a.incident a.grade
    else if a.action = 2 then .incidentSetAttend tag a.incident a.grade
    else if a.action = 3 then .incidentSetSafe tag a.incident a.grade
    else if a.action = 4 then .incidentSetClose tag a.incident a.grade
    else .incidentSetGrade tag (.fits a)

/-- The command that a Control Port frame with a good check is, by its kind (11.2.1, 11.3.1, R168). -/
def decodeControl (f : Frame) : Instr :=
  match f.kind with
  | 0x01 => .status f.tag (Layout.empty f.body)
  | 0x02 => .subscribe f.tag (Layout.subscribe f.body)
  | 0x03 => .setGlobals f.tag (Layout.globals f.body)
  | 0x04 => .restart f.tag (Layout.empty f.body)
  | 0x05 => .save f.tag (Layout.empty f.body)
  | 0x10 => .topoBegin f.tag (Layout.begin f.body)
  | 0x11 => .topoPart f.tag (Layout.part f.body)
  | 0x12 => .topoCommit f.tag (Layout.commit f.body)
  | 0x13 => .topoAbandon f.tag (Layout.empty f.body)
  | 0x20 => .pointTune f.tag (Layout.tune f.body)
  | 0x21 => .pointLimits f.tag (Layout.limits f.body)
  | 0x22 => .pointRead f.tag (Layout.one f.body)
  | 0x23 => .stationClear f.tag (Layout.oneByte f.body)
  | 0x24 => .stationRead f.tag (Layout.oneByte f.body)
  | 0x30 => .order f.tag (Layout.order f.body)
  | 0x31 => .orderCancel f.tag (Layout.one f.body)
  | 0x32 => .crewReport f.tag (Layout.crew f.body)
  | 0x33 => .elementClearFault f.tag (Layout.one f.body)
  | 0x34 => .orderRead f.tag (Layout.empty f.body)
  | 0x35 => .elementRead f.tag (Layout.one f.body)
  | 0x40 => .outageClear f.tag (Layout.one f.body)
  | 0x41 => .segmentRead f.tag (Layout.one f.body)
  | 0x42 => .outageRead f.tag (Layout.window f.body)
  | 0x50 => .call f.tag (Layout.call f.body)
  | 0x51 => decodeIncidentSet f.tag (Layout.incidentSet f.body)
  | 0x52 => .incidentRead f.tag (Layout.one f.body)
  | 0x60 => .plan f.tag (Layout.one f.body)
  | 0x61 => .planRead f.tag (Layout.planRead f.body)
  | 0x62 => .planCancel f.tag (Layout.one f.body)
  | 0x63 => .execute f.tag (Layout.execute f.body)
  | 0x64 => .restore f.tag (Layout.one f.body)
  | 0x65 => .isolationRead f.tag (Layout.oneByte f.body)
  | k => .unknownKind k f.tag

/-- The command that a Field Port frame with a good check is; none for a frame the port does not take (R29). -/
def decodeField (f : Frame) : Option Instr :=
  if f.body = [] then none
  else
    match f.kind with
    | 0xA0 => some (.report f.tag (Layout.num 0 1 f.body) (Layout.report f.body))
    | 0xA1 => some (.orderAck f.tag (Layout.num 0 1 f.body) (Layout.ack f.body))
    | _ => none

/-- A body as the sender writes it. -/
def Body.bytes {α : Type} (write : α → List Byte) : Body α → List Byte
  | .fits a => write a
  | .misfit b => b

/-- The frame that carries a request or a Field Port record (11.2, 11.3); none for a command that is no frame. -/
def encode : Instr → Option Frame
  | .status t b => some ⟨0x01, t, b.bytes fun _ => []⟩
  | .subscribe t b => some ⟨0x02, t, b.bytes fun l => leBytes 1 l.length ++ l.map (BitVec.ofNat 8)⟩
  | .setGlobals t b => some ⟨0x03, t, b.bytes fun a => leBytes 2 a.dead ++ leBytes 2 a.vent ++ leBytes 2 a.recharge⟩
  | .restart t b => some ⟨0x04, t, b.bytes fun _ => []⟩
  | .save t b => some ⟨0x05, t, b.bytes fun _ => []⟩
  | .topoBegin t b => some ⟨0x10, t, b.bytes fun a =>
      leBytes 4 a.image ++ leBytes 2 a.segments ++ leBytes 2 a.elements ++ leBytes 2 a.points ++ leBytes 2 a.stations⟩
  | .topoPart t b => some ⟨0x11, t, b.bytes fun a =>
      leBytes 2 a.sequence ++ leBytes 1 a.records.kindByte ++ a.records.bytes⟩
  | .topoCommit t b => some ⟨0x12, t, b.bytes fun c => leBytes 4 c⟩
  | .topoAbandon t b => some ⟨0x13, t, b.bytes fun _ => []⟩
  | .pointTune t b => some ⟨0x20, t, b.bytes fun a =>
      leBytes 2 a.point ++ signedBytes 1 a.offset ++ leBytes 1 a.weight ++ leBytes 4 a.hyst ++ leBytes 2 a.fallLimit⟩
  | .pointLimits t b => some ⟨0x21, t, b.bytes fun a =>
      leBytes 2 a.point ++ signedBytes 4 a.ll ++ signedBytes 4 a.l ++ signedBytes 4 a.h ++ signedBytes 4 a.hh
        ++ leBytes 4 a.hyst⟩
  | .pointRead t b => some ⟨0x22, t, b.bytes (leBytes 2)⟩
  | .stationClear t b => some ⟨0x23, t, b.bytes (leBytes 1)⟩
  | .stationRead t b => some ⟨0x24, t, b.bytes (leBytes 1)⟩
  | .order t b => some ⟨0x30, t, b.bytes fun a => leBytes 2 a.element ++ leBytes 1 a.action ++ flagBytes a.override⟩
  | .orderCancel t b => some ⟨0x31, t, b.bytes (leBytes 2)⟩
  | .crewReport t b => some ⟨0x32, t, b.bytes fun a => leBytes 2 a.element ++ leBytes 1 a.position⟩
  | .elementClearFault t b => some ⟨0x33, t, b.bytes (leBytes 2)⟩
  | .orderRead t b => some ⟨0x34, t, b.bytes fun _ => []⟩
  | .elementRead t b => some ⟨0x35, t, b.bytes (leBytes 2)⟩
  | .outageClear t b => some ⟨0x40, t, b.bytes (leBytes 2)⟩
  | .segmentRead t b => some ⟨0x41, t, b.bytes (leBytes 2)⟩
  | .outageRead t b => some ⟨0x42, t, b.bytes fun a => leBytes 2 a.offset ++ leBytes 2 a.count⟩
  | .call t b => some ⟨0x50, t, b.bytes fun a =>
      leBytes 4 a.number ++ leBytes 2 a.segment ++ leBytes 1 a.cls ++ leBytes 4 a.age⟩
  | .incidentSetDispatch t i g => some ⟨0x51, t, leBytes 2 i ++ leBytes 1 1 ++ leBytes 1 g⟩
  | .incidentSetAttend t i g => some ⟨0x51, t, leBytes 2 i ++ leBytes 1 2 ++ leBytes 1 g⟩
  | .incidentSetSafe t i g => some ⟨0x51, t, leBytes 2 i ++ leBytes 1 3 ++ leBytes 1 g⟩
  | .incidentSetClose t i g => some ⟨0x51, t, leBytes 2 i ++ leBytes 1 4 ++ leBytes 1 g⟩
  | .incidentSetGrade t b => some ⟨0x51, t, b.bytes fun a =>
      leBytes 2 a.incident ++ leBytes 1 a.action ++ leBytes 1 a.grade⟩
  | .incidentRead t b => some ⟨0x52, t, b.bytes (leBytes 2)⟩
  | .plan t b => some ⟨0x60, t, b.bytes (leBytes 2)⟩
  | .planRead t b => some ⟨0x61, t, b.bytes fun a =>
      leBytes 1 a.part ++ leBytes 2 a.offset ++ leBytes 2 a.count ++ flagBytes a.release⟩
  | .planCancel t b => some ⟨0x62, t, b.bytes (leBytes 2)⟩
  | .execute t b => some ⟨0x63, t, b.bytes fun a => leBytes 2 a.plan ++ flagBytes a.override⟩
  | .restore t b => some ⟨0x64, t, b.bytes (leBytes 2)⟩
  | .isolationRead t b => some ⟨0x65, t, b.bytes (leBytes 1)⟩
  | .unknownKind k t => some ⟨k, t, []⟩
  | .report t a b => some ⟨0xA0, t, b.bytes fun r =>
      leBytes 1 a ++ flagBytes r.localFlag ++ leBytes 1 r.readings.length
        ++ r.readings.flatMap (fun x => leBytes 1 x.slot ++ leBytes 2 x.count ++ flagBytes x.faulty)
        ++ leBytes 1 r.positions.length ++ r.positions.flatMap (fun x => leBytes 1 x.slot ++ leBytes 1 x.code)⟩
  | .orderAck t a b => some ⟨0xA1, t, b.bytes fun r => leBytes 1 a ++ leBytes 1 r.verdict ++ leBytes 1 r.reason⟩
  | .controlFrameDiscarded _ | .controlFrameGapTimeout | .replyTransmitted | .noticeTransmitted
  | .fieldFrameDiscarded _ | .fieldFrameGapTimeout | .fieldOrderFrameSent | .powerOn | .resetAssert | .resetRelease
  | .gapTimerExpiry | .silenceExpiry _ | .ventTimerExpiry _ | .rechargeTimerExpiry _ | .customerMinute _
  | .deadlineExpiry _ | .stationUnavailableExpiry _ | .acknowledgementExpiry _ | .strokeExpiry _ | .planCompletion
  | .saveCompletion _ | .boardSupplyFailure => none

/-- The command a word spells by the opcode table's bits: the table gives no row any bits, so no word spells one. -/
def decodeTableWord (_nbits _w : Nat) : Option Instr := none

end Sys2Proof
end

