-- ==== Sys2Proof/Machine/State.lean ====
section
/-! DEFINITION. The state of the part, block by block as 00_scope section 3 lists the blocks, and the state after reset. -/

namespace Sys2Proof.Machine

/-! ### Topology (R3 to R7) -/

/-- Element kinds (R5). -/
inductive ElementKind where
  | valve | regulator | source
  deriving DecidableEq, Repr

/-- Operability classes (R5). -/
inductive OpClass where
  | remote | manual
  deriving DecidableEq, Repr

/-- Silence modes (R7). -/
inductive SilenceMode where
  | reportOnly | latched
  deriving DecidableEq, Repr

/-- SEGMENT record of a valid image (R4); `guarded` is the protected flag. -/
structure Segment where
  number : Nat
  customers : Nat
  guarded : Bool
  deriving DecidableEq, Repr

/-- ELEMENT record of a valid image (R5). -/
structure Element where
  number : Nat
  kind : ElementKind
  endA : Nat
  endB : Nat
  cls : OpClass
  station : Nat
  slot : Nat
  stroke : Nat
  defective : Bool
  deriving DecidableEq, Repr

/-- POINT record of a valid image (R6). -/
structure Point where
  number : Nat
  segment : Nat
  station : Nat
  slot : Nat
  pl : Nat
  ph : Nat
  deriving DecidableEq, Repr

/-- STATION record of a valid image (R7). -/
structure StationTopo where
  address : Nat
  limit : Nat
  mode : SilenceMode
  deriving DecidableEq, Repr

/-- A valid image, each kind in ascending number (R3, R181). -/
structure Image where
  number : Nat
  segments : List Segment
  elements : List Element
  points : List Point
  stations : List StationTopo
  deriving DecidableEq, Repr

/-- Record kinds (R3, 11.4). -/
inductive RecordKind where
  | segment | element | point | station
  deriving DecidableEq, Repr

/-- One record of a standby image, as received (R17). -/
inductive RawRecord where
  | segment (r : RawSegment)
  | element (r : RawElement)
  | point (r : RawPoint)
  | station (r : RawStation)
  deriving DecidableEq, Repr

/-- Validation faults (R8). -/
inductive ImageFault where
  | number | repeatedNumber | badCode | ends | noSegment | cls | noStation | slot | span | stroke | silence
  deriving DecidableEq, Repr

/-- A standby image in LOADING (R15, R16): declared counts, records in load order, running check register (before
the final inversion), next sequence number, gap timer expiry. -/
structure Loading where
  image : Nat
  segments : Nat
  elements : Nat
  points : Nat
  stations : Nat
  records : List RawRecord
  check : BitVec 32
  next : Nat
  gapAt : Nat
  deriving DecidableEq, Repr

/-- The standby image's four states (R15). -/
inductive Standby where
  | empty
  | loading (l : Loading)
  | complete (img : Image)
  | pending (img : Image)
  deriving DecidableEq, Repr

/-- Network Model. -/
structure NetworkModel where
  active : Option Image
  standby : Standby
  basis : Word
  deriving DecidableEq, Repr

/-! ### Field Port (R28 to R44) -/

/-- Station states (R32). -/
inductive StationState where
  | waiting | reporting | silent | heldSilent
  deriving DecidableEq, Repr

/-- Station record (R32); silence limit and mode are read from the active image. -/
structure Station where
  address : Nat
  state : StationState
  silenceAt : Option Nat
  localFlag : Bool
  lastAccepted : Option Nat
  lastApplied : Option Nat
  deriving DecidableEq, Repr

/-- CLOSE and OPEN (R116). -/
inductive Action where
  | close | opening
  deriving DecidableEq, Repr

/-- An ORDER frame handed to the Field Port (R42). -/
structure OrderFrame where
  station : Nat
  slot : Nat
  action : Action
  tag : Nat
  deriving DecidableEq, Repr

/-- Field Port: receiver, frames handed over and not yet transmitted, station table. `line` is the model's own output
latch: the bytes of the frame last put on the line. -/
structure FieldPort where
  rx : List Byte
  rxAt : Nat
  out : List OrderFrame
  line : List Byte
  stations : List Station
  deriving DecidableEq, Repr

/-! ### Pressure Evaluator (R45 to R66) -/

/-- Point quality (R45). -/
inductive Quality where
  | never | good | wireFault | sensorFault | stale
  deriving DecidableEq, Repr

/-- Band states (R45). -/
inductive Band where
  | normal | low | lowLow | high | highHigh
  deriving DecidableEq, Repr

/-- Band limits in Pa, signed (R45). -/
structure Limits where
  ll : Int
  l : Int
  h : Int
  hh : Int
  deriving DecidableEq, Repr

/-- Point record (R45). -/
structure PointRec where
  number : Nat
  pl : Nat
  ph : Nat
  offset : Int
  weight : Nat
  fallLimit : Nat
  limits : Limits
  hyst : Nat
  pendingLimits : Option (Limits × Nat)
  quality : Quality
  underScale : Bool
  overScale : Bool
  p : Option Int
  f : Option Int
  history : List (Nat × Int)
  rate : Option Int
  falling : Bool
  band : Band
  expected : Bool
  lastSample : Option Nat
  deriving DecidableEq, Repr

/-! ### Element Control (R108 to R133) -/

/-- Element states (R108). -/
inductive ElementState where
  | opened | closed | moving | mid | fault | unknown
  deriving DecidableEq, Repr

/-- Direction of motion (R108). -/
inductive Direction where
  | closing | opening
  deriving DecidableEq, Repr

/-- Where the last position came from (R108). -/
inductive Source where
  | station | crew
  deriving DecidableEq, Repr

/-- Position codes of a REPORT (R30). -/
inductive PositionCode where
  | opened | closed | travel | stopped | fault
  deriving DecidableEq, Repr

/-- Element record (R108). -/
structure ElementRec where
  number : Nat
  state : ElementState
  direction : Option Direction
  source : Source
  unconfirmed : Bool
  faultMark : Bool
  changedAt : Nat
  deriving DecidableEq, Repr

/-- Order origins (R116). -/
inductive Origin where
  | host
  | isolation (incident : Nat)
  | restoration (incident : Nat)
  deriving DecidableEq, Repr

/-- Order states (R116); SENT and MOVING are in flight. -/
inductive OrderState where
  | queued | sent | moving
  deriving DecidableEq, Repr

/-- Decline reasons of an ORDER_ACK (R43). -/
inductive DeclineReason where
  | localFlag | fault | busy
  deriving DecidableEq, Repr

/-- Order record (R116). -/
structure Order where
  number : Nat
  element : Nat
  action : Action
  origin : Origin
  override : Bool
  state : OrderState
  sendsLeft : Nat
  tag : Nat
  enqueuedAt : Nat
  unavailableAt : Option Nat
  ackAt : Option Nat
  strokeAt : Option Nat
  deriving DecidableEq, Repr

/-- Reasons of FAILED (06 section 6.5). -/
inductive FailReason where
  | interlock (segment : Nat)
  | stationUnavailable
  | noAck
  | declined (r : DeclineReason)
  | elementFault
  | strokeTimeout
  deriving DecidableEq, Repr

/-- Order outcomes (06 section 6.5). -/
inductive OrderOutcome where
  | done | already | cancelled
  | failed (r : FailReason)
  deriving DecidableEq, Repr

/-- Element Control: element table, order queue, next order number, next tag. -/
structure ElementControl where
  table : List ElementRec
  queue : List Order
  nextOrder : Nat
  nextTag : Nat
  deriving DecidableEq, Repr

/-! ### Supply Tracker (R67 to R85) -/

/-- Supply states (R67). -/
inductive SupplyState where
  | live | cut | depressurized | recharging
  deriving DecidableEq, Repr

/-- Segment supply record (R67); the sampled set is kept in ascending point number. -/
structure SegSupply where
  segment : Nat
  state : SupplyState
  stateTime : Nat
  cutTime : Option Nat
  reconnectedAt : Option Nat
  sampled : List Nat
  ventAt : Option Nat
  rechargeAt : Option Nat
  deriving DecidableEq, Repr

/-- Cause of an outage entry (R77). -/
inductive OutageCause where
  | planned (incident : Nat)
  | unplanned (element : Nat)
  deriving DecidableEq, Repr

/-- Outage entry (R77). Its state is the segment's supply state (equal at all times, R77) and is read there.
`minuteAt` is the next expiry of the entry's minute timer (R79). -/
structure Outage where
  segment : Nat
  openedAt : Nat
  cause : OutageCause
  customers : Nat
  minutes : Nat
  minuteAt : Nat
  clearance : Option Nat
  deriving DecidableEq, Repr

/-- The three globals (R67). -/
structure Globals where
  dead : Nat
  vent : Nat
  recharge : Nat
  deriving DecidableEq, Repr

/-- Supply Tracker; both tables in ascending segment number. -/
structure SupplyTracker where
  segs : List SegSupply
  outages : List Outage
  globals : Globals
  deriving DecidableEq, Repr

/-! ### Incident Table (R86 to R107) -/

/-- The causes of an incident, a set (R86). -/
structure Causes where
  leak : Bool
  pressure : Bool
  supply : Bool
  deriving DecidableEq, Repr

/-- Incident states (R86). -/
inductive IncidentState where
  | opened | dispatched | attended | safe | closed
  deriving DecidableEq, Repr

/-- Isolation status (R86). -/
inductive IsoStatus where
  | none | executing | partially | isolated | proven | restoring | restored
  deriving DecidableEq, Repr

/-- Call classes (R89). -/
inductive CallClass where
  | damage | inside | outside | faint | noGas
  deriving DecidableEq, Repr

/-- Call-list entry (R86). -/
structure CallEntry where
  number : Nat
  cls : CallClass
  time : Nat
  deriving DecidableEq, Repr

/-- Incident record (R86). -/
structure Incident where
  number : Nat
  causes : Causes
  segment : Nat
  grade : Nat
  state : IncidentState
  createdAt : Nat
  baseTime : Nat
  deadline : Option Nat
  overdue : Bool
  clusterEscalated : Bool
  totalCalls : Nat
  calls : List CallEntry
  trigPoint : Option Nat
  trigElement : Option Nat
  isoStatus : IsoStatus
  isoIndex : Option Nat
  lastPlan : Option Nat
  closedAt : Option Nat
  deriving DecidableEq, Repr

/-- Incident Table: 64 slots by position, next number, FULL flag (R87, R101). -/
structure IncidentTable where
  slots : List (Option Incident)
  nextNumber : Nat
  full : Bool
  deriving DecidableEq, Repr

/-! ### Isolation Planner (R134 to R151) -/

/-- Plan results (R135). -/
inductive PlanResult where
  | ok | stale | noIsolation | zoneLimit | elementLimit
  deriving DecidableEq, Repr

/-- Plan record (R135). -/
structure Plan where
  number : Nat
  incident : Nat
  target : Nat
  startBasis : Word
  startTime : Nat
  endBasis : Option Word
  endTime : Option Nat
  result : Option PlanResult
  failing : Option Nat
  zone : List Nat
  close : List (Nat × OpClass)
  lost : List Nat
  customers : Nat
  guardedCount : Nat
  crewCount : Nat
  deriving DecidableEq, Repr

/-- One element of the planner's copy (R137). -/
structure CopyElement where
  number : Nat
  state : ElementState
  operable : Bool
  deriving DecidableEq, Repr

/-- The planner's copy (R137). -/
structure PlanCopy where
  elements : List CopyElement
  supply : List (Nat × SupplyState)
  deriving DecidableEq, Repr

/-- The plan buffer (R134). -/
inductive PlanBuffer where
  | empty
  | computing (p : Plan) (copy : PlanCopy)
  | held (p : Plan)
  deriving DecidableEq, Repr

/-- Isolation Planner. -/
structure Planner where
  buffer : PlanBuffer
  nextPlan : Nat
  deriving DecidableEq, Repr

/-! ### Replies and refusal codes (R170, 09 section 9.6) -/

/-- Refusal codes (09 section 9.6). -/
inductive Code where
  | malformed | unknownKind | busy | range | noTopology | notFound | state | full | duplicate | held | stalePlan
  | overlap | noSlot | guarded | notRemote | inFlight | remoteReported | sequence | conflict | countMismatch
  | checkMismatch | invalidImage | elementLimit
  deriving DecidableEq, Repr

/-- A refusal with the details its code carries (R170, 11.3.4). -/
inductive Denial where
  | plain (c : Code)
  | conflict (kind : RecordKind) (number : Nat)
  | invalidImage (kind : RecordKind) (position number : Nat) (fault : ImageFault)
  | countMismatch (kind : RecordKind) (declared held : Nat)
  | checkMismatch (computed : BitVec 32)
  deriving DecidableEq, Repr

/-! ### Isolation Register (R152 to R166) -/

/-- Entry steps (R153). -/
inductive EntryStep where
  | toClose | crewClose | closed | closeFailed | heldForClearance | opening | crewOpen | reopened | openFailed
  deriving DecidableEq, Repr

/-- An entry's last result (R152): an order outcome, a placement's refusal, or a crew report. -/
inductive LastResult where
  | order (o : OrderOutcome)
  | placement (c : Code)
  | crewOpen
  | crewClosed
  deriving DecidableEq, Repr

/-- Element entry (R152). -/
structure Entry where
  element : Nat
  cls : OpClass
  step : EntryStep
  order : Nat
  last : Option LastResult
  stepTime : Nat
  deriving DecidableEq, Repr

/-- Isolation record in use (R152); its index is its position in the register, counted from 1. -/
structure IsoRecord where
  incident : Nat
  override : Bool
  executions : Nat
  firstPlan : Nat
  lastPlan : Nat
  createdAt : Nat
  zone : List Nat
  entries : List Entry
  deriving DecidableEq, Repr

/-- Isolation Register: eight records by position. -/
structure IsolationRegister where
  records : List (Option IsoRecord)
  deriving DecidableEq, Repr

/-! ### Configuration Store (R175 to R179) -/

/-- Stored settings of one point (R175). -/
structure PointSettings where
  point : Nat
  offset : Int
  weight : Nat
  hyst : Nat
  fallLimit : Nat
  limits : Limits
  deriving DecidableEq, Repr

/-- The contents of the stored configuration image (R175). -/
structure StoreContents where
  image : Image
  settings : List PointSettings
  globals : Globals
  deriving DecidableEq, Repr

/-- What the non-volatile store holds (R175): never written, ended in an interrupted or failed write, or contents
written whole with the check written beside them. -/
inductive Stored where
  | blank
  | broken
  | written (c : StoreContents) (check : BitVec 32)
  deriving DecidableEq, Repr

/-- A SAVE in progress (R176). -/
structure SaveCopy where
  contents : StoreContents
  acceptedAt : Nat
  deriving DecidableEq, Repr

/-- Restart causes (R178). -/
inductive RestartCause where
  | powerOn | resetLine | restartRequest
  deriving DecidableEq, Repr

/-- Store results (R175, R179). -/
inductive StoreResult where
  | valid | invalid | blank
  deriving DecidableEq, Repr

/-- Configuration Store. -/
structure ConfigStore where
  stored : Stored
  save : Option SaveCopy
  cause : RestartCause
  result : StoreResult
  deriving DecidableEq, Repr

/-! ### Notices (R172) -/

/-- Notice classes (R172). -/
inductive NoticeClass where
  | point | station | element | order | incident | plan | outage | topology | store | system
  deriving DecidableEq, Repr

/-- POINT notice (R65). -/
structure PointNotice where
  point : Nat
  segment : Nat
  oldQuality : Quality
  quality : Quality
  oldBand : Band
  band : Band
  oldFalling : Bool
  falling : Bool
  f : Option Int
  p : Option Int
  rate : Option Int
  underScale : Bool
  overScale : Bool
  expected : Bool
  lastSample : Option Nat
  deriving DecidableEq, Repr

/-- Cause of a STATION notice (R40). -/
inductive StationCause where
  | report | expiry | clear
  deriving DecidableEq, Repr

/-- STATION notice (R40). -/
structure StationNotice where
  address : Nat
  oldState : StationState
  state : StationState
  cause : StationCause
  localFlag : Bool
  lastAccepted : Option Nat
  basis : Word
  deriving DecidableEq, Repr

/-- Cause of an ELEMENT notice (R115). -/
inductive ElementCause where
  | report | crew | clearFault | stroke
  deriving DecidableEq, Repr

/-- ELEMENT notice (R115). -/
structure ElementNotice where
  element : Nat
  oldState : ElementState
  state : ElementState
  direction : Option Direction
  source : Source
  unconfirmed : Bool
  faultMark : Bool
  changedAt : Nat
  cause : ElementCause
  passChanged : Bool
  origin : Option Nat
  basis : Word
  deriving DecidableEq, Repr

/-- ORDER notice (R130). -/
structure OrderNotice where
  order : Nat
  element : Nat
  action : Action
  origin : Origin
  override : Bool
  outcome : OrderOutcome
  tag : Nat
  sendsUsed : Nat
  enqueuedAt : Nat
  endedAt : Nat
  deriving DecidableEq, Repr

/-- The event set of an INCIDENT notice (R106). -/
structure EventSet where
  created : Bool
  joined : Bool
  grade : Bool
  overdue : Bool
  state : Bool
  isolation : Bool
  deriving DecidableEq, Repr

/-- What joined an incident (R106). -/
inductive JoinSource where
  | call
  | pressure (point : Nat)
  | falling (point : Nat)
  | supply (element : Nat)
  deriving DecidableEq, Repr

/-- INCIDENT notice (R106); the old grade and old state are absent at creation (log 10). -/
structure IncidentNotice where
  incident : Nat
  segment : Nat
  events : EventSet
  causes : Causes
  oldGrade : Option Nat
  grade : Nat
  oldState : Option IncidentState
  state : IncidentState
  baseTime : Nat
  deadline : Option Nat
  overdue : Bool
  clusterEscalated : Bool
  totalCalls : Nat
  call : Option CallEntry
  trigPoint : Option Nat
  trigElement : Option Nat
  isoStatus : IsoStatus
  joined : Option JoinSource
  deriving DecidableEq, Repr

/-- INCIDENT notice NOT_MADE (R101). -/
structure NotMadeNotice where
  segment : Nat
  causes : Causes
  grade : Nat
  trigPoint : Option Nat
  trigElement : Option Nat
  deriving DecidableEq, Repr

/-- Verdicts of a PLAN_END notice (R150). -/
inductive PlanVerdict where
  | ready | failed | topologyChanged
  deriving DecidableEq, Repr

/-- PLAN_END notice (R150). -/
structure PlanNotice where
  plan : Nat
  incident : Nat
  target : Nat
  verdict : PlanVerdict
  result : Option PlanResult
  failing : Option Nat
  startBasis : Word
  endBasis : Word
  zoneLength : Nat
  closeLength : Nat
  lostLength : Nat
  customers : Nat
  guardedCount : Nat
  crewCount : Nat
  deriving DecidableEq, Repr

/-- Events of an OUTAGE notice (R82). -/
inductive OutageEvent where
  | opened | state | cleared | closed
  deriving DecidableEq, Repr

/-- OUTAGE notice (R82). -/
structure OutageNotice where
  segment : Nat
  event : OutageEvent
  oldState : SupplyState
  state : SupplyState
  openedAt : Nat
  cause : OutageCause
  customers : Nat
  minutes : Nat
  clearance : Option Nat
  basis : Word
  deriving DecidableEq, Repr

/-- STORE notice (R177). -/
structure StoreNotice where
  good : Bool
  image : Nat
  points : Nat
  check : BitVec 32
  acceptedAt : Nat
  deriving DecidableEq, Repr

/-- SYSTEM notice STARTED (R179). -/
structure StartedNotice where
  cause : RestartCause
  result : StoreResult
  image : Nat
  globals : Globals
  deriving DecidableEq, Repr

/-- The body of a notice: its class and event are those of its constructor (R172, 11.3.5). -/
inductive NoticeBody where
  | point (n : PointNotice)
  | station (n : StationNotice)
  | element (n : ElementNotice)
  | order (n : OrderNotice)
  | incident (n : IncidentNotice)
  | notMade (n : NotMadeNotice)
  | planEnd (n : PlanNotice)
  | outage (n : OutageNotice)
  | loadTimeout (image next : Nat)
  | activationFailed (image : Nat) (kind : RecordKind) (number : Nat)
  | activated (image : Nat) (basis : Word)
  | saveEnd (n : StoreNotice)
  | started (n : StartedNotice)
  deriving DecidableEq, Repr

/-- A notice with its number and the part time of its event (R172). -/
structure Notice where
  number : Nat
  time : Nat
  body : NoticeBody
  deriving DecidableEq, Repr

/-! ### Results of requests -/

/-- STATUS results (R174). -/
structure StatusResult where
  partTime : Nat
  cause : RestartCause
  result : StoreResult
  image : Nat
  standby : Nat
  standbyImage : Nat
  saving : Bool
  basis : Word
  openIncidents : Nat
  overdueIncidents : Nat
  queuedOrders : Nat
  inFlight : Nat
  outages : Nat
  notReporting : Nat
  planState : Nat
  plan : Nat
  full : Bool
  overrun : Bool
  waiting : Nat
  subscribed : List NoticeClass
  deriving DecidableEq, Repr

/-- STATION_READ results (R41). -/
structure StationResult where
  address : Nat
  mode : SilenceMode
  limit : Nat
  state : StationState
  localFlag : Bool
  lastAccepted : Option Nat
  lastApplied : Option Nat
  silenceAt : Option Nat
  elements : Nat
  points : Nat
  tag : Nat
  deriving DecidableEq, Repr

/-- ELEMENT_READ results (R133). -/
structure ElementResult where
  topo : Element
  record : ElementRec
  passable : Bool
  operable : Bool
  order : Nat
  orderState : Option OrderState
  isoIndex : Option Nat
  deriving DecidableEq, Repr

/-- SEGMENT_READ results (R83). -/
structure SegmentResult where
  topo : Segment
  supply : SegSupply
  points : List (Nat × Quality)
  hasOutage : Bool
  deriving DecidableEq, Repr

/-- One line of the incident summary (R107). -/
structure IncidentLine where
  number : Nat
  segment : Nat
  state : IncidentState
  grade : Nat
  overdue : Bool
  isoStatus : IsoStatus
  deriving DecidableEq, Repr

/-- PLAN_READ entries (R147). -/
inductive PlanEntries where
  | zone (l : List Nat)
  | close (l : List (Nat × OpClass))
  | lost (l : List Nat)
  deriving DecidableEq, Repr

/-- One line of the isolation summary (R166): none for a free record. -/
structure IsoLine where
  incident : Nat
  status : IsoStatus
  entries : Nat
  zone : Nat
  steps : List Nat
  deriving DecidableEq, Repr

/-- The results a DONE or ACCEPTED reply carries (R170). -/
inductive Result where
  | nothing
  | status (r : StatusResult)
  | subscribed (l : List NoticeClass)
  | globals (g : Globals)
  | partCounts (segments elements points stations : Nat)
  | commit (active : Bool)
  | tuned (offset : Int) (weight hyst fallLimit : Nat)
  | point (topo : Point) (r : PointRec)
  | station (r : StationResult)
  | placed (order : Nat)
  | orders (l : List (Order × Nat × Nat))
  | element (r : ElementResult)
  | segment (r : SegmentResult)
  | outages (total : Nat) (l : List (Outage × SupplyState × Nat))
  | call (incident : Nat) (created : Bool) (grade : Nat) (overdue : Bool)
  | incidents (l : List IncidentLine)
  | incident (i : Incident)
  | planned (plan : Nat)
  | plan (p : Plan) (basis : Word) (entries : PlanEntries)
  | executed (index orders : Nat)
  | restoring (index : Nat)
  | isoSummary (l : List (Option IsoLine))
  | isoRecord (index : Nat) (r : IsoRecord) (elements : List ElementState) (zone : List (Option SupplyState))
  deriving DecidableEq, Repr

/-- The three reply kinds (00_scope 6.5, R170). -/
inductive ReplyBody where
  | done (r : Result)
  | accepted (r : Result)
  | refused (d : Denial)
  deriving DecidableEq, Repr

/-- A waiting reply (R169, R170). `listed` tells a taken request, which counts in the pending-request list, from a
waiting BUSY refusal, which does not. -/
structure Waiting where
  tag : Nat
  kind : Nat
  reply : ReplyBody
  listed : Bool
  deriving DecidableEq, Repr

/-- What the Control Port transmitter is sending (R171), as the bytes of the frame. -/
inductive Line where
  | free
  | reply (frame : List Byte)
  | notice (frame : List Byte)
  deriving DecidableEq, Repr

/-- Control Port (R167 to R174). `gathered` is the model's own: the notices that the event in hand has passed so far, and none
between events (R65, R106, log 9). -/
structure ControlPort where
  rx : List Byte
  rxAt : Nat
  replies : List Waiting
  line : Line
  notices : List Notice
  nextNotice : Nat
  subscribed : List NoticeClass
  overrun : Bool
  gathered : Option (List NoticeBody)
  deriving DecidableEq, Repr

/-! ### The part -/

/-- Whether the part runs (R178): without supply, held with the cause its restart will record, or running. -/
inductive Power where
  | off
  | held (cause : RestartCause)
  | running
  deriving DecidableEq, Repr

/-- The whole part. `pending` and `drawn` are the model's own: the queue of commands that wait, oldest first, and the
number of free values read so far (log 1); so is `ControlPort.gathered` (log 9). -/
structure State where
  partTime : Word
  power : Power
  resetPin : Bool
  control : ControlPort
  field : FieldPort
  net : NetworkModel
  points : List PointRec
  elements : ElementControl
  supply : SupplyTracker
  incidents : IncidentTable
  planner : Planner
  register : IsolationRegister
  store : ConfigStore
  drawn : Nat
  pending : List Instr
  deriving DecidableEq, Repr

/-- Reasons a step stops with a fault. There is none: the spec turns every wrong request into a REFUSED reply and every
wrong frame into a discard, and the part goes on. No one raises a fault; safe. -/
inductive Fault where
  deriving DecidableEq, Repr

/-- Reasons a step refuses. -/
inductive Refusal where
  /-- Raised by `exec` for a command that has no meaning yet; safe. No arm raises it. -/
  | notModelled (mnemonic : String)
  deriving DecidableEq, Repr

/-- All ten notice classes, in the order of their codes (11.4). -/
def NoticeClass.all : List NoticeClass :=
  [.point, .station, .element, .order, .incident, .plan, .outage, .topology, .store, .system]

/-- The defaults of the globals (R67). -/
def Globals.default : Globals := { dead := 300, vent := 1800, recharge := 600 }

/-- The part right after its restart at power-up with a store that has never been written (R179): every block at the
value after restart of its own chapter, no active image, and the SYSTEM notice STARTED, the first notice queued, with
number 0, which the free line has taken (R171, R172). Its frame is written out as 11.2 and 11.3.5 give it. -/
def State.reset : State where
  partTime := 0
  power := .running
  resetPin := false
  control :=
    { rx := [], rxAt := 0, replies := []
      line := .notice
        [ 0xC3, 0x14, 0x00, 0x81, 0x00, 0x0A, 0x01, 0x00, 0x00, 0x00, 0x00, 0x00, 0x00, 0x01, 0x03, 0x00, 0x00, 0x00,
          0x00, 0x2C, 0x01, 0x08, 0x07, 0x58, 0x02, 0x6A, 0xE4 ]
      notices := []
      nextNotice := 1, subscribed := NoticeClass.all, overrun := false, gathered := none }
  field := { rx := [], rxAt := 0, out := [], line := [], stations := [] }
  net := { active := none, standby := .empty, basis := 0 }
  points := []
  elements := { table := [], queue := [], nextOrder := 1, nextTag := 1 }
  supply := { segs := [], outages := [], globals := Globals.default }
  incidents := { slots := List.replicate 64 none, nextNumber := 1, full := false }
  planner := { buffer := .empty, nextPlan := 1 }
  register := { records := List.replicate 8 none }
  store := { stored := .blank, save := none, cause := .powerOn, result := .blank }
  drawn := 0
  pending := []

end Sys2Proof.Machine
end

