-- ==== Sys2Proof/Machine/Operands.lean ====
section
/-! DEFINITION. The enumeration values of 11.4, read from a frame's bytes and written into them. The enumerations that
11.4 does not list take the values 1, 2, 3 and on in the order of their defining rules (R180). -/

namespace Sys2Proof.Machine

/-! ### Values read from frames -/

def ElementKind.ofCode : Nat → Option ElementKind
  | 1 => some .valve
  | 2 => some .regulator
  | 3 => some .source
  | _ => none

def OpClass.ofCode : Nat → Option OpClass
  | 1 => some .remote
  | 2 => some .manual
  | _ => none

def SilenceMode.ofCode : Nat → Option SilenceMode
  | 1 => some .reportOnly
  | 2 => some .latched
  | _ => none

def PositionCode.ofCode : Nat → Option PositionCode
  | 1 => some .opened
  | 2 => some .closed
  | 3 => some .travel
  | 4 => some .stopped
  | 5 => some .fault
  | _ => none

def Action.ofCode : Nat → Option Action
  | 1 => some .close
  | 2 => some .opening
  | _ => none

def DeclineReason.ofCode : Nat → Option DeclineReason
  | 1 => some .localFlag
  | 2 => some .fault
  | 3 => some .busy
  | _ => none

def CallClass.ofCode : Nat → Option CallClass
  | 1 => some .damage
  | 2 => some .inside
  | 3 => some .outside
  | 4 => some .faint
  | 5 => some .noGas
  | _ => none

/-- What an ORDER_ACK says (R43). -/
inductive Verdict where
  | accepted
  | declined (r : DeclineReason)
  deriving DecidableEq, Repr

/-- A verdict with its reason; none where the verdict is outside the two, or DECLINED has a reason outside the three.
The reason of ACCEPTED is not examined (R43). -/
def Verdict.ofCodes (verdict reason : Nat) : Option Verdict :=
  match verdict with
  | 1 => some .accepted
  | 2 => (DeclineReason.ofCode reason).map .declined
  | _ => none

/-- Sections of PLAN_READ (R147). -/
inductive PlanSection where
  | zone | close | lost
  deriving DecidableEq, Repr

def PlanSection.ofCode : Nat → Option PlanSection
  | 1 => some .zone
  | 2 => some .close
  | 3 => some .lost
  | _ => none

/-! ### Values written into frames -/

def ElementKind.code : ElementKind → Nat
  | .valve => 1
  | .regulator => 2
  | .source => 3

def OpClass.code : OpClass → Nat
  | .remote => 1
  | .manual => 2

def SilenceMode.code : SilenceMode → Nat
  | .reportOnly => 1
  | .latched => 2

def RecordKind.code : RecordKind → Nat
  | .segment => 1
  | .element => 2
  | .point => 3
  | .station => 4

def ImageFault.code : ImageFault → Nat
  | .number => 1
  | .repeatedNumber => 2
  | .badCode => 3
  | .ends => 4
  | .noSegment => 5
  | .cls => 6
  | .noStation => 7
  | .slot => 8
  | .span => 9
  | .stroke => 10
  | .silence => 11

/-- Order of R32. -/
def StationState.code : StationState → Nat
  | .waiting => 1
  | .reporting => 2
  | .silent => 3
  | .heldSilent => 4

def Action.code : Action → Nat
  | .close => 1
  | .opening => 2

def Quality.code : Quality → Nat
  | .never => 1
  | .good => 2
  | .wireFault => 3
  | .sensorFault => 4
  | .stale => 5

def Band.code : Band → Nat
  | .normal => 1
  | .low => 2
  | .lowLow => 3
  | .high => 4
  | .highHigh => 5

/-- Order of R108. -/
def ElementState.code : ElementState → Nat
  | .opened => 1
  | .closed => 2
  | .moving => 3
  | .mid => 4
  | .fault => 5
  | .unknown => 6

/-- Order of R108. -/
def Direction.code : Direction → Nat
  | .closing => 1
  | .opening => 2

/-- Order of R108. -/
def Source.code : Source → Nat
  | .station => 1
  | .crew => 2

/-- Order of R116. -/
def OrderState.code : OrderState → Nat
  | .queued => 1
  | .sent => 2
  | .moving => 3

def DeclineReason.code : DeclineReason → Nat
  | .localFlag => 1
  | .fault => 2
  | .busy => 3

/-- Order of R67. -/
def SupplyState.code : SupplyState → Nat
  | .live => 1
  | .cut => 2
  | .depressurized => 3
  | .recharging => 4

/-- Order of R86. -/
def IncidentState.code : IncidentState → Nat
  | .opened => 1
  | .dispatched => 2
  | .attended => 3
  | .safe => 4
  | .closed => 5

/-- Order of R86. -/
def IsoStatus.code : IsoStatus → Nat
  | .none => 1
  | .executing => 2
  | .partially => 3
  | .isolated => 4
  | .proven => 5
  | .restoring => 6
  | .restored => 7

def CallClass.code : CallClass → Nat
  | .damage => 1
  | .inside => 2
  | .outside => 3
  | .faint => 4
  | .noGas => 5

def PlanResult.code : PlanResult → Nat
  | .ok => 1
  | .stale => 2
  | .noIsolation => 3
  | .zoneLimit => 4
  | .elementLimit => 5

/-- Order of R153. -/
def EntryStep.code : EntryStep → Nat
  | .toClose => 1
  | .crewClose => 2
  | .closed => 3
  | .closeFailed => 4
  | .heldForClearance => 5
  | .opening => 6
  | .crewOpen => 7
  | .reopened => 8
  | .openFailed => 9

def Code.code : Code → Nat
  | .malformed => 1
  | .unknownKind => 2
  | .busy => 3
  | .range => 4
  | .noTopology => 5
  | .notFound => 6
  | .state => 7
  | .full => 8
  | .duplicate => 9
  | .held => 10
  | .stalePlan => 11
  | .overlap => 12
  | .noSlot => 13
  | .guarded => 14
  | .notRemote => 15
  | .inFlight => 16
  | .remoteReported => 17
  | .sequence => 18
  | .conflict => 19
  | .countMismatch => 20
  | .checkMismatch => 21
  | .invalidImage => 22
  | .elementLimit => 23

def RestartCause.code : RestartCause → Nat
  | .powerOn => 1
  | .resetLine => 2
  | .restartRequest => 3

def StoreResult.code : StoreResult → Nat
  | .valid => 1
  | .invalid => 2
  | .blank => 3

def NoticeClass.code : NoticeClass → Nat
  | .point => 1
  | .station => 2
  | .element => 3
  | .order => 4
  | .incident => 5
  | .plan => 6
  | .outage => 7
  | .topology => 8
  | .store => 9
  | .system => 10

/-- Order of R40. -/
def StationCause.code : StationCause → Nat
  | .report => 1
  | .expiry => 2
  | .clear => 3

/-- Order of R115. -/
def ElementCause.code : ElementCause → Nat
  | .report => 1
  | .crew => 2
  | .clearFault => 3
  | .stroke => 4

/-- Order of R150. -/
def PlanVerdict.code : PlanVerdict → Nat
  | .ready => 1
  | .failed => 2
  | .topologyChanged => 3

/-- The states of the standby image and of the plan buffer (11.4). -/
def Standby.code : Standby → Nat
  | .empty => 1
  | .loading _ => 2
  | .complete _ => 3
  | .pending _ => 4

def PlanBuffer.code : PlanBuffer → Nat
  | .empty => 1
  | .computing _ _ => 2
  | .held _ => 3

/-- A class value names one of the ten classes (R173). -/
def NoticeClass.ofCode (n : Nat) : Option NoticeClass := NoticeClass.all.find? fun c => c.code = n

end Sys2Proof.Machine
end

