-- ==== Sys2Proof/Machine/Wire.lean ====
section
/-! DEFINITION. Replies, notices and ORDER frames as bytes (R180, 11.3.3 to 11.3.5). Where 11 tables no layout, a record is
written field by field in the order of the rule that lists its contents; log 8 gives the choices R180 leaves. -/

namespace Sys2Proof.Machine.Wire

/-- A part time, or FFFFFFFF hex where it is absent (R180). DESIGN CHOICE (log 39): an expiry or a deadline past FFFFFFFF hex,
of which R1 and R180 say nothing, is written as its low 32 bits. -/
def time : Option Nat → List Byte
  | some t => leBytes 4 t
  | none => leBytes 4 0xFFFFFFFF

/-- p or f, or FFFFFFFF hex where it is absent (R180). -/
def pressure : Option Int → List Byte
  | some p => signedBytes 4 p
  | none => leBytes 4 0xFFFFFFFF

/-- A rate, or 80000000 hex where it is not available (R180). -/
def rate : Option Int → List Byte
  | some r => signedBytes 4 r
  | none => leBytes 4 0x80000000

/-- A number, or 0 where it is absent (R180). -/
def number (w : Nat) (n : Option Nat) : List Byte := leBytes w (n.getD 0)

/-- An enumeration value, or 0 where it is absent. -/
def code {α : Type} (c : α → Nat) (x : Option α) : List Byte := leBytes 1 ((x.map c).getD 0)

/-- A list with its entry count in `w` bytes (R180). -/
def list {α : Type} (w : Nat) (f : α → List Byte) (l : List α) : List Byte := leBytes w l.length ++ l.flatMap f

/-- A set of classes: bit c - 1 for each class of code c (11.3.4). -/
def classes (l : List NoticeClass) : List Byte := leBytes 2 ((l.map fun c => 2 ^ (c.code - 1)).sum)

/-- The causes of an incident: bit c - 1 for each cause of code c (11.4). -/
def causes (c : Causes) : List Byte :=
  leBytes 1 ((if c.leak then 1 else 0) + (if c.pressure then 2 else 0) + (if c.supply then 4 else 0))

/-- An order origin: 3 bytes (11.4). -/
def origin : Origin → List Byte
  | .host => leBytes 1 1 ++ leBytes 2 0
  | .isolation n => leBytes 1 2 ++ leBytes 2 n
  | .restoration n => leBytes 1 3 ++ leBytes 2 n

/-- An order outcome: 5 bytes (11.4). -/
def outcome : OrderOutcome → List Byte
  | .done => leBytes 1 1 ++ leBytes 4 0
  | .already => leBytes 1 2 ++ leBytes 4 0
  | .cancelled => leBytes 1 3 ++ leBytes 4 0
  | .failed (.interlock s) => leBytes 1 4 ++ leBytes 1 1 ++ leBytes 1 0 ++ leBytes 2 s
  | .failed .stationUnavailable => leBytes 1 4 ++ leBytes 1 2 ++ leBytes 3 0
  | .failed .noAck => leBytes 1 4 ++ leBytes 1 3 ++ leBytes 3 0
  | .failed (.declined r) => leBytes 1 4 ++ leBytes 1 4 ++ leBytes 1 r.code ++ leBytes 2 0
  | .failed .elementFault => leBytes 1 4 ++ leBytes 1 5 ++ leBytes 3 0
  | .failed .strokeTimeout => leBytes 1 4 ++ leBytes 1 6 ++ leBytes 3 0

/-- An outage cause: 3 bytes (11.4). -/
def outageCause : OutageCause → List Byte
  | .planned n => leBytes 1 1 ++ leBytes 2 n
  | .unplanned n => leBytes 1 2 ++ leBytes 2 n

/-- The last result of an element entry: 6 bytes (11.4). DESIGN CHOICE (log 8): behind the source 0 of an absent one, the one
byte of it that 11.4 gives, the other five bytes are 0. -/
def lastResult : Option LastResult → List Byte
  | none => leBytes 6 0
  | some (.order o) => leBytes 1 1 ++ outcome o
  | some (.placement c) => leBytes 1 2 ++ leBytes 1 c.code ++ leBytes 4 0
  | some .crewOpen => leBytes 1 3 ++ leBytes 1 1 ++ leBytes 4 0
  | some .crewClosed => leBytes 1 3 ++ leBytes 1 2 ++ leBytes 4 0

def limits (l : Limits) : List Byte :=
  signedBytes 4 l.ll ++ signedBytes 4 l.l ++ signedBytes 4 l.h ++ signedBytes 4 l.hh

/-- STATUS results (11.3.4). -/
def status (r : StatusResult) : List Byte :=
  leBytes 4 r.partTime ++ leBytes 1 r.cause.code ++ leBytes 1 r.result.code ++ leBytes 4 r.image
    ++ leBytes 1 r.standby ++ leBytes 4 r.standbyImage ++ flagBytes r.saving ++ leBytes 4 r.basis.toNat
    ++ leBytes 1 r.openIncidents ++ leBytes 1 r.overdueIncidents ++ leBytes 1 r.queuedOrders ++ leBytes 1 r.inFlight
    ++ leBytes 2 r.outages ++ leBytes 1 r.notReporting ++ leBytes 1 r.planState ++ leBytes 2 r.plan
    ++ flagBytes r.full ++ flagBytes r.overrun ++ leBytes 1 r.waiting ++ classes r.subscribed

/-- The flags byte of POINT_READ (11.3.4). -/
def pointFlags (r : PointRec) : List Byte :=
  leBytes 1 ((if r.underScale then 1 else 0) + (if r.overScale then 2 else 0) + (if r.falling then 4 else 0)
    + (if r.expected then 8 else 0))

/-- POINT_READ results (11.3.4). -/
def pointRead (t : Point) (r : PointRec) : List Byte :=
  leBytes 2 r.number ++ leBytes 2 t.segment ++ leBytes 1 t.station ++ leBytes 1 t.slot ++ leBytes 4 r.pl
    ++ leBytes 4 r.ph ++ signedBytes 1 r.offset ++ leBytes 1 r.weight ++ leBytes 4 r.hyst ++ leBytes 2 r.fallLimit
    ++ limits r.limits
    ++ (match r.pendingLimits with
        | some (l, h) => flagBytes true ++ limits l ++ leBytes 4 h
        | none => flagBytes false ++ leBytes 20 0)
    ++ leBytes 1 r.quality.code ++ leBytes 1 r.band.code ++ pointFlags r ++ pressure r.p ++ pressure r.f
    ++ rate r.rate ++ time r.lastSample
    ++ list 1 (fun e => leBytes 4 e.1 ++ signedBytes 4 e.2) r.history

/-- STATION_READ results, in the order of R41. The counts of elements and points take 1 byte each (DESIGN CHOICE, log 8: no width
is stated). -/
def stationRead (r : StationResult) : List Byte :=
  leBytes 1 r.address ++ leBytes 1 r.mode.code ++ leBytes 2 r.limit ++ leBytes 1 r.state.code ++ flagBytes r.localFlag
    ++ time r.lastAccepted ++ time r.lastApplied ++ time r.silenceAt ++ leBytes 1 r.elements ++ leBytes 1 r.points
    ++ leBytes 1 r.tag

/-- The state an action aims at, as an element state (R116, R132). -/
def target : Action → ElementState
  | .close => .closed
  | .opening => .opened

/-- One order of ORDER_READ with its station and slot, in the order of R132; one expiry field, for the single timer that
the order's state allows to run (R180). Sends remaining take 1 byte (DESIGN CHOICE, log 8: no width is stated). -/
def orderRead (x : Order × Nat × Nat) : List Byte :=
  leBytes 2 x.1.number ++ leBytes 2 x.1.element ++ leBytes 1 x.2.1 ++ leBytes 1 x.2.2 ++ leBytes 1 x.1.action.code
    ++ leBytes 1 (target x.1.action).code ++ origin x.1.origin ++ flagBytes x.1.override ++ leBytes 1 x.1.state.code
    ++ leBytes 1 x.1.sendsLeft ++ leBytes 1 x.1.tag ++ leBytes 4 x.1.enqueuedAt
    ++ time (match x.1.state with
        | .queued => x.1.unavailableAt
        | .sent => x.1.ackAt
        | .moving => x.1.strokeAt)

/-- ELEMENT_READ results, in the order of R133. -/
def elementRead (r : ElementResult) : List Byte :=
  leBytes 2 r.topo.number ++ leBytes 1 r.topo.kind.code ++ leBytes 2 r.topo.endA ++ leBytes 2 r.topo.endB
    ++ leBytes 1 r.topo.cls.code ++ leBytes 1 r.topo.station ++ leBytes 1 r.topo.slot ++ leBytes 2 r.topo.stroke
    ++ flagBytes r.topo.defective ++ leBytes 1 r.record.state.code ++ code Direction.code r.record.direction
    ++ leBytes 1 r.record.source.code ++ flagBytes r.record.unconfirmed ++ flagBytes r.record.faultMark
    ++ leBytes 4 r.record.changedAt ++ flagBytes r.passable ++ flagBytes r.operable ++ leBytes 2 r.order
    ++ code OrderState.code r.orderState ++ number 1 r.isoIndex

/-- SEGMENT_READ results, in the order of R83. -/
def segmentRead (r : SegmentResult) : List Byte :=
  leBytes 2 r.topo.number ++ leBytes 2 r.topo.customers ++ flagBytes r.topo.guarded ++ leBytes 1 r.supply.state.code
    ++ leBytes 4 r.supply.stateTime ++ time r.supply.cutTime ++ time r.supply.reconnectedAt ++ time r.supply.ventAt
    ++ time r.supply.rechargeAt ++ list 1 (leBytes 2) r.supply.sampled
    ++ list 1 (fun p => leBytes 2 p.1 ++ leBytes 1 p.2.code) r.points ++ flagBytes r.hasOutage

/-- One outage entry as R77 lists it, with its state and its customer-minutes at the read. The customer-minutes take 4 bytes
(DESIGN CHOICE, log 8: no width is stated). -/
def outageRead (x : Outage × SupplyState × Nat) : List Byte :=
  leBytes 2 x.1.segment ++ leBytes 4 x.1.openedAt ++ leBytes 1 x.2.1.code ++ outageCause x.1.cause
    ++ leBytes 2 x.1.customers ++ leBytes 4 x.2.2 ++ time x.1.clearance

def callEntry (c : CallEntry) : List Byte := leBytes 4 c.number ++ leBytes 1 c.cls.code ++ leBytes 4 c.time

/-- INCIDENT_READ of one incident, in the order of R86. The total of calls takes 2 bytes (DESIGN CHOICE, log 8: no width is
stated). -/
def incidentRead (i : Incident) : List Byte :=
  leBytes 2 i.number ++ causes i.causes ++ leBytes 2 i.segment ++ leBytes 1 i.grade ++ leBytes 1 i.state.code
    ++ leBytes 4 i.createdAt ++ leBytes 4 i.baseTime ++ time i.deadline ++ flagBytes i.overdue
    ++ flagBytes i.clusterEscalated ++ leBytes 2 i.totalCalls ++ list 1 callEntry i.calls ++ number 2 i.trigPoint
    ++ number 2 i.trigElement ++ leBytes 1 i.isoStatus.code ++ number 1 i.isoIndex ++ number 2 i.lastPlan
    ++ time i.closedAt

/-- One line of the incident summary (R107). -/
def incidentLine (i : IncidentLine) : List Byte :=
  leBytes 2 i.number ++ leBytes 2 i.segment ++ leBytes 1 i.state.code ++ leBytes 1 i.grade ++ flagBytes i.overdue
    ++ leBytes 1 i.isoStatus.code

/-- The section byte and the entries of PLAN_READ (11.3.4). -/
def planEntries : PlanEntries → List Byte
  | .zone l => leBytes 1 1 ++ list 1 (leBytes 2) l
  | .close l => leBytes 1 2 ++ list 1 (fun e => leBytes 2 e.1 ++ leBytes 1 e.2.code) l
  | .lost l => leBytes 1 3 ++ list 1 (leBytes 2) l

/-- PLAN_READ results (11.3.4). -/
def planRead (p : Plan) (basis : Word) (e : PlanEntries) : List Byte :=
  leBytes 2 p.number ++ leBytes 2 p.incident ++ leBytes 2 p.target ++ leBytes 4 p.startBasis.toNat
    ++ leBytes 4 ((p.endBasis.map BitVec.toNat).getD 0) ++ leBytes 4 basis.toNat ++ leBytes 4 p.startTime
    ++ time p.endTime ++ code PlanResult.code p.result ++ number 2 p.failing ++ leBytes 4 p.customers
    ++ leBytes 2 p.guardedCount ++ leBytes 1 p.crewCount ++ leBytes 1 p.zone.length ++ leBytes 1 p.close.length
    ++ leBytes 2 p.lost.length ++ planEntries e

/-- The isolation summary: eight lines in index order (R166). DESIGN CHOICE (log 8): no count stands before the eight lines, and
the counts of entries, of zone segments and of entries in each step take 1 byte each, and the line of a free record is its
index and its in-use flag alone, 2 bytes, the fields of a record in use left out and not written as 0. -/
def isoSummary (l : List (Option IsoLine)) : List Byte :=
  l.zipIdx.flatMap fun x =>
    leBytes 1 (x.2 + 1) ++
      match x.1 with
      | none => flagBytes false
      | some r =>
        flagBytes true ++ leBytes 2 r.incident ++ leBytes 1 r.status.code ++ leBytes 1 r.entries ++ leBytes 1 r.zone
          ++ r.steps.flatMap (leBytes 1)

/-- One isolation record whole, in the order of R152, with each zone segment's supply state and each element's state at the
read (R166). DESIGN CHOICE (log 8): executions take 2 bytes, the widths of the list counts are the model's, each state at the read
stands behind its own entry, and the zone list stands before the entries, as in R152's table, where R166 names the entries
first. -/
def isoRecord (index : Nat) (r : IsoRecord) (elements : List ElementState) (zone : List (Option SupplyState)) :
    List Byte :=
  leBytes 1 index ++ leBytes 2 r.incident ++ flagBytes r.override ++ leBytes 2 r.executions ++ leBytes 2 r.firstPlan
    ++ leBytes 2 r.lastPlan ++ leBytes 4 r.createdAt
    ++ list 1 (fun x => leBytes 2 x.1 ++ code SupplyState.code x.2) (r.zone.zip zone)
    ++ list 1 (fun x => leBytes 2 x.1.element ++ leBytes 1 x.1.cls.code ++ leBytes 1 x.1.step.code
        ++ leBytes 2 x.1.order ++ lastResult x.1.last ++ leBytes 4 x.1.stepTime ++ leBytes 1 x.2.code)
        (r.entries.zip elements)

/-- The results of a DONE or ACCEPTED reply (R170). DESIGN CHOICE (log 8): the widths of the counts that have none stated (the
number of orders of an EXECUTE takes 1 byte) and the codes that 11.4 does not table. -/
def result : Result → List Byte
  | .nothing => []
  | .status r => status r
  | .subscribed l => classes l
  | .globals g => leBytes 2 g.dead ++ leBytes 2 g.vent ++ leBytes 2 g.recharge
  | .partCounts a b c d => leBytes 2 a ++ leBytes 2 b ++ leBytes 2 c ++ leBytes 2 d
  | .commit active => leBytes 1 (if active then 1 else 2)
  | .tuned o w h f => signedBytes 1 o ++ leBytes 1 w ++ leBytes 4 h ++ leBytes 2 f
  | .point t r => pointRead t r
  | .station r => stationRead r
  | .placed n => leBytes 2 n
  | .orders l => list 1 orderRead l
  | .element r => elementRead r
  | .segment r => segmentRead r
  | .outages total l => leBytes 2 total ++ list 1 outageRead l
  | .call n created g o => leBytes 2 n ++ leBytes 1 (if created then 1 else 2) ++ leBytes 1 g ++ flagBytes o
  | .incidents l => list 1 incidentLine l
  | .incident i => incidentRead i
  | .planned n => leBytes 2 n
  | .plan p b e => planRead p b e
  | .executed i n => leBytes 1 i ++ leBytes 1 n
  | .restoring i => leBytes 1 i
  | .isoSummary l => isoSummary l
  | .isoRecord i r es zs => isoRecord i r es zs

/-- A refusal code with its details (11.3.4). -/
def denial : Denial → List Byte
  | .plain c => leBytes 1 c.code
  | .conflict k n => leBytes 1 Code.conflict.code ++ leBytes 1 k.code ++ leBytes 2 n
  | .invalidImage k p n f =>
    leBytes 1 Code.invalidImage.code ++ leBytes 1 k.code ++ leBytes 2 p ++ leBytes 2 n ++ leBytes 1 f.code
  | .countMismatch k d h => leBytes 1 Code.countMismatch.code ++ leBytes 1 k.code ++ leBytes 2 d ++ leBytes 2 h
  | .checkMismatch c => leBytes 1 Code.checkMismatch.code ++ leBytes 4 c.toNat

/-- The reply kind and what follows it (11.3.4). -/
def replyBody : ReplyBody → List Byte
  | .done r => leBytes 1 1 ++ result r
  | .accepted r => leBytes 1 2 ++ result r
  | .refused d => leBytes 1 3 ++ denial d

/-- The frame of a reply (11.3.4). -/
def replyFrame (w : Waiting) : List Byte :=
  Frame.bytes { kind := 0x80, tag := w.tag, body := leBytes 1 w.kind ++ replyBody w.reply }

end Sys2Proof.Machine.Wire

namespace Sys2Proof.Machine

/-- The class of a notice (R172). -/
def NoticeBody.cls : NoticeBody → NoticeClass
  | .point _ => .point
  | .station _ => .station
  | .element _ => .element
  | .order _ => .order
  | .incident _ | .notMade _ => .incident
  | .planEnd _ => .plan
  | .outage _ => .outage
  | .loadTimeout _ _ | .activationFailed _ _ _ | .activated _ _ => .topology
  | .saveEnd _ => .store
  | .started _ => .system

/-- The event set of an INCIDENT notice as its event byte (11.3.5). -/
def EventSet.bits (e : EventSet) : Nat :=
  (if e.created then 1 else 0) + (if e.joined then 2 else 0) + (if e.grade then 4 else 0)
    + (if e.overdue then 8 else 0) + (if e.state then 16 else 0) + (if e.isolation then 32 else 0)

def OutageEvent.code : OutageEvent → Nat
  | .opened => 1
  | .state => 2
  | .cleared => 3
  | .closed => 4

/-- The event byte of a notice (11.3.5). -/
def NoticeBody.event : NoticeBody → Nat
  | .point _ | .station _ | .element _ | .order _ | .planEnd _ | .started _ => 1
  | .incident n => n.events.bits
  | .notMade _ => 0x80
  | .outage n => n.event.code
  | .loadTimeout _ _ => 1
  | .activationFailed _ _ _ => 2
  | .activated _ _ => 3
  | .saveEnd n => if n.good then 1 else 2

namespace Wire

/-- What joined an incident: its kind and its point or element (R106). DESIGN CHOICE (log 8): 3 bytes, the kind and one number
of 2 bytes that is the point or the element, 0 for CALL and where nothing joined. -/
def joined : Option JoinSource → List Byte
  | none => leBytes 3 0
  | some .call => leBytes 1 1 ++ leBytes 2 0
  | some (.pressure p) => leBytes 1 2 ++ leBytes 2 p
  | some (.falling p) => leBytes 1 3 ++ leBytes 2 p
  | some (.supply e) => leBytes 1 4 ++ leBytes 2 e

/-- The body of a notice after its header, field by field in the order of its owning rule (R180). DESIGN CHOICE (log 8): the
short body of NOT_MADE with point and element in two fields of 2 bytes, its cause written as the bit set of causes, the
result byte 1 (OK) that a PLAN_END notice carries with READY, the outcome that R177 lists first among a STORE notice's
contents written in the event byte of the header alone, so that its body begins at the reason byte, and the widths that no
text states: sends used 1 byte, total calls 2 bytes, customer-minutes 4 bytes. -/
def noticeBody : NoticeBody → List Byte
  | .point n =>
    leBytes 2 n.point ++ leBytes 2 n.segment ++ leBytes 1 n.oldQuality.code ++ leBytes 1 n.quality.code
      ++ leBytes 1 n.oldBand.code ++ leBytes 1 n.band.code ++ flagBytes n.oldFalling ++ flagBytes n.falling
      ++ pressure n.f ++ pressure n.p ++ rate n.rate ++ flagBytes n.underScale ++ flagBytes n.overScale
      ++ flagBytes n.expected ++ time n.lastSample
  | .station n =>
    leBytes 1 n.address ++ leBytes 1 n.oldState.code ++ leBytes 1 n.state.code ++ leBytes 1 n.cause.code
      ++ flagBytes n.localFlag ++ time n.lastAccepted ++ leBytes 4 n.basis.toNat
  | .element n =>
    leBytes 2 n.element ++ leBytes 1 n.oldState.code ++ leBytes 1 n.state.code ++ code Direction.code n.direction
      ++ leBytes 1 n.source.code ++ flagBytes n.unconfirmed ++ flagBytes n.faultMark ++ leBytes 4 n.changedAt
      ++ leBytes 1 n.cause.code ++ flagBytes n.passChanged ++ number 2 n.origin ++ leBytes 4 n.basis.toNat
  | .order n =>
    leBytes 2 n.order ++ leBytes 2 n.element ++ leBytes 1 n.action.code ++ origin n.origin ++ flagBytes n.override
      ++ outcome n.outcome ++ leBytes 1 n.tag ++ leBytes 1 n.sendsUsed ++ leBytes 4 n.enqueuedAt ++ leBytes 4 n.endedAt
  | .incident n =>
    leBytes 2 n.incident ++ leBytes 2 n.segment ++ causes n.causes ++ number 1 n.oldGrade ++ leBytes 1 n.grade
      ++ code IncidentState.code n.oldState ++ leBytes 1 n.state.code ++ leBytes 4 n.baseTime ++ time n.deadline
      ++ flagBytes n.overdue ++ flagBytes n.clusterEscalated ++ leBytes 2 n.totalCalls
      ++ (match n.call with
          | some c => callEntry c
          | none => leBytes 4 0 ++ leBytes 1 0 ++ time none)
      ++ number 2 n.trigPoint ++ number 2 n.trigElement ++ leBytes 1 n.isoStatus.code ++ joined n.joined
  | .notMade n =>
    leBytes 2 0 ++ leBytes 2 n.segment ++ causes n.causes ++ leBytes 1 n.grade ++ number 2 n.trigPoint
      ++ number 2 n.trigElement
  | .planEnd n =>
    leBytes 2 n.plan ++ leBytes 2 n.incident ++ leBytes 2 n.target ++ leBytes 1 n.verdict.code
      ++ code PlanResult.code n.result ++ number 2 n.failing ++ leBytes 4 n.startBasis.toNat
      ++ leBytes 4 n.endBasis.toNat ++ leBytes 1 n.zoneLength ++ leBytes 1 n.closeLength ++ leBytes 2 n.lostLength
      ++ leBytes 4 n.customers ++ leBytes 2 n.guardedCount ++ leBytes 1 n.crewCount
  | .outage n =>
    leBytes 2 n.segment ++ leBytes 1 n.oldState.code ++ leBytes 1 n.state.code ++ leBytes 4 n.openedAt
      ++ outageCause n.cause ++ leBytes 2 n.customers ++ leBytes 4 n.minutes ++ time n.clearance
      ++ leBytes 4 n.basis.toNat
  | .loadTimeout image next => leBytes 4 image ++ leBytes 2 next
  | .activationFailed image k n => leBytes 4 image ++ leBytes 1 k.code ++ leBytes 2 n
  | .activated image basis => leBytes 4 image ++ leBytes 4 basis.toNat
  | .saveEnd n =>
    leBytes 1 (if n.good then 0 else 1) ++ leBytes 4 n.image ++ leBytes 1 n.points ++ leBytes 4 n.check.toNat
      ++ leBytes 4 n.acceptedAt
  | .started n =>
    leBytes 1 n.cause.code ++ leBytes 1 n.result.code ++ leBytes 4 n.image ++ leBytes 2 n.globals.dead
      ++ leBytes 2 n.globals.vent ++ leBytes 2 n.globals.recharge

/-- The frame of a notice (11.3.5). -/
def noticeFrame (n : Notice) : List Byte :=
  Frame.bytes
    { kind := 0x81, tag := 0
      body := leBytes 1 n.body.cls.code ++ leBytes 1 n.body.event ++ leBytes 2 n.number ++ leBytes 4 n.time
        ++ noticeBody n.body }

/-- The frame of an order handed to the Field Port (R42, 11.3.3). -/
def orderFrame (o : OrderFrame) : List Byte :=
  Frame.bytes
    { kind := 0xA2, tag := o.tag, body := leBytes 1 o.station ++ leBytes 1 o.slot ++ leBytes 1 o.action.code }

end Wire

/-! ### The stored image as bytes (R175, R181) -/

/-- A SEGMENT record of the active image as its layout's values. A protected flag is written 0 or 1, as it was taken, so one
loaded as another nonzero byte is covered by the stored image check as 1 (DESIGN CHOICE, log 38). -/
def Segment.raw (s : Segment) : RawSegment :=
  { number := s.number, customers := s.customers, guarded := if s.guarded then 1 else 0 }

/-- An ELEMENT record of the active image as its layout's values. A defective flag is written 0 or 1, as it was taken, so one
loaded as another nonzero byte is covered by the stored image check as 1 (DESIGN CHOICE, log 38). -/
def Element.raw (e : Element) : RawElement :=
  { number := e.number, kind := e.kind.code, endA := e.endA, endB := e.endB, cls := e.cls.code, station := e.station
    slot := e.slot, stroke := e.stroke, defective := if e.defective then 1 else 0 }

def Point.raw (p : Point) : RawPoint :=
  { number := p.number, segment := p.segment, station := p.station, slot := p.slot, pl := p.pl, ph := p.ph }

def StationTopo.raw (s : StationTopo) : RawStation :=
  { address := s.address, limit := s.limit, mode := s.mode.code }

/-- The records of an image in the order SEGMENT, ELEMENT, POINT, STATION (R181). -/
def Image.raw (i : Image) : List RawRecord :=
  i.segments.map (fun s => .segment s.raw) ++ i.elements.map (fun e => .element e.raw)
    ++ i.points.map (fun p => .point p.raw) ++ i.stations.map (fun s => .station s.raw)

def RawRecord.bytes : RawRecord → List Byte
  | .segment r => r.bytes
  | .element r => r.bytes
  | .point r => r.bytes
  | .station r => r.bytes

/-- The stored contents in the order of R175 (R181). -/
def StoreContents.bytes (c : StoreContents) : List Byte :=
  leBytes 4 c.image.number ++ c.image.raw.flatMap RawRecord.bytes
    ++ c.settings.flatMap (fun p => signedBytes 1 p.offset ++ leBytes 1 p.weight ++ leBytes 4 p.hyst
        ++ leBytes 2 p.fallLimit ++ Wire.limits p.limits)
    ++ leBytes 2 c.globals.dead ++ leBytes 2 c.globals.vent ++ leBytes 2 c.globals.recharge

/-- The check of the stored contents (R175). -/
def StoreContents.check (c : StoreContents) : BitVec 32 := crc32 c.bytes

end Sys2Proof.Machine
end

