-- ==== Sys2Proof/Machine/Ops.lean ====
section
/-! DEFINITION. The named operations every block uses: reading and updating the tables, notices, replies, the transmitter,
the network basis. -/

namespace Sys2Proof.Machine

/-- The part time of the event in hand (R1). -/
def State.now (s : State) : Nat := s.partTime.toNat

/-- Whether the part carries out events: it has its supply and is not held (R178). -/
def State.running (s : State) : Bool := s.power = .running

/-! ### Tables of the active image -/

def Image.segment? (i : Image) (n : Nat) : Option Segment := i.segments.find? fun r => r.number = n
def Image.element? (i : Image) (n : Nat) : Option Element := i.elements.find? fun r => r.number = n
def Image.point? (i : Image) (n : Nat) : Option Point := i.points.find? fun r => r.number = n
def Image.station? (i : Image) (a : Nat) : Option StationTopo := i.stations.find? fun r => r.address = a

/-- The active image's records by number; none without an active image (R3). -/
def State.segTopo? (s : State) (n : Nat) : Option Segment := s.net.active.bind (·.segment? n)
def State.elemTopo? (s : State) (n : Nat) : Option Element := s.net.active.bind (·.element? n)
def State.pointTopo? (s : State) (n : Nat) : Option Point := s.net.active.bind (·.point? n)
def State.stationTopo? (s : State) (a : Nat) : Option StationTopo := s.net.active.bind (·.station? a)

/-- The element, point and station lists of the active image; empty without one. -/
def State.elementsOf (s : State) : List Element := (s.net.active.map (·.elements)).getD []
def State.pointsOf (s : State) : List Point := (s.net.active.map (·.points)).getD []

/-! ### Run-time tables -/

def State.station? (s : State) (a : Nat) : Option Station := s.field.stations.find? fun r => r.address = a
def State.point? (s : State) (n : Nat) : Option PointRec := s.points.find? fun r => r.number = n
def State.element? (s : State) (n : Nat) : Option ElementRec := s.elements.table.find? fun r => r.number = n
def State.seg? (s : State) (n : Nat) : Option SegSupply := s.supply.segs.find? fun r => r.segment = n
def State.outage? (s : State) (n : Nat) : Option Outage := s.supply.outages.find? fun r => r.segment = n
def State.order? (s : State) (n : Nat) : Option Order := s.elements.queue.find? fun r => r.number = n

/-- The order of an element: the queue holds no two for one element (R116). -/
def State.orderOf? (s : State) (e : Nat) : Option Order := s.elements.queue.find? fun r => r.element = e

/-- The incidents of the table, by slot position (R87). -/
def State.incidentList (s : State) : List Incident := s.incidents.slots.filterMap id

def State.incident? (s : State) (n : Nat) : Option Incident := s.incidentList.find? fun i => i.number = n

/-- The isolation record of an index counted from 0 (R152 counts from 1). -/
def State.record? (s : State) (k : Nat) : Option IsoRecord := (s.register.records[k]?).join

def State.updStation (a : Nat) (g : Station → Station) (s : State) : State :=
  { s with field := { s.field with stations := s.field.stations.map fun r => if r.address = a then g r else r } }

def State.updPoint (n : Nat) (g : PointRec → PointRec) (s : State) : State :=
  { s with points := s.points.map fun r => if r.number = n then g r else r }

def State.updElement (n : Nat) (g : ElementRec → ElementRec) (s : State) : State :=
  { s with elements := { s.elements with table := s.elements.table.map fun r => if r.number = n then g r else r } }

def State.updSeg (n : Nat) (g : SegSupply → SegSupply) (s : State) : State :=
  { s with supply := { s.supply with segs := s.supply.segs.map fun r => if r.segment = n then g r else r } }

def State.updOutage (n : Nat) (g : Outage → Outage) (s : State) : State :=
  { s with supply := { s.supply with outages := s.supply.outages.map fun r => if r.segment = n then g r else r } }

def State.updOrder (n : Nat) (g : Order → Order) (s : State) : State :=
  { s with elements := { s.elements with queue := s.elements.queue.map fun r => if r.number = n then g r else r } }

def State.updIncident (n : Nat) (g : Incident → Incident) (s : State) : State :=
  { s with incidents :=
      { s.incidents with slots := s.incidents.slots.map fun x => x.map fun i => if i.number = n then g i else i } }

def State.updRecord (k : Nat) (g : IsoRecord → IsoRecord) (s : State) : State :=
  { s with register := { records := s.register.records.modify k (Option.map g) } }

/-- An entry of a record, by its element (R152: no element twice). -/
def IsoRecord.entry? (r : IsoRecord) (e : Nat) : Option Entry := r.entries.find? fun x => x.element = e

def IsoRecord.updEntry (r : IsoRecord) (e : Nat) (g : Entry → Entry) : IsoRecord :=
  { r with entries := r.entries.map fun x => if x.element = e then g x else x }

/-- The index (from 0) of the record in use that holds an element (R154: at most one). -/
def State.recordHolding (s : State) (e : Nat) : Option Nat :=
  (List.range s.register.records.length).find? fun k => ((s.record? k).bind (·.entry? e)).isSome

/-- The index (from 0) of the record in use of an incident (R152). -/
def State.recordOf (s : State) (incident : Nat) : Option Nat :=
  (List.range s.register.records.length).find? fun k => (s.record? k).any fun r => r.incident = incident

/-! ### Numbers that run on -/

/-- The number after `n` in 1..`top`, following `top` with 1. -/
def after (top n : Nat) : Nat := if n < top then n + 1 else 1

/-- The first number from `n` on that no member of `held` is (R87, R116). The first argument bounds the search. -/
def freeNumber (top : Nat) (held : List Nat) : Nat → Nat → Nat
  | 0, n => n
  | fuel + 1, n => if n ∈ held then freeNumber top held fuel (after top n) else n

/-- Ascending insertion, for tables kept by number. -/
def insertBy {α : Type} (key : α → Nat) (x : α) : List α → List α
  | [] => [x]
  | y :: ys => if key x ≤ key y then x :: y :: ys else y :: insertBy key x ys

def sortBy {α : Type} (key : α → Nat) (l : List α) : List α := l.foldr (insertBy key) []

/-- The lowest member of a list of numbers. -/
def lowest : List Nat → Option Nat
  | [] => none
  | n :: ns => some (ns.foldl min n)

/-! ### Network basis (R12) -/

/-- One increase of the network basis, wrapping (R12). -/
def bumpBasis (s : State) : State := { s with net := { s.net with basis := s.net.basis + 1 } }

/-- The two increases of R110 step 1, each made on its condition. -/
def bumpBasisIf (c : Bool) (s : State) : State := if c then bumpBasis s else s

/-! ### One notice per incident and point in one event (R65, R106) -/

/-- Two event sets of one incident together (R106). -/
def EventSet.union (a b : EventSet) : EventSet :=
  { created := a.created || b.created, joined := a.joined || b.joined, grade := a.grade || b.grade
    overdue := a.overdue || b.overdue, state := a.state || b.state, isolation := a.isolation || b.isolation }

/-- An event set of a notice that brought something into its incident. -/
def EventSet.joins (e : EventSet) : Bool := e.created || e.joined

/-- Two INCIDENT notices of one incident, raised one after the other in one event, as its one notice: every change, the old
values of the first, the new values of the second. What joined is what the later joining names; a notice that only raised
the grade names its source where nothing joined (R106, log 9). -/
def IncidentNotice.merge (a b : IncidentNotice) : IncidentNotice :=
  { b with
    events := a.events.union b.events
    oldGrade := a.oldGrade
    oldState := a.oldState
    call := b.call <|> a.call
    joined := if a.events.joins && !b.events.joins then a.joined else b.joined <|> a.joined }

/-- Two POINT notices of one point, raised one after the other in one event, as its one notice (R65, log 9). -/
def PointNotice.merge (a b : PointNotice) : PointNotice :=
  { b with oldQuality := a.oldQuality, oldBand := a.oldBand, oldFalling := a.oldFalling }

/-- The one notice that an event sends for two notices of one incident or of one point; none where both are sent. -/
def NoticeBody.merge? : NoticeBody → NoticeBody → Option NoticeBody
  | .incident a, .incident b => if a.incident = b.incident then some (.incident (a.merge b)) else none
  | .point a, .point b => if a.point = b.point then some (.point (a.merge b)) else none
  | _, _ => none

/-- A notice added to those its event has raised so far. It stands last, and takes up the earlier notice of its incident or
point, if there is one (DESIGN CHOICE of the place, log 9). -/
def gather (b : NoticeBody) : List NoticeBody → List NoticeBody
  | [] => [b]
  | a :: l =>
    match a.merge? b with
    | some c => gather c l
    | none => a :: gather b l

/-! ### Notices (R172) -/

/-- A subscribed notice takes the next number, and is queued, or discarded with OVERRUN set (R172). -/
def queueNotice (b : NoticeBody) (s : State) : State :=
  let c := { s.control with nextNotice := (s.control.nextNotice + 1) % 65536 }
  if Config.noticeLimit ≤ s.control.notices.length then { s with control := { c with overrun := true } }
  else
    { s with control :=
        { c with notices := s.control.notices ++ [{ number := s.control.nextNotice, time := s.now, body := b }] } }

/-- A notice passed to the Control Port: dropped if its class is not subscribed, else numbered and queued (R172). Inside an
event it waits among the event's notices for the event's end. -/
def passNotice (b : NoticeBody) (s : State) : State :=
  if b.cls ∈ s.control.subscribed then
    match s.control.gathered with
    | some l => { s with control := { s.control with gathered := some (gather b l) } }
    | none => queueNotice b s
  else s

/-- Notices passed one after another. -/
def passNotices (l : List NoticeBody) (s : State) : State := l.foldl (fun s b => passNotice b s) s

/-! ### Events -/

/-- An event begins: no notice has been raised in it. -/
def openEvent (s : State) : State := { s with control := { s.control with gathered := some [] } }

/-- An event ends: its notices are passed in their order. -/
def closeEvent (s : State) : State :=
  match s.control.gathered with
  | some l => passNotices l { s with control := { s.control with gathered := none } }
  | none => s

/-- An event: what it does, with its notices gathered to one for each incident and each point (R65, R106, log 9). An event
inside an event is part of it. -/
def inEvent (f : State → State) (s : State) : State :=
  match s.control.gathered with
  | some _ => f s
  | none => closeEvent (f (openEvent s))

/-! ### Replies and the transmitter (R168 to R171) -/

/-- The pending-request list: taken requests whose replies wait (R169). -/
def ControlPort.listed (c : ControlPort) : List Waiting := c.replies.filter (·.listed)

/-- The BUSY refusals that wait beside it (R169). -/
def ControlPort.busyWaiting (c : ControlPort) : List Waiting := c.replies.filter (!·.listed)

/-- A RESTART has been taken and the last byte of its reply has not been transmitted (R171): a listed DONE reply to the kind
RESTART waits. -/
def ControlPort.restarting (c : ControlPort) : Bool :=
  c.replies.any fun w => w.listed && w.kind = 0x04 && w.reply = .done .nothing

/-- The transmitter takes the next frame: the oldest reply of the reply order if any waits, otherwise the oldest notice of
the notice queue (R171). -/
def takeNext (s : State) : State :=
  match s.control.replies with
  | w :: _ => { s with control := { s.control with line := .reply (Wire.replyFrame w) } }
  | [] =>
    match s.control.notices with
    | n :: ns => { s with control := { s.control with line := .notice (Wire.noticeFrame n), notices := ns } }
    | [] => { s with control := { s.control with line := .free } }

/-- A free line takes whatever waits; a frame once begun goes on to its last byte (R171). A request's own notices wait for
its reply, so an event's take is made at its end: by `pushReply` for a request, by `startLine` for any other (log 16). -/
def startLine (s : State) : State := if s.control.line = .free then takeNext s else s

/-- An event that is no request: what it does, and the free line's take at its end (R171, log 16). -/
def ownEvent (f : State → State) (s : State) : State := startLine (inEvent f s)

/-- A reply joins the reply order, and a free line begins to transmit the oldest that waits (R169, R171). -/
def pushReply (w : Waiting) (s : State) : State :=
  startLine { s with control := { s.control with replies := s.control.replies ++ [w] } }

/-- The Control Port receiver is hunting after the last check byte of a frame (R167). -/
def huntControl (s : State) : State := { s with control := { s.control with rx := [] } }

/-- The Field Port receiver is hunting after the last check byte of a frame (R28). -/
def huntField (s : State) : State := { s with field := { s.field with rx := [] } }

/-- One second without a byte of a begun frame, on either line (R28, R167). -/
def partialDue (now : Nat) (rx : List Byte) (rxAt : Nat) : Bool := !rx.isEmpty && rxAt + 1 ≤ now

/-- What a request's own rules make of it: the state and the reply (R168). -/
abbrev Served := State × ReplyBody

def refuse (c : Code) (s : State) : Served := (s, .refused (.plain c))

/-- The tests of R168 for a frame of a request kind with a good check, with the discard of R171 after a RESTART and of R178
while the part is held: BUSY beside a full pending-request list, MALFORMED for tag 0 or a body that does not fit, else
the request is handed to its block, and the reply is made in the same event, from the part as the request found it. -/
def takeRequest {α : Type} (kind tag : Nat) (body : Body α) (serve : α → State → Served) (s : State) : State :=
  if !s.running then s
  else if s.control.restarting then huntControl s
  else if Config.pendingLimit ≤ s.control.listed.length then
    if s.control.busyWaiting.length < Config.busyLimit then
      pushReply { tag := tag, kind := kind, reply := .refused (.plain .busy), listed := false } (huntControl s)
    else huntControl s
  else if tag = 0 then
    pushReply { tag := tag, kind := kind, reply := .refused (.plain .malformed), listed := true } (huntControl s)
  else
    match body with
    | .misfit _ =>
      pushReply { tag := tag, kind := kind, reply := .refused (.plain .malformed), listed := true } (huntControl s)
    | .fits a =>
      pushReply { tag := tag, kind := kind, reply := (serve a (huntControl s)).2, listed := true }
        (inEvent (fun u => (serve a u).1) (huntControl s))

/-- R13: without an active image the request is REFUSED with NO_TOPOLOGY, before any other test. -/
def needImage (serve : Image → State → Served) (s : State) : Served :=
  match s.net.active with
  | none => refuse .noTopology s
  | some img => serve img s

/-! ### Free values -/

/-- One more free value has been read. -/
def draw (s : State) : State := { s with drawn := s.drawn + 1 }

end Sys2Proof.Machine
end

