-- ==== Sys2Proof/Machine/Topology.lean ====
section
/-! DEFINITION. The records of an image: validation, typed records, likeness (R5, R6, R8). -/

namespace Sys2Proof.Machine

def RawRecord.kind : RawRecord → RecordKind
  | .segment _ => .segment
  | .element _ => .element
  | .point _ => .point
  | .station _ => .station

def RawRecord.number : RawRecord → Nat
  | .segment r => r.number
  | .element r => r.number
  | .point r => r.number
  | .station r => r.address

/-- The numbers a kind may hold (R3). -/
def RecordKind.top : RecordKind → Nat
  | .segment => Config.segmentLimit
  | .element => Config.elementLimit
  | .point => Config.pointLimit
  | .station => Config.stationLimit

def hasSegment (all : List RawRecord) (n : Nat) : Bool := all.any fun r => r.kind = .segment && r.number = n

def hasStation (all : List RawRecord) (a : Nat) : Bool := all.any fun r => r.kind = .station && r.number = a

/-- ENDS (R8), by the kind's code. -/
def endsWrong (e : RawElement) : Bool :=
  match ElementKind.ofCode e.kind with
  | some .source => e.endA ≠ 0 || e.endB = 0
  | _ => e.endA = 0 || e.endA = e.endB || e.endB = 0

def isRemote (e : RawElement) : Bool := OpClass.ofCode e.cls = some .remote

/-- An earlier REMOTE element of the image names the same station and slot (R8 SLOT). -/
def elementSlotTaken (earlier : List RawRecord) (e : RawElement) : Bool :=
  earlier.any fun r =>
    match r with
    | .element x => isRemote x && x.station = e.station && x.slot = e.slot
    | _ => false

/-- An earlier point of the image names the same station and slot (R8 SLOT). -/
def pointSlotTaken (earlier : List RawRecord) (p : RawPoint) : Bool :=
  earlier.any fun r =>
    match r with
    | .point x => x.station = p.station && x.slot = p.slot
    | _ => false

/-- The first check of R8's table that a record fails, from top to bottom. `all` is the whole standby image, `earlier` its
records before this one in load order. -/
def recordFault (all earlier : List RawRecord) (r : RawRecord) : Option ImageFault :=
  let both : List (Bool × ImageFault) :=
    [ (!(1 ≤ r.number && r.number ≤ r.kind.top), .number),
      (earlier.any fun x => x.kind = r.kind && x.number = r.number, .repeatedNumber) ]
  let own : List (Bool × ImageFault) :=
    match r with
    | .segment _ => []
    | .element e =>
      [ ((ElementKind.ofCode e.kind).isNone || (OpClass.ofCode e.cls).isNone, .badCode),
        (endsWrong e, .ends),
        ((e.endA ≠ 0 && !hasSegment all e.endA) || !hasSegment all e.endB, .noSegment),
        (!isRemote e && e.station ≠ 0, .cls),
        (isRemote e && !hasStation all e.station, .noStation),
        (isRemote e && (7 < e.slot || elementSlotTaken earlier e), .slot),
        (!(10 ≤ e.stroke && e.stroke ≤ 900), .stroke) ]
    | .point p =>
      [ (!hasSegment all p.segment, .noSegment),
        (!hasStation all p.station, .noStation),
        (7 < p.slot || pointSlotTaken earlier p, .slot),
        (p.ph ≤ p.pl || p.ph - p.pl < 100 || 1000000 < p.ph, .span) ]
    | .station t =>
      [ ((SilenceMode.ofCode t.mode).isNone, .badCode),
        (!(10 ≤ t.limit && t.limit ≤ 3600), .silence) ]
  ((both ++ own).find? (·.1)).map (·.2)

/-- Validation (R8): the first fault of the first record that fails, with the record's kind, its position among the records
of that kind counted from 1, and the number it holds. -/
def validateFrom (all : List RawRecord) : List RawRecord → List RawRecord → Option Denial
  | _, [] => none
  | earlier, r :: rest =>
    match recordFault all earlier r with
    | some f =>
      some (.invalidImage r.kind ((earlier.filter fun x => x.kind = r.kind).length + 1) r.number f)
    | none => validateFrom all (earlier ++ [r]) rest

def validate (all : List RawRecord) : Option Denial := validateFrom all [] all

/-! ### Typed records -/

def Segment.ofRaw (r : RawSegment) : Segment :=
  { number := r.number, customers := r.customers, guarded := r.guarded ≠ 0 }

def Element.ofRaw (r : RawElement) : Option Element :=
  match ElementKind.ofCode r.kind, OpClass.ofCode r.cls with
  | some k, some c =>
    some { number := r.number, kind := k, endA := r.endA, endB := r.endB, cls := c, station := r.station
           slot := r.slot, stroke := r.stroke, defective := r.defective ≠ 0 }
  | _, _ => none

def Point.ofRaw (r : RawPoint) : Point :=
  { number := r.number, segment := r.segment, station := r.station, slot := r.slot, pl := r.pl, ph := r.ph }

def StationTopo.ofRaw (r : RawStation) : Option StationTopo :=
  (SilenceMode.ofCode r.mode).map fun m => { address := r.address, limit := r.limit, mode := m }

/-- The image that validated records make, each kind in ascending number. -/
def Image.ofRaw (number : Nat) (l : List RawRecord) : Image where
  number := number
  segments := sortBy (·.number) (l.filterMap fun r => match r with
    | .segment x => some (Segment.ofRaw x)
    | _ => none)
  elements := sortBy (·.number) (l.filterMap fun r => match r with
    | .element x => Element.ofRaw x
    | _ => none)
  points := sortBy (·.number) (l.filterMap fun r => match r with
    | .point x => some (Point.ofRaw x)
    | _ => none)
  stations := sortBy (·.address) (l.filterMap fun r => match r with
    | .station x => StationTopo.ofRaw x
    | _ => none)

/-- Alike elements (R5): the same kind and the same ends; a VALVE's ends count the same in swapped order. -/
def alike (a b : Element) : Bool :=
  a.kind = b.kind &&
  match a.kind with
  | .valve => (a.endA = b.endA && a.endB = b.endB) || (a.endA = b.endB && a.endB = b.endA)
  | .regulator => a.endA = b.endA && a.endB = b.endB
  | .source => a.endB = b.endB

/-- Points with the same range (R6). -/
def sameRange (a b : Point) : Bool := a.pl = b.pl && a.ph = b.ph

/-- The records of a TOPO_PART in the order sent. -/
def partRaw : PartRecords → List RawRecord
  | .segments l => l.map .segment
  | .elements l => l.map .element
  | .points l => l.map .point
  | .stations l => l.map .station
  | .unknown _ _ => []

def partKind : PartRecords → Option RecordKind
  | .segments _ => some .segment
  | .elements _ => some .element
  | .points _ => some .point
  | .stations _ => some .station
  | .unknown _ _ => none

/-- How many records of a kind a list of records holds. -/
def countKind (k : RecordKind) (l : List RawRecord) : Nat := (l.filter fun r => r.kind = k).length

end Sys2Proof.Machine
end

