-- ==== Sys2Proof/Machine/Network.lean ====
section
/-! DEFINITION. Passability, reachability and the sets derived from them (R9 to R11). -/

namespace Sys2Proof.Machine

/-- A state passes gas when it is anything other than CLOSED (R9). -/
def ElementState.passes (e : ElementState) : Bool := e ≠ .closed

/-- Whether an element passes gas in its present state (R9). Every element of the active image has a record (R9, R25). -/
def State.passable (s : State) (n : Nat) : Bool :=
  match s.element? n with
  | some r => r.state.passes
  | none => true

/-- Whether element `e`, if it is passable, carries gas into segment `n` from the segments already in the set, or from
transmission (R10). -/
def carriesInto (e : Element) (set : List Nat) (n : Nat) : Bool :=
  match e.kind with
  | .source => e.endB = n
  | .valve => (e.endA = n && set.contains e.endB) || (e.endB = n && set.contains e.endA)
  | .regulator => e.endB = n && set.contains e.endA

/-- One round of the closure: the set, with every segment some passable element carries gas into (R10). -/
def reachRound (img : Image) (pass : Nat → Bool) (set : List Nat) : List Nat :=
  (img.segments.map (·.number)).filter fun n =>
    set.contains n || img.elements.any fun e => pass e.number && carriesInto e set n

/-- Rounds of the closure until nothing more is added; the first argument bounds their number (R10). -/
def reachLoop (img : Image) (pass : Nat → Bool) : Nat → List Nat → List Nat
  | 0, set => set
  | fuel + 1, set =>
    let next := reachRound img pass set
    if next = set then set else reachLoop img pass fuel next

/-- The reachable segments of an image, in ascending number, under a judgement of which elements are passable: each round
but the last adds a segment, so as many rounds as there are segments are enough (R10). -/
def reach (img : Image) (pass : Nat → Bool) : List Nat := reachLoop img pass (img.segments.length + 1) []

/-- Reachability with the element states of the moment and no substitution (R10, R69). -/
def State.reachable (s : State) : List Nat :=
  match s.net.active with
  | none => []
  | some img => reach img s.passable

/-- Reachability with one element treated as passable (R10). -/
def State.reachableWith (s : State) (e : Nat) : List Nat :=
  match s.net.active with
  | none => []
  | some img => reach img fun n => n = e || s.passable n

/-- Reachability with one element treated as CLOSED (R10). -/
def State.reachableWithout (s : State) (e : Nat) : List Nat :=
  match s.net.active with
  | none => []
  | some img => reach img fun n => n ≠ e && s.passable n

/-- The gaining segments of an element (R11). -/
def State.gaining (s : State) (e : Nat) : List Nat :=
  (s.reachableWith e).filter fun n => !(s.reachable).contains n

/-- The segments lost by closing an element (R11). -/
def State.lostBy (s : State) (e : Nat) : List Nat :=
  (s.reachable).filter fun n => !(s.reachableWithout e).contains n

/-- The elements touching a segment, in ascending number (R11). -/
def touching (img : Image) (n : Nat) : List Element :=
  img.elements.filter fun e => e.endA = n || e.endB = n

/-- Whether two segments share a VALVE, whatever that valve's state (R11). -/
def valveNeighbours (img : Image) (a b : Nat) : Bool :=
  a ≠ b && img.elements.any fun e =>
    e.kind = .valve && ((e.endA = a && e.endB = b) || (e.endA = b && e.endB = a))

/-- Whether a segment is protected in the active image (R4). -/
def State.guardedSegment (s : State) (n : Nat) : Bool := (s.segTopo? n).any (·.guarded)

/-- Whether an element is operable (R114). -/
def State.operable (s : State) (e : Element) : Bool :=
  match s.element? e.number with
  | none => false
  | some r =>
    !e.defective && !r.faultMark &&
    match e.cls with
    | .manual => true
    | .remote =>
      (s.station? e.station).any (fun t => t.state = .reporting) && r.state ≠ .unknown && r.state ≠ .fault
        && !r.unconfirmed

end Sys2Proof.Machine
end

