-- ==== Sys2Proof/Machine/Flags.lean ====
section
/-! DEFINITION. The flag and band computations of a point: UNDER, OVER, FALLING, the band state, EXPECTED (R51, R58 to
R60). -/

namespace Sys2Proof.Machine

/-- `x` bounded to `lo`..`hi`. -/
def clampInt (lo hi x : Int) : Int := if x < lo then lo else if hi < x then hi else x

/-- The bottom and top counts of the live scale (R51). -/
def scaleLow : Int := 800
def scaleHigh : Int := 4000

/-- UNDER and OVER for a corrected count (R51). -/
def underFlag (k : Int) : Bool := k < scaleLow
def overFlag (k : Int) : Bool := scaleHigh < k

/-- FALLING after the rate of a sample is known (R58). -/
def fallingAfter (fallLimit : Nat) (rate : Option Int) (before : Bool) : Bool :=
  match rate with
  | none => before
  | some r =>
    if 0 < fallLimit ∧ r ≤ -(fallLimit : Int) then true
    else if -((fallLimit / 2 : Nat) : Int) ≤ r then false
    else before

/-- The band state after a sample: the first line of R59's table that applies. -/
def bandAfter (l : Limits) (hyst : Nat) (before : Band) (f : Int) : Band :=
  let h : Int := hyst
  if f < l.ll then .lowLow
  else if f < l.l then (if before = .lowLow ∧ f < l.ll + h then .lowLow else .low)
  else if l.hh < f then .highHigh
  else if l.h < f then (if before = .highHigh ∧ l.hh - h < f then .highHigh else .high)
  else if before = .lowLow ∧ f < l.ll + h then .lowLow
  else if (before = .low ∨ before = .lowLow) ∧ f < l.l + h then .low
  else if before = .highHigh ∧ l.hh - h < f then .highHigh
  else if (before = .high ∨ before = .highHigh) ∧ l.h - h < f then .high
  else .normal

/-- EXPECTED, from the supply state of the point's segment (R60). -/
def expectedFlag (supply : Option SupplyState) : Bool := supply.any fun x => x ≠ .live

end Sys2Proof.Machine
end

