-- ==== Sys2Proof/Machine/Pressure.lean ====
section
/-! DEFINITION. The evaluation of one reading, the stale rule and the POINT notice (R45 to R65). -/

namespace Sys2Proof.Machine

/-- A point record at its defaults for a range (R46). -/
def PointRec.fresh (t : Point) : PointRec :=
  { number := t.number, pl := t.pl, ph := t.ph, offset := 0, weight := 16, fallLimit := 0
    limits := { ll := t.pl, l := t.pl, h := t.ph, hh := t.ph }, hyst := 0, pendingLimits := none, quality := .never
    underScale := false, overScale := false, p := none, f := none, history := [], rate := none, falling := false
    band := .normal, expected := false, lastSample := none }

/-- The least raw count of a whole current loop (R50). -/
def liveZero : Nat := 760

/-- The quality judgement, on the count as received (R50): the fault quality of a reading that is not accepted. -/
def faultOf (count : Nat) (faulty : Bool) : Option Quality :=
  if faulty then some .sensorFault else if count < liveZero then some .wireFault else none

/-- The corrected count of an accepted reading, before its clamp (R51). -/
def correctedCount (count : Nat) (offset : Int) : Int := (count : Int) + offset

/-- Conversion of a clamped count to pascals (R52). -/
def convert (pl ph : Nat) (k : Int) : Int := (pl : Int) + ((k - 800) * ((ph : Int) - pl) + 1600) / 3200

/-- Stage 3, step 1: the pending limits become the active limits (R53). -/
def latchLimits (r : PointRec) : PointRec :=
  match r.pendingLimits with
  | some (l, h) => { r with limits := l, hyst := h, pendingLimits := none }
  | none => r

/-- Stage 3, step 2: the hysteresis bounded by half the active H - L (R53). -/
def clampHyst (r : PointRec) : PointRec :=
  { r with hyst := min r.hyst ((r.limits.h - r.limits.l) / 2).toNat }

/-- A quotient by 16 to the nearest integer, a tie away from zero (R55). -/
def round16 (x : Int) : Int := if 0 ≤ x then (x + 8) / 16 else -((-x + 8) / 16)

/-- The filter moved from `f` towards `p` with weight `w` (R55). -/
def filterStep (f p : Int) (w : Nat) : Int := f + round16 ((p - f) * w)

/-- Stage 4: the filter seeded (R54) or updated (R55); the quality becomes GOOD. -/
def filterStage (p : Int) (r : PointRec) : PointRec :=
  match r.quality, r.f with
  | .good, some f => { r with f := some (filterStep f p r.weight) }
  | _, _ => { r with f := some p, history := [], falling := false, quality := .good }

/-- The entry of a sample's pair in the history (R56): replace or append, keep the newest eight, drop what is older than
600 s. -/
def enterHistory (now : Nat) (f : Int) (l : List (Nat × Int)) : List (Nat × Int) :=
  let l :=
    match l.getLast? with
    | some e => if e.1 = now then l.dropLast ++ [(now, f)] else l ++ [(now, f)]
    | none => [(now, f)]
  (l.drop (l.length - Config.historyLimit)).filter fun e => now ≤ e.1 + Config.historySpan

/-- The rate from the oldest entry of the history (R57). -/
def rateOf (now : Nat) (f : Int) (l : List (Nat × Int)) : Option Int :=
  match l with
  | [] => none
  | (t, g) :: _ => if now < t + Config.rateSpan then none else some (((f - g) * 60).tdiv ((now : Int) - t))

/-- Stage 5: history, rate, FALLING (R56 to R58). -/
def historyStage (now : Nat) (f : Int) (r : PointRec) : PointRec :=
  let l := enterHistory now f r.history
  let rate := rateOf now f l
  { r with history := l, rate := rate, falling := fallingAfter r.fallLimit rate r.falling }

/-- Stage 6 (R59). -/
def bandStage (f : Int) (r : PointRec) : PointRec := { r with band := bandAfter r.limits r.hyst r.band f }

/-- All seven stages of an accepted reading, with the supply state of the point's segment at this moment (R51 to R60). -/
def sampleStages (now count : Nat) (supply : Option SupplyState) (r : PointRec) : PointRec :=
  let k := correctedCount count r.offset
  let p := convert r.pl r.ph (clampInt scaleLow scaleHigh k)
  let r := { r with underScale := underFlag k, overScale := overFlag k, p := some p, lastSample := some now }
  let r := filterStage p (clampHyst (latchLimits r))
  let f := r.f.getD p
  let r := bandStage f (historyStage now f r)
  { r with expected := expectedFlag supply }

/-- A reading that is not accepted: the quality changes and R is not available; all else is held (R50, R61). -/
def faultStage (q : Quality) (r : PointRec) : PointRec := { r with quality := q, rate := none }

/-- One reading evaluated (R49 to R60). -/
def evaluate (now count : Nat) (faulty : Bool) (supply : Option SupplyState) (r : PointRec) : PointRec :=
  match faultOf count faulty with
  | some q => faultStage q r
  | none => sampleStages now count supply r

/-- A point whose station has left REPORTING (R62, R63). -/
def staleOf (r : PointRec) : PointRec :=
  match r.quality with
  | .good | .wireFault | .sensorFault => { r with quality := .stale, rate := none }
  | .never | .stale => r

/-- The POINT notice for a change of a record, if the change calls for one (R65). -/
def pointNotice (segment : Nat) (old new : PointRec) : Option NoticeBody :=
  if old.quality = new.quality ∧ old.band = new.band ∧ old.falling = new.falling then none
  else
    some (.point
      { point := new.number, segment := segment, oldQuality := old.quality, quality := new.quality
        oldBand := old.band, band := new.band, oldFalling := old.falling, falling := new.falling
        f := new.f, p := new.p, rate := new.rate, underScale := new.underScale, overScale := new.overScale
        expected := new.expected, lastSample := new.lastSample })

/-- The segment of a point in the active image (R45, R64). -/
def State.segmentOfPoint (s : State) (n : Nat) : Nat := ((s.pointTopo? n).map (·.segment)).getD 0

/-- A point record replaced, with its POINT notice where one is due (R65). -/
def setPoint (new : PointRec) (s : State) : State :=
  match s.point? new.number with
  | none => s
  | some old => passNotices (pointNotice (s.segmentOfPoint new.number) old new).toList (s.updPoint new.number fun _ => new)

/-- The points of a station that has left REPORTING become STALE, with their notices in ascending number (R62). -/
def stalePoints (station : Nat) (s : State) : State :=
  (s.pointsOf.filter fun t => t.station = station).foldl
    (fun s t => match s.point? t.number with
      | some r => setPoint (staleOf r) s
      | none => s) s

end Sys2Proof.Machine
end

