-- ==== Sys2Proof/Machine/Incidents.lean ====
section
/-! DEFINITION. The incident table: slots, correlation, joining, grades, deadlines, automatic events and the INCIDENT
notice (R86 to R106). -/

namespace Sys2Proof.Machine

/-! ### Notices (R106) -/

/-- The event set of one change of an incident; the notices of one event are gathered to one (R106, `gather`). -/
def incidentEvents (old : Option Incident) (new : Incident) (joined : Bool) : EventSet :=
  match old with
  | none => { created := true, joined := false, grade := false, overdue := new.overdue, state := false, isolation := false }
  | some o =>
    { created := false, joined := joined, grade := o.grade ≠ new.grade, overdue := !o.overdue && new.overdue
      state := o.state ≠ new.state, isolation := o.isoStatus ≠ new.isoStatus }

/-- An event set that names no change: no notice is sent for it. -/
def EventSet.isEmpty (e : EventSet) : Bool :=
  !e.created && !e.joined && !e.grade && !e.overdue && !e.state && !e.isolation

/-- The INCIDENT notice of a change that took an incident from `old` (absent at creation) to `new`; `joined` when the change
joined it, `source` what it came from, `call` the call that joined (R106, logs 9 and 10). -/
def incidentNotice (old : Option Incident) (new : Incident) (joined : Bool) (source : Option JoinSource)
    (call : Option CallEntry) : Option NoticeBody :=
  let e := incidentEvents old new joined
  if e.isEmpty then none
  else
    some (.incident
      { incident := new.number, segment := new.segment, events := e, causes := new.causes
        oldGrade := old.map (·.grade), grade := new.grade, oldState := old.map (·.state), state := new.state
        baseTime := new.baseTime, deadline := new.deadline, overdue := new.overdue
        clusterEscalated := new.clusterEscalated, totalCalls := new.totalCalls, call := call
        trigPoint := new.trigPoint, trigElement := new.trigElement, isoStatus := new.isoStatus, joined := source })

/-- An incident replaced by its changed record, with the notice of the change where one is due. -/
def setIncident (old new : Incident) (joined : Bool) (source : Option JoinSource) (call : Option CallEntry)
    (s : State) : State :=
  passNotices (incidentNotice (some old) new joined source call).toList (s.updIncident old.number fun _ => new)

/-! ### Slots and numbers (R87) -/

/-- The earlier of two CLOSED incidents' slots: by closed time, then by number. -/
def earlierClosed (a b : Nat × Incident) : Nat × Incident :=
  let t := fun (x : Nat × Incident) => x.2.closedAt.getD 0
  if t b < t a || (t b = t a && b.2.number < a.2.number) then b else a

/-- The slot for a new incident: the lowest free slot, else the slot of the earliest CLOSED incident, else none. -/
def chooseSlot (slots : List (Option Incident)) : Option Nat :=
  match slots.findIdx? (·.isNone) with
  | some k => some k
  | none =>
    match slots.zipIdx.filterMap fun x => x.1.bind fun i => if i.state = .closed then some (x.2, i) else none with
    | [] => none
    | c :: cs => some (cs.foldl earlierClosed c).1

/-- A new incident placed in the table with its number; none where no slot is found (R87). The number given in `make` is the
one it takes. -/
def createIncident (make : Nat → Incident) (s : State) : Option (State × Incident) :=
  match chooseSlot s.incidents.slots with
  | none => none
  | some k =>
    let emptied := s.incidents.slots.set k none
    let held := (emptied.filterMap id).map (·.number)
    let n := freeNumber 65535 held (Config.slotLimit + 1) s.incidents.nextNumber
    let i := make n
    some ({ s with incidents := { s.incidents with slots := emptied.set k (some i), nextNumber := after 65535 n } }, i)

/-! ### Correlation (R92) -/

/-- The non-CLOSED incidents that satisfy a condition on their segment, by lowest number. -/
def lowestIncident (s : State) (c : Nat → Bool) : Option Incident :=
  (lowest ((s.incidentList.filter fun i => i.state ≠ .closed && c i.segment).map (·.number))).bind s.incident?

/-- The incident that a call or an automatic event on a segment joins (R92). -/
def correlate (img : Image) (segment : Nat) (s : State) : Option Incident :=
  match lowestIncident s fun x => x = segment with
  | some i => some i
  | none => lowestIncident s fun x => valveNeighbours img segment x

/-! ### Grade, deadline and cluster (R91, R95, R96) -/

/-- The attendance limit of a grade, in seconds (R96). -/
def attendanceLimit (grade : Nat) : Nat :=
  match grade with
  | 1 => 1800
  | 2 => 3600
  | 3 => 7200
  | _ => 43200

/-- OPEN or DISPATCHED: the states with a deadline (R88). -/
def IncidentState.awaits (x : IncidentState) : Bool := x = .opened || x = .dispatched

/-- The recompute of the deadline, which sets OVERDUE when it leaves the deadline at or before now (R96). -/
def aimDeadline (now : Nat) (i : Incident) : Incident :=
  if i.state.awaits then
    let bound := i.baseTime + attendanceLimit i.grade
    let d := (i.deadline.map (min · bound)).getD bound
    { i with deadline := some d, overdue := i.overdue || d ≤ now }
  else i

/-- Cluster escalation, judged at a joining by a call (R95). -/
def clusterSpan : Nat := 900

def clusterStep (now : Nat) (i : Incident) : Incident :=
  if 3 ≤ (i.calls.filter fun c => now ≤ c.time + clusterSpan).length ∧ 1 < i.grade ∧ i.clusterEscalated = false then
    { i with grade := i.grade - 1, clusterEscalated := true }
  else i

/-- Two sets of causes together. -/
def Causes.union (a b : Causes) : Causes :=
  { leak := a.leak || b.leak, pressure := a.pressure || b.pressure, supply := a.supply || b.supply }

def causeLeak : Causes := { leak := true, pressure := false, supply := false }
def causePressure : Causes := { leak := false, pressure := true, supply := false }
def causeSupply : Causes := { leak := false, pressure := false, supply := true }

/-- The grade of a call's class (R91). -/
def CallClass.grade : CallClass → Nat
  | .damage => 1
  | .inside => 2
  | .outside => 3
  | .faint => 4
  | .noGas => 3

/-- The cause of a call, with the supply state of the call's segment (R91). -/
def CallClass.cause (c : CallClass) (supply : Option SupplyState) : Causes :=
  match c with
  | .noGas => if supply = some .live then causePressure else causeSupply
  | _ => causeLeak

/-- A call appended to a call list of at most sixteen (R94 step 3). -/
def appendCall (c : CallEntry) (l : List CallEntry) : List CallEntry :=
  (if Config.callListLimit ≤ l.length then l.drop 1 else l) ++ [c]

/-- The six steps of a joining by a call (R94). -/
def joinCall (now grade : Nat) (cause : Causes) (c : CallEntry) (i : Incident) : Incident :=
  let i :=
    { i with
      causes := i.causes.union cause
      grade := min i.grade grade
      calls := appendCall c i.calls
      totalCalls := min (i.totalCalls + 1) 65535
      baseTime := min i.baseTime c.time }
  aimDeadline now (clusterStep now i)

/-- A new incident on a segment (R93, R98, R100), before its deadline. -/
def newIncident (now segment grade : Nat) (causes : Causes) (number : Nat) : Incident :=
  { number := number, causes := causes, segment := segment, grade := grade, state := .opened, createdAt := now
    baseTime := now, deadline := none, overdue := false, clusterEscalated := false, totalCalls := 0, calls := []
    trigPoint := none, trigElement := none, isoStatus := .none, isoIndex := none, lastPlan := none, closedAt := none }

/-! ### Automatic events (R98 to R101) -/

/-- What an automatic event brings. -/
structure AutoEvent where
  segment : Nat
  causes : Causes
  grade : Nat
  point : Option Nat
  element : Option Nat
  source : JoinSource
  deriving DecidableEq, Repr

/-- An automatic event that joins an incident (R98, R100). -/
def joinAuto (now : Nat) (e : AutoEvent) (i : Incident) : Incident :=
  aimDeadline now
    { i with
      causes := i.causes.union e.causes
      grade := min i.grade e.grade
      trigPoint := if e.point.isSome then e.point else i.trigPoint
      trigElement := if e.element.isSome then e.element else i.trigElement }

/-- An automatic event that creates an incident (R98, R100). -/
def makeAuto (now : Nat) (e : AutoEvent) (number : Nat) : Incident :=
  aimDeadline now
    { newIncident now e.segment e.grade e.causes number with trigPoint := e.point, trigElement := e.element }

/-- An automatic event taken through correlation: it joins, creates, or finds no slot (R98, R100, R101). `also` is what else
the same event does to the incident it joins. -/
def autoEvent (e : AutoEvent) (also : Incident → Incident) (s : State) : State :=
  match s.net.active with
  | none => s
  | some img =>
    match correlate img e.segment s with
    | some i => setIncident i (also (joinAuto s.now e i)) true (some e.source) none s
    | none =>
      match createIncident (makeAuto s.now e) s with
      | some (s, i) => passNotices (incidentNotice none i false (some e.source) none).toList s
      | none =>
        passNotice
          (.notMade { segment := e.segment, causes := e.causes, grade := e.grade, trigPoint := e.point
                      trigElement := e.element })
          { s with incidents := { s.incidents with full := true } }

/-- An entry into LOWLOW or HIGHHIGH (R98). -/
def entersExtreme (old new : Band) : Bool :=
  (new = .lowLow && old ≠ .lowLow) || (new = .highHigh && old ≠ .highHigh)

def segLive (s : State) (segment : Nat) : Bool := (s.seg? segment).any fun x => x.state = .live

/-- What a setting of FALLING does to the incident it raises: a LEAK incident on the point's own segment (R99). -/
def raiseByFalling (now segment : Nat) (i : Incident) : Incident :=
  if i.segment = segment ∧ i.causes.leak = true ∧ i.grade ≠ 1 then aimDeadline now { i with grade := 1 } else i

/-- A setting of FALLING without a band change that is acted on (R99). -/
def fallingEvent (point segment : Nat) (s : State) : State :=
  match s.incidentList.find? fun i => i.state ≠ .closed && i.segment = segment && i.causes.leak with
  | none => s
  | some i => setIncident i (raiseByFalling s.now segment i) false (some (.falling point)) none s

/-- The band change and the setting of FALLING that one sample hands on, as one change of its incident (R64 steps 3 and 4, R98,
R99, R106, log 9). Its one notice names the band change, PRESSURE, as what joined where the sample does both (log 9). -/
def sampleIncidents (point segment : Nat) (old new : Band) (fallingSet expected : Bool) (s : State) : State :=
  if expected || !segLive s segment then s
  else if entersExtreme old new then
    autoEvent
      { segment := segment, causes := causePressure, grade := 2, point := some point, element := none
        source := .pressure point }
      (fun i => if fallingSet then raiseByFalling s.now segment i else i) s
  else if fallingSet then fallingEvent point segment s
  else s

/-- A supply-loss event: the segments that entered CUT, in ascending order, and the triggering element or 0 (R100). -/
def supplyLoss (segments : List Nat) (element : Nat) (s : State) : State :=
  match segments with
  | [] => s
  | n :: _ =>
    autoEvent
      { segment := n, causes := causeSupply
        grade := if segments.any s.guardedSegment then 1 else 2
        point := none, element := if element = 0 then none else some element, source := .supply element } id s

end Sys2Proof.Machine
end

