-- ==== Sys2Proof/Machine/Supply.lean ====
section
/-! DEFINITION. The Supply Tracker: recompute, judgements, timers, outage entries, carry-over (R67 to R85).

`hook` is what the Isolation Register does when a segment is handed to it (R71 step 4, R73, R74): a record pass. -/

namespace Sys2Proof.Machine

/-! ### Outage entries and notices (R77 to R82) -/

/-- The customer-minutes of an entry at a part time: customers by whole minutes since it opened, saturated (R79). -/
def Outage.figure (now : Nat) (o : Outage) : Nat := min (o.customers * ((now - o.openedAt) / 60)) Config.minutesLimit

/-- The OUTAGE notice of an event of an entry (R82). -/
def outageNotice (event : OutageEvent) (old new : SupplyState) (o : Outage) (s : State) : State :=
  passNotice
    (.outage { segment := o.segment, event := event, oldState := old, state := new, openedAt := o.openedAt
               cause := o.cause, customers := o.customers, minutes := o.figure s.now, clearance := o.clearance
               basis := s.net.basis }) s

/-- A new entry of a recompute (R78). -/
def newOutage (now : Nat) (cause : OutageCause) (seg : Segment) : Outage :=
  { segment := seg.number, openedAt := now, cause := cause, customers := seg.customers, minutes := 0
    minuteAt := now + 60, clearance := none }

/-! ### Recompute (R69 to R71) -/

/-- The move that a recompute gives a supply state, if it moves it (R70). -/
def supplyMove (x : SupplyState) (reachable : Bool) : Option SupplyState :=
  match x, reachable with
  | .live, false => some .cut
  | .recharging, false => some .cut
  | .cut, true => some .recharging
  | .depressurized, true => some .recharging
  | .live, true | .recharging, true | .cut, false | .depressurized, false => none

/-- A segment record that enters CUT, with the vent time in force (R70). -/
def enterCut (now vent : Nat) (x : SegSupply) : SegSupply :=
  { x with state := .cut, stateTime := now, cutTime := some now, sampled := [], ventAt := some (now + vent)
           rechargeAt := none }

/-- A segment record that enters RECHARGING, with the recharge time in force (R70). -/
def enterRecharging (now recharge : Nat) (x : SegSupply) : SegSupply :=
  { x with state := .recharging, stateTime := now, reconnectedAt := some now, sampled := [], ventAt := none
           rechargeAt := some (now + recharge) }

/-- A segment record after a recompute (R70). -/
def recomputeSeg (now : Nat) (g : Globals) (reachable : Bool) (x : SegSupply) : SegSupply :=
  match supplyMove x.state reachable with
  | some .cut => enterCut now g.vent x
  | some .recharging => enterRecharging now g.recharge x
  | _ => x

/-- The moves of a recompute: segment, old state, new state, in ascending segment number. -/
def recomputeMoves (s : State) : List (Nat × SupplyState × SupplyState) :=
  let reachable := s.reachable
  s.supply.segs.filterMap fun x =>
    (supplyMove x.state (reachable.contains x.segment)).map fun y => (x.segment, x.state, y)

/-- The notice of one move of a recompute (R71 step 2, R82). -/
def moveNotice (s : State) (m : Nat × SupplyState × SupplyState) : State :=
  match s.outage? m.1 with
  | some o => outageNotice (if m.2.1 = .live then .opened else .state) m.2.1 m.2.2 o s
  | none => s

/-- The cause of the entries that a recompute opens (R78). -/
def outageCauseOf (origin : Option Nat) (element : Nat) : OutageCause :=
  match origin with
  | some n => .planned n
  | none => .unplanned element

/-- The records and entries after a recompute: every segment moved, every entry opened (R70, R71 step 1). -/
def recomputeTables (origin : Option Nat) (element : Nat) (s : State) : State :=
  let reachable := s.reachable
  let moves := recomputeMoves s
  let opened := (moves.filter fun m => m.2.1 = .live).filterMap fun m =>
    (s.segTopo? m.1).map (newOutage s.now (outageCauseOf origin element))
  { s with supply :=
      { s.supply with
        segs := s.supply.segs.map fun x => recomputeSeg s.now s.supply.globals (reachable.contains x.segment) x
        outages := opened.foldl (fun l o => insertBy (·.segment) o l) s.supply.outages } }

/-- One recompute with its hand-ons: entries, notices, supply-loss event, Isolation Register (R69 to R71). -/
def recompute (origin : Option Nat) (element : Nat) (hook : State → State) (s : State) : State :=
  let moves := recomputeMoves s
  let s := recomputeTables origin element s
  let s := moves.foldl moveNotice s
  let cut := (moves.filter fun m => m.2.2 = .cut).map (·.1)
  let s := if origin = none then supplyLoss cut element s else s
  moves.foldl (fun s _ => hook s) s

/-! ### Judgements (R72 to R75) -/

/-- The segment's GOOD points at the moment of a judgement. -/
def goodPoints (s : State) (segment : Nat) : List PointRec :=
  (s.pointsOf.filter fun t => t.segment = segment).filterMap fun t =>
    (s.point? t.number).filter fun r => r.quality = .good

/-- The condition of the depressurization judgement (R73). -/
def emptied (s : State) (x : SegSupply) : Bool :=
  let good := goodPoints s x.segment
  if good.isEmpty then x.cutTime.getD 0 + s.supply.globals.vent ≤ s.now
  else good.all fun r => x.sampled.contains r.number && r.f.any fun f => f < (s.supply.globals.dead : Int)

/-- The condition of the recharge judgement (R74). -/
def refilled (s : State) (x : SegSupply) : Bool :=
  let good := goodPoints s x.segment
  if good.isEmpty then x.reconnectedAt.getD 0 + s.supply.globals.recharge ≤ s.now
  else good.all fun r =>
    x.sampled.contains r.number && (r.band = .normal || r.band = .high || r.band = .highHigh)

/-- A segment becomes DEPRESSURIZED, with its notice and hand-on (R73). -/
def becomeDepressurized (hook : State → State) (segment : Nat) (s : State) : State :=
  let s := s.updSeg segment fun x => { x with state := .depressurized, stateTime := s.now, ventAt := none }
  match s.outage? segment with
  | some o => hook (outageNotice .state .cut .depressurized o s)
  | none => hook s

/-- A segment becomes LIVE; its entry is closed with its final figure and freed (R74, R81). -/
def becomeLive (hook : State → State) (segment : Nat) (s : State) : State :=
  let s := s.updSeg segment fun x =>
    { x with state := .live, stateTime := s.now, cutTime := none, reconnectedAt := none, sampled := []
             rechargeAt := none }
  match s.outage? segment with
  | some o =>
    let s := outageNotice .closed .recharging .live o s
    hook { s with supply := { s.supply with outages := s.supply.outages.filter fun r => r.segment ≠ segment } }
  | none => hook s

/-- The judgement that a segment's supply state calls for (R73, R74). -/
def judgeSegment (hook : State → State) (segment : Nat) (s : State) : State :=
  match s.seg? segment with
  | none => s
  | some x =>
    match x.state with
    | .cut => if emptied s x then becomeDepressurized hook segment s else s
    | .recharging => if refilled s x then becomeLive hook segment s else s
    | .live | .depressurized => s

/-- A point joins the sampled set of its segment, once (R72). -/
def joinSampled (point : Nat) (l : List Nat) : List Nat := if point ∈ l then l else insertBy id point l

/-- A sample handed on by the Pressure Evaluator (R72). -/
def sampleEvent (hook : State → State) (point segment : Nat) (s : State) : State :=
  match s.seg? segment with
  | none => s
  | some x =>
    match x.state with
    | .cut | .recharging =>
      judgeSegment hook segment (s.updSeg segment fun x => { x with sampled := joinSampled point x.sampled })
    | .live | .depressurized => s

/-- The expiry of a vent timer: the judgement, and the timer started again if it does not move the segment (R75). -/
def ventExpiry (hook : State → State) (segment : Nat) (s : State) : State :=
  match s.seg? segment with
  | none => s
  | some x =>
    if x.state = .cut ∧ emptied s x then ownEvent (becomeDepressurized hook segment) s
    else s.updSeg segment fun x => { x with ventAt := some (s.now + s.supply.globals.vent) }

/-- The expiry of a recharge timer (R75). -/
def rechargeExpiry (hook : State → State) (segment : Nat) (s : State) : State :=
  match s.seg? segment with
  | none => s
  | some x =>
    if x.state = .recharging ∧ refilled s x then ownEvent (becomeLive hook segment) s
    else s.updSeg segment fun x => { x with rechargeAt := some (s.now + s.supply.globals.recharge) }

/-- A minute of an entry: its figure increases by its customers, saturated (R79). -/
def outageMinute (o : Outage) : Outage :=
  { o with minutes := min (o.minutes + o.customers) Config.minutesLimit, minuteAt := o.minuteAt + 60 }

/-! ### Globals (R76) -/

def clampNat (lo hi n : Nat) : Nat := if n < lo then lo else if hi < n then hi else n

/-- The globals stored by a SET_GLOBALS (R76). -/
def clampGlobals (a : GlobalsArgs) : Globals :=
  { dead := clampNat 50 5000 a.dead, vent := clampNat 60 7200 a.vent, recharge := clampNat 60 7200 a.recharge }

/-- A running timer re-aimed at a SET_GLOBALS (R76). -/
def reaim (now : Nat) (g : Globals) (x : SegSupply) : SegSupply :=
  { x with
    ventAt := x.ventAt.map fun _ => max (x.cutTime.getD 0 + g.vent) now
    rechargeAt := x.rechargeAt.map fun _ => max (x.reconnectedAt.getD 0 + g.recharge) now }

/-! ### Records of a new image (R67, R85) -/

/-- A segment record in LIVE (R67, R85). -/
def liveSegment (now number : Nat) : SegSupply :=
  { segment := number, state := .live, stateTime := now, cutTime := none, reconnectedAt := none, sampled := []
    ventAt := none, rechargeAt := none }

/-- A segment's record carried into a new image: kept with the sampled points that stay on it, or new (R85). -/
def carrySegment (now : Nat) (img : Image) (old : List SegSupply) (seg : Segment) : SegSupply :=
  match old.find? fun x => x.segment = seg.number with
  | some x =>
    { x with sampled := x.sampled.filter fun p => (img.point? p).any fun t => t.segment = seg.number }
  | none => liveSegment now seg.number

end Sys2Proof.Machine
end

