-- ==== Sys2Proof/Machine/Orders.lean ====
section
/-! DEFINITION. Element records, the order queue, interlocks, dispatch, placement and the end of an order (R108 to R130).

`Hooks` is what an order's progress sets off in the other blocks; a trigger that a rule makes part of the pass in progress
is `id` there (R120, R160). -/

namespace Sys2Proof.Machine

/-- What the end or the placement of an order sets off: a dispatch pass, a record pass, an activating moment. -/
structure Hooks where
  dispatch : State → State
  pass : State → State
  activate : State → State

/-! ### Orders -/

/-- SENT and MOVING are in flight (R116). -/
def Order.inFlight (o : Order) : Bool := o.state ≠ .queued

/-- The state an action aims at (R116). -/
def Action.target : Action → ElementState
  | .close => .closed
  | .opening => .opened

/-- The incident of an order's origin (R110, R119). -/
def Origin.incident : Origin → Option Nat
  | .host => none
  | .isolation n => some n
  | .restoration n => some n

/-- The station of an order's element in the active image. -/
def State.stationOf (s : State) (o : Order) : Nat := ((s.elemTopo? o.element).map (·.station)).getD 0

/-- Orders in flight: at most four (R120). -/
def State.flightCount (s : State) : Nat := (s.elements.queue.filter (·.inFlight)).length

/-- The order in flight of a station: no station has more than one (R120). -/
def State.flightOf? (s : State) (station : Nat) : Option Order :=
  s.elements.queue.find? fun o => o.inFlight && s.stationOf o = station

/-- Sends used: 3 minus sends remaining for an order that was sent (R130). -/
def Order.sendsUsed (o : Order) : Nat := if o.inFlight then Config.sendBudget - o.sendsLeft else 0

/-- The ORDER notice of an order's end (R130). -/
def orderNotice (o : Order) (outcome : OrderOutcome) (s : State) : State :=
  passNotice
    (.order { order := o.number, element := o.element, action := o.action, origin := o.origin, override := o.override
              outcome := outcome, tag := o.tag, sendsUsed := o.sendsUsed, enqueuedAt := o.enqueuedAt, endedAt := s.now }) s

/-- The step an outcome takes an entry to, from the step its action serves (R158). -/
def stepAfter (step : EntryStep) (action : Action) (outcome : OrderOutcome) : Option EntryStep :=
  match step, action, outcome with
  | .toClose, .close, .done | .toClose, .close, .already => some .closed
  | .toClose, .close, .failed _ | .toClose, .close, .cancelled => some .closeFailed
  | .opening, .opening, .done | .opening, .opening, .already => some .reopened
  | .opening, .opening, .failed _ | .opening, .opening, .cancelled => some .openFailed
  | _, _, _ => none

/-- An outcome handed to the Isolation Register (R158). -/
def handOutcome (o : Order) (outcome : OrderOutcome) (s : State) : State :=
  match o.origin.incident.bind s.recordOf with
  | none => s
  | some k =>
    s.updRecord k fun r => r.updEntry o.element fun e =>
      match stepAfter e.step o.action outcome with
      | some x => { e with step := x, last := some (.order outcome), stepTime := s.now }
      | none => e

/-- An order leaves the queue (R130 step 1). -/
def leaveQueue (n : Nat) (s : State) : State :=
  { s with elements := { s.elements with queue := s.elements.queue.filter fun o => o.number ≠ n } }

/-- Steps 1 to 3 of R130. -/
def finishOrder (o : Order) (outcome : OrderOutcome) (s : State) : State :=
  handOutcome o outcome (orderNotice o outcome (leaveQueue o.number s))

/-- The end of an order in full (R130). -/
def endOrder (h : Hooks) (o : Order) (outcome : OrderOutcome) (s : State) : State :=
  let s := finishOrder o outcome s
  let s := if o.inFlight then h.dispatch s else s
  h.activate (h.pass s)

/-! ### Station availability (R124) -/

/-- Unavailable: not REPORTING, or LOCAL set (R124). -/
def State.unavailable (s : State) (station : Nat) : Bool :=
  !(s.station? station).any fun t => t.state = .reporting && !t.localFlag

/-- The station-unavailable timers of a station's QUEUED orders after its state or its LOCAL flag may have changed: started
where it is unavailable and they are stopped, stopped where it is available (R124). -/
def syncUnavailable (station : Nat) (s : State) : State :=
  { s with elements :=
      { s.elements with queue := s.elements.queue.map fun o =>
          if o.state = .queued ∧ s.stationOf o = station then
            if s.unavailable station then
              { o with unavailableAt := some (o.unavailableAt.getD (s.now + Config.unavailableTime)) }
            else { o with unavailableAt := none }
          else o } }

/-! ### Interlocks and sends (R120 to R123) -/

/-- The CLOSE interlock (R121): the first segment that fails it. -/
def closeInterlock (s : State) (o : Order) : Option Nat :=
  if o.override then none else (s.lostBy o.element).find? s.guardedSegment

/-- An open outage entry without clearance (R122, R163). -/
def State.uncleared (s : State) (segment : Nat) : Bool := (s.outage? segment).any fun x => x.clearance.isNone

/-- The OPEN interlock (R122): the first segment that fails it. -/
def openInterlock (s : State) (o : Order) : Option Nat := (s.gaining o.element).find? s.uncleared

def interlock (s : State) (o : Order) : Option Nat :=
  match o.action with
  | .close => closeInterlock s o
  | .opening => openInterlock s o

/-- Eligible at the moment a pass reaches it (R120). -/
def eligible (s : State) (o : Order) : Bool :=
  s.flightCount < Config.inFlightLimit && !s.unavailable (s.stationOf o) && (s.flightOf? (s.stationOf o)).isNone

/-- The ORDER frame of an order handed to the Field Port (R42, R123). -/
def handFrame (o : Order) (tag : Nat) (s : State) : State :=
  match s.elemTopo? o.element with
  | none => s
  | some t =>
    { s with field :=
        { s.field with out := s.field.out ++ [{ station := t.station, slot := t.slot, action := o.action, tag := tag }] } }

/-- The first send of an order (R123). -/
def sendOrder (o : Order) (s : State) : State :=
  let tag := s.elements.nextTag
  let s := s.updOrder o.number fun o =>
    { o with tag := tag, state := .sent, unavailableAt := none, sendsLeft := Config.sendBudget - 1
             ackAt := some (s.now + Config.ackTime) }
  handFrame o tag { s with elements := { s.elements with nextTag := after 255 tag } }

/-- A resend that has passed its interlock (R123, R125). -/
def resendOrder (o : Order) (s : State) : State :=
  handFrame o o.tag
    (s.updOrder o.number fun o => { o with sendsLeft := o.sendsLeft - 1, ackAt := some (s.now + Config.ackTime) })

/-- A dispatch pass over the QUEUED orders, oldest first (R120). `seen` are the orders it has reached; `depart` is what
follows an order that ends in it. The first argument bounds the orders it can reach. -/
def dispatchLoop (depart : State → State) : Nat → List Nat → State → State
  | 0, _, s => s
  | fuel + 1, seen, s =>
    match s.elements.queue.find? fun o => o.state = .queued && !seen.contains o.number with
    | none => s
    | some o =>
      if eligible s o then
        match interlock s o with
        | some n => dispatchLoop depart fuel (o.number :: seen) (depart (finishOrder o (.failed (.interlock n)) s))
        | none => dispatchLoop depart fuel (o.number :: seen) (sendOrder o s)
      else dispatchLoop depart fuel (o.number :: seen) s

/-- How many entries the records in use hold. -/
def State.entryCount (s : State) : Nat := ((s.register.records.filterMap id).map fun r => r.entries.length).sum

/-- A dispatch pass (R120): it can reach the orders of the queue, and those that held entries place while it runs. -/
def dispatchPass (depart : State → State) (s : State) : State :=
  dispatchLoop depart (s.elements.queue.length + 2 * s.entryCount + 1) [] s

/-! ### Placement (R117 to R119) -/

/-- The tests of R117 from NOT_REMOTE on. -/
def placeTest (element : Nat) (action : Action) (s : State) : Option Code :=
  match s.elemTopo? element, s.element? element with
  | some t, some r =>
    if t.cls ≠ .remote then some .notRemote
    else
      match s.orderOf? element with
      | some o =>
        if o.action = action then some .duplicate
        else if o.inFlight then some .inFlight
        else none
      | none =>
        if r.state = action.target ∨ s.elements.queue.length < Config.queueLimit then none else some .full
  | _, _ => some .notFound

/-- An order as it is made (R118). -/
def makeOrder (s : State) (number element : Nat) (action : Action) (origin : Origin) (override : Bool) : Order :=
  { number := number, element := element, action := action, origin := origin, override := override, state := .queued
    sendsLeft := Config.sendBudget, tag := 0, enqueuedAt := s.now, unavailableAt := none, ackAt := none, strokeAt := none }

/-- The number of the next order made, and the counter after it (R116). -/
def orderNumber (s : State) : Nat :=
  freeNumber 65535 (s.elements.queue.map (·.number)) (Config.queueLimit + 1) s.elements.nextOrder

/-- An order joins the queue as its newest (R118 step 3). -/
def joinQueue (o : Order) (s : State) : State :=
  let t := s.stationOf o
  let o := { o with unavailableAt := if s.unavailable t then some (s.now + Config.unavailableTime) else none }
  { s with elements := { s.elements with queue := s.elements.queue ++ [o] } }

/-- The QUEUED order of the opposite action that a placement replaces (R118 step 1). -/
def replacedOrder (element : Nat) (action : Action) (s : State) : Option Order :=
  (s.orderOf? element).filter fun o => o.action ≠ action && !o.inFlight

/-- The state after the replacement of a placement, if it replaces an order (R118 step 1). -/
def afterReplacement (element : Nat) (action : Action) (s : State) : State :=
  match replacedOrder element action s with
  | some o => finishOrder o .cancelled s
  | none => s

/-- The number of the order that a placement makes (R116, R118). -/
def placeNumber (element : Nat) (action : Action) (s : State) : Nat := orderNumber (afterReplacement element action s)

/-- An order that has passed its tests is placed (R118). `mark` is what the placer does with its number. -/
def place (h : Hooks) (mark : Nat → State → State) (element : Nat) (action : Action) (origin : Origin)
    (override : Bool) (s : State) : State :=
  let replaced := replacedOrder element action s
  let n := placeNumber element action s
  let s := afterReplacement element action s
  let o := makeOrder s n element action origin override
  let s := mark n { s with elements := { s.elements with nextOrder := after 65535 n } }
  if (s.element? element).any fun r => r.state = action.target then
    let s := handOutcome o .already (orderNotice o .already s)
    if replaced.isSome then h.activate (h.pass s) else s
  else h.dispatch (joinQueue o s)

/-! ### Element records (R109 to R115) -/

/-- The direction that an order in flight gives to a TRAVEL (R109). -/
def travelDirection (o : Option Order) : Option Direction :=
  match o with
  | none => none
  | some o =>
    if o.inFlight then
      match o.action with
      | .close => some .closing
      | .opening => some .opening
    else none

/-- The state and direction that a position code gives (R109). -/
def positionState (c : PositionCode) (o : Option Order) : ElementState × Option Direction :=
  match c with
  | .opened => (.opened, none)
  | .closed => (.closed, none)
  | .travel => (.moving, travelDirection o)
  | .stopped => (.mid, none)
  | .fault => (.fault, none)

/-- A position taken into an element record, with the element's order (R109). A FAULT that repeats sets a mark cleared since
(DEDUCED, log 35). -/
def takePosition (now : Nat) (c : PositionCode) (o : Option Order) (r : ElementRec) : ElementRec :=
  let x := positionState c o
  { r with
    state := x.1
    direction := x.2
    source := .station
    unconfirmed := false
    faultMark := r.faultMark || c = .fault
    changedAt := if x = (r.state, r.direction) then r.changedAt else now }

/-- A crew's position, OPEN or CLOSED (R112). -/
def takeCrew (now : Nat) (a : Action) (r : ElementRec) : ElementRec :=
  { r with
    state := a.target
    direction := none
    source := .crew
    unconfirmed := false
    changedAt := if a.target = r.state then r.changedAt else now }

/-- The closing and opening steps by which an element's origin incident is found (R110, R153). -/
def EntryStep.active : EntryStep → Bool
  | .toClose | .crewClose | .opening | .crewOpen => true
  | .closed | .closeFailed | .heldForClearance | .reopened | .openFailed => false

/-- The origin incident of an element's change (R110). -/
def originIncident (element : Nat) (s : State) : Option Nat :=
  match (s.orderOf? element).bind fun o => if o.inFlight then o.origin.incident else none with
  | some n => some n
  | none =>
    ((s.recordHolding element).bind s.record?).bind fun r =>
      (r.entry? element).bind fun e => if e.step.active then some r.incident else none

/-- The ELEMENT notice of a change, if it calls for one (R115). -/
def elementNotice (old new : ElementRec) (cause : ElementCause) (origin : Option Nat) (basis : Word) :
    Option NoticeBody :=
  if cause ≠ .crew ∧ old.state = new.state ∧ old.direction = new.direction ∧ old.faultMark = new.faultMark then none
  else
    let changed := old.state.passes ≠ new.state.passes
    some (.element
      { element := new.number, oldState := old.state, state := new.state, direction := new.direction
        source := new.source, unconfirmed := new.unconfirmed, faultMark := new.faultMark, changedAt := new.changedAt
        cause := cause, passChanged := changed, origin := if changed then origin else none, basis := basis })

/-- An order becomes MOVING: the acknowledgement timer stops and the stroke timer starts (R126). -/
def acknowledge (o : Order) (s : State) : State :=
  let stroke := ((s.elemTopo? o.element).map (·.stroke)).getD 0
  s.updOrder o.number fun o => { o with state := .moving, ackAt := none, strokeAt := some (s.now + stroke) }

/-- The order of an element judged against its new state (R127, R129). -/
def judgeOrder (h : Hooks) (element : Nat) (state : ElementState) (travel : Bool) (s : State) : State :=
  match s.orderOf? element with
  | none => s
  | some o =>
    if o.inFlight then
      if state = o.action.target then endOrder h o .done s
      else if state = .fault then endOrder h o (.failed .elementFault) s
      else if travel ∧ o.state = .sent then acknowledge o s
      else s
    else if state = o.action.target then endOrder h o .already s
    else s

/-- Steps 1 to 4 of R110 for an element record that becomes `new`. -/
def elementSteps (h : Hooks) (old new : ElementRec) (cause : ElementCause) (travel : Bool) (s : State) : State :=
  let origin := originIncident new.number s
  let changed := old.state.passes ≠ new.state.passes
  let s := s.updElement new.number fun _ => new
  let s := bumpBasisIf (!old.faultMark && new.faultMark) (bumpBasisIf changed s)
  let s := passNotices (elementNotice old new cause origin s.net.basis).toList s
  let s := if changed then recompute origin new.number h.pass s else s
  judgeOrder h new.number new.state travel s

/-- One position of an applied report (R109, R110). -/
def positionEvent (h : Hooks) (element : Nat) (c : PositionCode) (s : State) : State :=
  match s.element? element with
  | none => s
  | some old =>
    elementSteps h old (takePosition s.now c (s.orderOf? element) old) .report (c = .travel) s

/-- The REMOTE elements of a station that has left REPORTING become unconfirmed (R111). -/
def markUnconfirmed (station : Nat) (s : State) : State :=
  (s.elementsOf.filter fun e => e.cls = .remote && e.station = station).foldl
    (fun s e => s.updElement e.number fun r => { r with unconfirmed := true }) s

end Sys2Proof.Machine
end

