-- ==== Sys2Proof/Machine/Register.lean ====
section
/-! DEFINITION. The Isolation Register: steps, record passes, status, retrial and the end of a restoration (R152 to R164). -/

namespace Sys2Proof.Machine

/-- What the command in hand asks of record passes: the element whose accepted crew report is being carried out (R160). -/
structure Ctx where
  skip : Option Nat

/-- A command that asks nothing of record passes. -/
def Ctx.plain : Ctx := { skip := none }

/-- An entry moved to a step at a part time (R152). -/
def Entry.toStep (now : Nat) (x : EntryStep) (e : Entry) : Entry := { e with step := x, stepTime := now }

/-- The step that re-examination gives an entry, if it changes it, from its element's state and class (R160 step 1). -/
def reexamined (step : EntryStep) (state : ElementState) (cls : OpClass) : Option EntryStep :=
  match step with
  | .crewClose => if state = .closed then some .closed else none
  | .crewOpen =>
    if state.passes then some .reopened else if cls = .remote then some .heldForClearance else none
  | .heldForClearance =>
    if state.passes then some .reopened else if cls = .manual then some .crewOpen else none
  | .openFailed => if state.passes then some .reopened else none
  | .toClose | .closed | .closeFailed | .opening | .reopened => none

/-- One entry re-examined against the element table and the active image (R160 step 1). -/
def reexamineEntry (c : Ctx) (s : State) (e : Entry) : Entry :=
  if c.skip = some e.element then e
  else
    match s.element? e.element, s.elemTopo? e.element with
    | some r, some t =>
      match reexamined e.step r.state t.cls with
      | some x => e.toStep s.now x
      | none => e
    | _, _ => e

def reexamine (c : Ctx) (k : Nat) (s : State) : State :=
  s.updRecord k fun r => { r with entries := r.entries.map (reexamineEntry c s) }

/-! ### Retrial (R163) -/

/-- The test of a held entry (R163). -/
def heldPasses (s : State) (element : Nat) : Bool :=
  (s.gaining element).all (fun n => !s.uncleared n) && s.elements.queue.length < Config.queueLimit

/-- One held entry of a RESTORING record tried (R163). -/
def retryEntry (h : Hooks) (k : Nat) (element : Nat) (s : State) : State :=
  match s.record? k with
  | none => s
  | some r =>
    if (r.entry? element).any fun e => e.step = .heldForClearance then
      if heldPasses s element then
        match placeTest element .opening s with
        | some c => s.updRecord k fun r => r.updEntry element fun e => { e with last := some (.placement c) }
        | none =>
          place h
            (fun n s => s.updRecord k fun r => r.updEntry element fun e =>
              { e.toStep s.now .opening with order := n })
            element .opening (.restoration r.incident) false s
      else s
    else s

/-- Every held entry tried, in reverse list order (R163). -/
def retryHeld (h : Hooks) (k : Nat) (s : State) : State :=
  match s.record? k with
  | none => s
  | some r => ((r.entries.map (·.element)).reverse).foldl (fun s e => retryEntry h k e s) s

/-! ### Status (R161, R164) -/

/-- The INCIDENT notice with event ISOLATION (R105, R106). -/
def isolationNotice (i : Incident) : NoticeBody :=
  .incident
    { incident := i.number, segment := i.segment
      events := { created := false, joined := false, grade := false, overdue := false, state := false, isolation := true }
      causes := i.causes, oldGrade := some i.grade, grade := i.grade, oldState := some i.state, state := i.state
      baseTime := i.baseTime, deadline := i.deadline, overdue := i.overdue, clusterEscalated := i.clusterEscalated
      totalCalls := i.totalCalls, call := none, trigPoint := i.trigPoint, trigElement := i.trigElement
      isoStatus := i.isoStatus, joined := none }

/-- The ISOLATION notice of an incident as it stands. -/
def reportStatus (incident : Nat) (s : State) : State :=
  match s.incident? incident with
  | some i => passNotice (isolationNotice i) s
  | none => s

/-- An isolation status written to an incident and reported (R161, R164). -/
def setStatus (incident : Nat) (x : IsoStatus) (s : State) : State :=
  reportStatus incident
    (s.updIncident incident fun i =>
      { i with isoStatus := x, isoIndex := if x = .restored then none else i.isoIndex })

/-- Every segment of a zone list that the active image holds is DEPRESSURIZED (R161). -/
def zoneProven (s : State) (zone : List Nat) : Bool :=
  zone.all fun n => (s.segTopo? n).isNone || (s.seg? n).any fun x => x.state = .depressurized

/-- The status that R161's table gives. -/
def judgedStatus (s : State) (r : IsoRecord) (before : IsoStatus) : IsoStatus :=
  let enclosed := if zoneProven s r.zone then IsoStatus.proven else .isolated
  match before with
  | .executing =>
    if r.entries.all fun e => e.step = .closed then enclosed
    else if (r.entries.all fun e => e.step ≠ .toClose && e.step ≠ .crewClose)
        && r.entries.any fun e => e.step = .closeFailed then .partially
    else .executing
  | .isolated => enclosed
  | x => x

/-- The end of restoration: no entry is held, opening, with a crew or failed (R164). -/
def restorationEnds (r : IsoRecord) : Bool :=
  r.entries.all fun e =>
    e.step ≠ .heldForClearance && e.step ≠ .opening && e.step ≠ .crewOpen && e.step ≠ .openFailed

/-- A record freed with all it holds (R164). -/
def freeRecord (k : Nat) (s : State) : State :=
  { s with register := { records := s.register.records.set k none } }

/-- Step 3 of a pass over one record (R161, R164). -/
def judgeStatus (k : Nat) (s : State) : State :=
  match s.record? k with
  | none => s
  | some r =>
    match s.incident? r.incident with
    | none => s
    | some i =>
      if i.isoStatus = .restoring then
        if restorationEnds r then setStatus r.incident .restored (freeRecord k s) else s
      else
        let x := judgedStatus s r i.isoStatus
        if x = i.isoStatus then s else setStatus r.incident x s

/-- Whether a record's incident is RESTORING. -/
def restoring (s : State) (r : IsoRecord) : Bool := (s.incident? r.incident).any fun i => i.isoStatus = .restoring

/-- The three steps of a pass over one record (R160). -/
def passRecord (c : Ctx) (h : Hooks) (k : Nat) (s : State) : State :=
  match s.record? k with
  | none => s
  | some _ =>
    let s := reexamine c k s
    let s := if (s.record? k).any (restoring s) then retryHeld h k s else s
    judgeStatus k s

/-- A record pass over the records in use, in ascending index (R160). -/
def recordPass (c : Ctx) (h : Hooks) (s : State) : State :=
  (List.range Config.recordLimit).foldl (fun s k => passRecord c h k s) s

/-! ### Crew reports (R159) -/

/-- The step and last result that an accepted crew report gives an entry (R159). -/
def crewStep (step : EntryStep) (a : Action) : Option (EntryStep × LastResult) :=
  match step, a with
  | .crewClose, .close => some (.closed, .crewClosed)
  | .crewClose, .opening => some (.closeFailed, .crewOpen)
  | .crewOpen, .opening => some (.reopened, .crewOpen)
  | .crewOpen, .close => some (.openFailed, .crewClosed)
  | .openFailed, .opening => some (.reopened, .crewOpen)
  | _, _ => none

/-- An accepted crew report handed to the register (R159). -/
def handCrew (element : Nat) (a : Action) (s : State) : State :=
  match s.recordHolding element with
  | none => s
  | some k =>
    s.updRecord k fun r => r.updEntry element fun e =>
      match crewStep e.step a with
      | some (x, l) => { e.toStep s.now x with last := some l }
      | none => e

end Sys2Proof.Machine
end

