-- ==== Sys2Proof/Machine/Activation.lean ====
section
/-! DEFINITION. Silence of a station, the conflict test, carry-over and activation (R22 to R27, R35, R37, R40, R63, R85). -/

namespace Sys2Proof.Machine

/-! ### Stations (R35, R37, R40) -/

/-- The STATION notice of a change that took a station from state `old` to the record `t`, with the basis as it stands when
the notice is passed (R40). -/
def stationNotice (old : StationState) (t : Station) (cause : StationCause) (s : State) : State :=
  passNotice
    (.station { address := t.address, oldState := old, state := t.state, cause := cause, localFlag := t.localFlag
                lastAccepted := t.lastAccepted, basis := s.net.basis }) s

/-- A station record replaced. -/
def setStation (t : Station) (s : State) : State := s.updStation t.address fun _ => t

/-- A station whose silence timer has expired: SILENT, the timer stopped (R35, R37). -/
def Station.silenced (t : Station) : Station := { t with state := .silent, silenceAt := none }

/-- The expiry of a station's silence timer, by its state (R35, R37). -/
def silenceEvent (address : Nat) (s : State) : State :=
  match s.station? address with
  | none => s
  | some t =>
    match t.state with
    | .reporting =>
      let s := bumpBasis (setStation t.silenced s)
      let s := syncUnavailable address (markUnconfirmed address s)
      stalePoints address (stationNotice .reporting t.silenced .expiry s)
    | .heldSilent => stationNotice .heldSilent t.silenced .expiry (setStation t.silenced s)
    | .waiting | .silent => setStation { t with silenceAt := none } s

/-! ### Conflict test (R22) -/

/-- The elements listed in the records in use, in ascending number. -/
def State.listedElements (s : State) : List Nat :=
  sortBy id ((s.register.records.filterMap id).flatMap fun r => r.entries.map (·.element))

/-- The segments with an open outage entry, and those of non-CLOSED incidents, in ascending number. -/
def State.workedSegments (s : State) : List Nat :=
  sortBy id (s.supply.outages.map (·.segment)
    ++ (s.incidentList.filter fun i => i.state ≠ .closed).map (·.segment))

/-- A listed element that the standby image lacks or holds unlike (R22). -/
def elementConflict (s : State) (img : Image) (n : Nat) : Bool :=
  match s.elemTopo? n, img.element? n with
  | some a, some b => !alike a b
  | _, _ => true

/-- The first conflict, elements before segments (R22). -/
def conflictTest (img : Image) (s : State) : Option (RecordKind × Nat) :=
  match s.listedElements.find? (elementConflict s img) with
  | some n => some (.element, n)
  | none => (s.workedSegments.find? fun n => (img.segment? n).isNone).map fun n => (.segment, n)

/-! ### Carry-over (R25, R26, R63) -/

/-- An element record as a new element takes it (R25, R108). -/
def freshElement (now number : Nat) : ElementRec :=
  { number := number, state := .unknown, direction := none, source := .station, unconfirmed := false
    faultMark := false, changedAt := now }

/-- The record of an element of the new image (R25). -/
def carryElement (now : Nat) (old : Option Image) (table : List ElementRec) (e : Element) : ElementRec :=
  match old.bind fun i => i.element? e.number, table.find? fun r => r.number = e.number with
  | some o, some r => if alike o e then r else freshElement now e.number
  | _, _ => freshElement now e.number

/-- Whether a point of the new image is kept: the old one has its number and its range (R26). -/
def keptPoint (old : Option Image) (t : Point) : Bool :=
  ((old.bind fun i => i.point? t.number)).any fun o => sameRange o t

/-- The record of a point of the new image, before R63 (R26). -/
def carryPoint (old : Option Image) (points : List PointRec) (t : Point) : PointRec :=
  match points.find? fun r => r.number = t.number with
  | some r => if keptPoint old t then r else PointRec.fresh t
  | none => PointRec.fresh t

/-- A station record as a new station takes it (R26, R32). -/
def freshStation (address : Nat) : Station :=
  { address := address, state := .waiting, silenceAt := none, localFlag := false, lastAccepted := none
    lastApplied := none }

/-- The record of a station of the new image; a running silence timer goes on from the last accepted report with the new
limit (R26). -/
def carryStation (stations : List Station) (t : StationTopo) : Station :=
  match stations.find? fun r => r.address = t.address with
  | some r => { r with silenceAt := r.silenceAt.map fun x => (r.lastAccepted.map (· + t.limit)).getD x }
  | none => freshStation t.address

/-- A carried point whose station in the new image is not REPORTING becomes STALE (R63). -/
def staleCarried (stations : List Station) (t : Point) (r : PointRec) : PointRec :=
  if stations.any fun x => x.address = t.station && x.state = .reporting then r else staleOf r

/-- The tables of the new image: every block reads it from this point (R25, R26, R27 step 3, R63, R85). -/
def carryOver (img : Image) (s : State) : State :=
  let old := s.net.active
  let stations := img.stations.map (carryStation s.field.stations)
  { s with
    net := { s.net with active := some img }
    field := { s.field with stations := stations }
    points := img.points.map fun t => staleCarried stations t (carryPoint old s.points t)
    elements := { s.elements with table := img.elements.map (carryElement s.now old s.elements.table) }
    supply := { s.supply with segs := img.segments.map (carrySegment s.now img s.supply.segs) } }

/-- The POINT notices of R63: the kept points that the activation made STALE. -/
def staleNotices (img : Image) (s : State) : List NoticeBody :=
  let stations := img.stations.map (carryStation s.field.stations)
  (img.points.filter (keptPoint s.net.active)).filterMap fun t =>
    let r := carryPoint s.net.active s.points t
    pointNotice t.segment r (staleCarried stations t r)

/-- The kept stations whose silence timer has already elapsed at activation (R26). -/
def elapsedStations (s : State) : List Nat :=
  (s.field.stations.filter fun t => t.silenceAt.any fun x => x ≤ s.now).map (·.address)

/-! ### Activation (R27) -/

/-- The PLAN_END notice of a plan (R150). -/
def planNotice (p : Plan) (verdict : PlanVerdict) (endBasis : Word) : NoticeBody :=
  .planEnd
    { plan := p.number, incident := p.incident, target := p.target, verdict := verdict, result := p.result
      failing := p.failing, startBasis := p.startBasis, endBasis := endBasis, zoneLength := p.zone.length
      closeLength := p.close.length, lostLength := p.lost.length, customers := p.customers
      guardedCount := p.guardedCount, crewCount := p.crewCount }

/-- The plan buffer emptied, a HELD plan discarded with its notice (R27 step 1). -/
def discardPlan (s : State) : State :=
  let s' := { s with planner := { s.planner with buffer := .empty } }
  match s.planner.buffer with
  | .held p => passNotice (planNotice p .topologyChanged s.net.basis) s'
  | .computing _ _ | .empty => s'

/-- An activation (R27), with the stale points of R63 and the elapsed silence timers of R26 after it (log 24). -/
def activate (pass : State → State) (img : Image) (s : State) : State :=
  let s := bumpBasis (discardPlan s)
  let stale := staleNotices img s
  let s := recompute none 0 pass (carryOver img s)
  let s := { s with net := { s.net with standby := .empty } }
  let s := passNotice (.activated img.number s.net.basis) s
  let s := passNotices stale s
  (elapsedStations s).foldl (fun s a => silenceEvent a s) s

/-- An activating moment's conditions besides the conflict test (R24). -/
def State.idle (s : State) : Bool :=
  s.elements.queue.isEmpty && match s.planner.buffer with
    | .computing _ _ => false
    | .empty | .held _ => true

/-- A PENDING image at an event that may be its activating moment (R24). -/
def activateIfDue (pass : State → State) (s : State) : State :=
  match s.net.standby with
  | .pending img =>
    if s.idle then
      match conflictTest img s with
      | some (k, n) =>
        passNotice (.activationFailed img.number k n) { s with net := { s.net with standby := .complete img } }
      | none => activate pass img s
    else s
  | .empty | .loading _ | .complete _ => s

end Sys2Proof.Machine
end

