-- ==== Sys2Proof/Machine/Cascade.lean ====
section
/-! DEFINITION. How dispatch passes, record passes and activations set one another off inside one event, without a pass
inside itself (R120, R130, R160).

A dispatch pass inside a dispatch pass, and a record pass inside a record pass, are the pass in progress; no activation is
made inside another (log 32). -/

namespace Sys2Proof.Machine

/-- The record pass of an activation: the orders it places are dispatched, and what follows their ends belongs to it. -/
def passInActivation (c : Ctx) : State → State := recordPass c ⟨dispatchPass id, id, id⟩

/-- The activating moment of an event outside every pass. -/
def activateTop (c : Ctx) : State → State := activateIfDue (passInActivation c)

/-- The activating moment inside a record pass. -/
def activateInPass : State → State := activateIfDue id

/-- A dispatch pass inside a record pass. -/
def dispatchInPass : State → State := dispatchPass activateInPass

/-- A record pass outside every pass (R160). -/
def recordPassTop (c : Ctx) : State → State := recordPass c ⟨dispatchInPass, id, activateInPass⟩

/-- A record pass inside a dispatch pass: the orders it places are reached by that pass (R120). -/
def recordPassInDispatch (c : Ctx) : State → State := recordPass c ⟨id, id, activateInPass⟩

/-- The activating moment inside a dispatch pass. Inside an EXECUTE it comes where the first orders placed have ended by their
interlock and the queue is empty again, though later entries still stand in TO_CLOSE with order number 0, of which R165 says
that an activating moment finds none: R24 and R130 step 6 are followed (DESIGN CHOICE, log 37). -/
def activateInDispatch (c : Ctx) : State → State := activateIfDue (recordPass c ⟨id, id, id⟩)

/-- A dispatch pass outside every pass (R120): an order that ends in it is followed by steps 5 and 6 of R130. -/
def dispatchTop (c : Ctx) : State → State :=
  dispatchPass fun s => activateInDispatch c (recordPassInDispatch c s)

/-- What an order's end or placement sets off outside every pass. -/
def hooksTop (c : Ctx) : Hooks := ⟨dispatchTop c, recordPassTop c, activateTop c⟩

end Sys2Proof.Machine
end

