-- ==== Sys2Proof/Machine/Planner.lean ====
section
/-! DEFINITION. The plan computation: zone growth, pruning, prediction, figures, completion (R137 to R144). -/

namespace Sys2Proof.Machine

/-- The copy taken at acceptance (R137). -/
def takeCopy (img : Image) (s : State) : PlanCopy where
  elements := img.elements.map fun e =>
    { number := e.number, state := ((s.element? e.number).map (·.state)).getD .unknown, operable := s.operable e }
  supply := s.supply.segs.map fun x => (x.segment, x.state)

/-- Whether an element's state in the copy is CLOSED (R138). -/
def PlanCopy.closed (c : PlanCopy) (n : Nat) : Bool := c.elements.any fun e => e.number = n && e.state = .closed

/-- Whether an element is operable in the copy (R114, R137). -/
def PlanCopy.operable (c : PlanCopy) (n : Nat) : Bool := c.elements.any fun e => e.number = n && e.operable

/-- Whether a segment's supply state in the copy is LIVE or RECHARGING (R142, R143). -/
def PlanCopy.inSupply (c : PlanCopy) (n : Nat) : Bool :=
  c.supply.any fun x => x.1 = n && (x.2 = .live || x.2 = .recharging)

/-- Zone growth in progress (R138): its lists, and the failure that has ended it. -/
structure Growth where
  zone : List Nat
  close : List (Nat × OpClass)
  work : List Nat
  failure : Option (PlanResult × Nat)
  deriving DecidableEq, Repr

/-- A segment added to the zone list and the work list, within the zone limit (R138, R140). -/
def Growth.addSegment (g : Growth) (u element : Nat) : Growth :=
  if Config.zoneLimit ≤ g.zone.length then { g with failure := some (.zoneLimit, element) }
  else { g with zone := g.zone ++ [u], work := g.work ++ [u] }

/-- An element added to the close list, once, within the close-list limit (R138 to R140). -/
def Growth.addElement (g : Growth) (e : Element) : Growth :=
  if g.close.any fun x => x.1 = e.number then g
  else if Config.closeLimit ≤ g.close.length then { g with failure := some (.elementLimit, e.number) }
  else { g with close := g.close ++ [(e.number, e.cls)] }

/-- An entry into the zone from segment `u` through an element that is not CLOSED (R138, R139). -/
def Growth.entry (c : PlanCopy) (g : Growth) (e : Element) (u : Nat) : Growth :=
  if g.zone.contains u then g
  else if c.operable e.number then g.addElement e
  else g.addSegment u e.number

/-- One element touching the examined segment judged (R138, R139). -/
def Growth.judge (c : PlanCopy) (segment : Nat) (g : Growth) (e : Element) : Growth :=
  if g.failure.isSome || c.closed e.number then g
  else
    match e.kind with
    | .valve => g.entry c e (if e.endA = segment then e.endB else e.endA)
    | .regulator => if e.endB = segment then g.entry c e e.endA else g
    | .source =>
      if c.operable e.number then g.addElement e else { g with failure := some (.noIsolation, e.number) }

/-- Zone growth: the oldest waiting segment examined, until none waits or a failure (R138). A segment enters the work list
once, and the zone list holds at most 24. -/
def growLoop (img : Image) (c : PlanCopy) : Nat → Growth → Growth
  | 0, g => g
  | fuel + 1, g =>
    if g.failure.isSome then g
    else
      match g.work with
      | [] => g
      | n :: rest => growLoop img c fuel ((touching img n).foldl (Growth.judge c n) { g with work := rest })

def grow (img : Image) (c : PlanCopy) (target : Nat) : Growth :=
  growLoop img c (Config.zoneLimit + 1) { zone := [target], close := [], work := [target], failure := none }

/-- Pruning: entries with both ends in the zone are removed; a SOURCE never is (R141). -/
def prune (img : Image) (zone : List Nat) (close : List (Nat × OpClass)) : List (Nat × OpClass) :=
  close.filter fun x =>
    !((img.element? x.1).any fun e => e.kind ≠ .source && zone.contains e.endA && zone.contains e.endB)

/-- The lost-supply prediction (R142). -/
def predictLost (img : Image) (c : PlanCopy) (zone : List Nat) (close : List (Nat × OpClass)) : List Nat :=
  let reached := reach img fun n => !c.closed n && !(close.any fun x => x.1 = n)
  (img.segments.map (·.number)).filter fun n => c.inSupply n && !zone.contains n && !reached.contains n

/-- The segments a plan's figures count (R143). -/
def countedSegments (img : Image) (c : PlanCopy) (zone lost : List Nat) : List Segment :=
  ((zone ++ lost).filter c.inSupply).filterMap img.segment?

/-- The computation's own result with its lists and figures, before the completion judges the basis (R138 to R143). -/
def computePlan (img : Image) (c : PlanCopy) (p : Plan) : Plan :=
  let g := grow img c p.target
  match g.failure with
  | some (r, e) => { p with result := some r, failing := some e, zone := g.zone, close := g.close }
  | none =>
    let close := prune img g.zone g.close
    let lost := predictLost img c g.zone close
    let counted := countedSegments img c g.zone lost
    { p with
      result := some .ok
      zone := g.zone
      close := close
      lost := lost
      customers := (counted.map (·.customers)).sum
      guardedCount := (counted.filter (·.guarded)).length
      crewCount := (close.filter fun x => x.2 = .manual).length }

/-- Steps 1 and 2 of a completion (R144). -/
def finishPlan (now : Nat) (basis : Word) (p : Plan) : Plan :=
  { p with
    endBasis := some basis
    endTime := some now
    result := if basis = p.startBasis then p.result else some .stale }

/-- The verdict of a PLAN_END notice at a completion (R150). -/
def planVerdict (p : Plan) : PlanVerdict := if p.result = some .ok then .ready else .failed

/-- A computed plan held, with its notice, and the activating moment after it (R144 steps 3 to 5). -/
def holdPlan (p : Plan) (s : State) : State :=
  activateTop .plain
    (passNotice (planNotice p (planVerdict p) s.net.basis) { s with planner := { s.planner with buffer := .held p } })

/-- The completion of a computation (R144), at a part time later than its acceptance (R137). -/
def completePlan (s : State) : State :=
  match s.planner.buffer, s.net.active with
  | .computing p c, some img =>
    if p.startTime < s.now then ownEvent (holdPlan (finishPlan s.now s.net.basis (computePlan img c p))) s else s
  | _, _ => s

end Sys2Proof.Machine
end

