-- ==== Sys2Proof/Machine/Store.lean ====
section
/-! DEFINITION. The stored configuration, restart and the board's events (R175 to R179). -/

namespace Sys2Proof.Machine

/-- The settings of a point that SAVE stores (R175). -/
def settingsOf (r : PointRec) : PointSettings :=
  { point := r.number, offset := r.offset, weight := r.weight, hyst := r.hyst, fallLimit := r.fallLimit
    limits := r.limits }

/-- The copy that a SAVE takes (R176). -/
def saveContents (img : Image) (s : State) : StoreContents :=
  { image := img, settings := s.points.map settingsOf, globals := s.supply.globals }

/-- The store overwritten in part: a SAVE in progress ends where it stands (R177). -/
def breakSave (s : State) : State :=
  match s.store.save with
  | some _ => { s with store := { s.store with stored := .broken, save := none } }
  | none => s

/-- The end of a SAVE at its completion, with its STORE notice (R177). -/
def completeSave (good : Bool) (s : State) : State :=
  match s.store.save with
  | none => s
  | some c =>
    let stored := if good then Stored.written c.contents c.contents.check else .broken
    ownEvent
      (passNotice (.saveEnd { good := good, image := c.contents.image.number, points := c.contents.settings.length
                              check := c.contents.check, acceptedAt := c.acceptedAt }))
      { s with store := { s.store with stored := stored, save := none } }

/-- The restart load: the store result, and the contents to install with VALID (R179 step 2). -/
def loadStore (x : Stored) : StoreResult × Option StoreContents :=
  match x with
  | .blank => (.blank, none)
  | .broken => (.invalid, none)
  | .written c check =>
    if c.check ≠ check then (.invalid, none)
    else
      match validate c.image.raw with
      | some _ => (.invalid, none)
      | none => (.valid, some c)

/-- A point as a restart installs it: its stored settings, all else at its default (R46, R179 step 3). -/
def installPoint (l : List PointSettings) (t : Point) : PointRec :=
  match l.find? fun x => x.point = t.number with
  | some x =>
    { PointRec.fresh t with
      offset := x.offset, weight := x.weight, hyst := x.hyst, fallLimit := x.fallLimit, limits := x.limits }
  | none => PointRec.fresh t

/-- Loaded contents made the active image, with every record at its value after restart (R179 step 3). -/
def installImage (c : StoreContents) (s : State) : State :=
  { s with
    net := { s.net with active := some c.image }
    field := { s.field with stations := c.image.stations.map fun t => freshStation t.address }
    points := c.image.points.map (installPoint c.settings)
    elements := { s.elements with table := c.image.elements.map fun e => freshElement 0 e.number }
    supply := { segs := c.image.segments.map fun x => liveSegment 0 x.number, outages := [], globals := c.globals } }

/-- Every block at its value after restart, before the load; what survives is the store's condition, the RESET input's
level, and the model's own queue and count (R179 step 1). -/
def erase (cause : RestartCause) (s : State) : State where
  partTime := 0
  power := .running
  resetPin := s.resetPin
  control := { rx := [], rxAt := 0, replies := [], line := .free, notices := [], nextNotice := 0
               subscribed := NoticeClass.all, overrun := false, gathered := none }
  field := { rx := [], rxAt := 0, out := [], line := [], stations := [] }
  net := { active := none, standby := .empty, basis := 0 }
  points := []
  elements := { table := [], queue := [], nextOrder := 1, nextTag := 1 }
  supply := { segs := [], outages := [], globals := Globals.default }
  incidents := { slots := List.replicate Config.slotLimit none, nextNumber := 1, full := false }
  planner := { buffer := .empty, nextPlan := 1 }
  register := { records := List.replicate Config.recordLimit none }
  store := { stored := (breakSave s).store.stored, save := none, cause := cause, result := s.store.result }
  drawn := s.drawn
  pending := s.pending

/-- The SYSTEM notice STARTED (R179 step 4). -/
def startedNotice (s : State) : NoticeBody :=
  .started { cause := s.store.cause, result := s.store.result
             image := ((s.net.active.map (·.number)).getD 0), globals := s.supply.globals }

/-- A restart (R179). Every isolation record is free at the recompute of step 5, so its hand-ons to the register find
none. The line is free, so STARTED, the first notice queued, is taken at the end of the event (R171). -/
def restart (cause : RestartCause) (s : State) : State :=
  let s := erase cause s
  let x := loadStore s.store.stored
  let s := { s with store := { s.store with result := x.1 } }
  let s := match x.2 with
    | some c => installImage c s
    | none => s
  ownEvent (fun s => recompute none 0 id (passNotice (startedNotice s) s)) s

/-- The part held, with the cause its restart will record; a SAVE in progress has ended (R177, R178). -/
def hold (cause : RestartCause) (s : State) : State := { breakSave s with power := .held cause }

end Sys2Proof.Machine
end

