-- ==== Sys2Proof/Machine/Port.lean ====
section
/-! DEFINITION. The part's own requests: STATUS, SUBSCRIBE, SET_GLOBALS, RESTART, SAVE (R76, R171, R173, R174, R176). -/

namespace Sys2Proof.Machine

/-- A SAVE is in progress (R176). -/
def State.saving (s : State) : Bool := s.store.save.isSome

/-- The standby image's number, 0 in EMPTY (R174). -/
def Standby.imageNumber : Standby → Nat
  | .empty => 0
  | .loading l => l.image
  | .complete img => img.number
  | .pending img => img.number

/-- The plan buffer's plan number, 0 in EMPTY (R174). -/
def PlanBuffer.planNumber : PlanBuffer → Nat
  | .empty => 0
  | .computing p _ => p.number
  | .held p => p.number

/-- The non-CLOSED incidents (R88). -/
def State.openIncidents (s : State) : List Incident := s.incidentList.filter fun i => i.state ≠ .closed

/-- The values of a STATUS (R174). -/
def statusOf (s : State) : StatusResult where
  partTime := s.now
  cause := s.store.cause
  result := s.store.result
  image := (s.net.active.map (·.number)).getD 0
  standby := s.net.standby.code
  standbyImage := s.net.standby.imageNumber
  saving := s.saving
  basis := s.net.basis
  openIncidents := s.openIncidents.length
  overdueIncidents := (s.openIncidents.filter (·.overdue)).length
  queuedOrders := (s.elements.queue.filter fun o => !o.inFlight).length
  inFlight := s.flightCount
  outages := s.supply.outages.length
  notReporting := (s.field.stations.filter fun t => t.state ≠ .reporting).length
  planState := s.planner.buffer.code
  plan := s.planner.buffer.planNumber
  full := s.incidents.full
  overrun := s.control.overrun
  waiting := s.control.notices.length
  subscribed := s.control.subscribed

/-- STATUS: the values, then FULL and OVERRUN cleared (R174). -/
def serveStatus (_ : Unit) (s : State) : Served :=
  ({ s with control := { s.control with overrun := false }, incidents := { s.incidents with full := false } },
    .done (.status (statusOf s)))

def execStatus (tag : Nat) (body : Body Unit) (s : State) : Host.Outcome State Fault Refusal :=
  .next (takeRequest 0x01 tag body serveStatus s)

/-- SUBSCRIBE (R173). The set is kept in the order of the class codes. -/
def serveSubscribe (l : List Nat) (s : State) : Served :=
  if l.all fun n => (NoticeClass.ofCode n).isSome then
    let set := NoticeClass.all.filter fun c => l.contains c.code
    ({ s with control := { s.control with subscribed := set } }, .done (.subscribed set))
  else refuse .range s

def execSubscribe (tag : Nat) (body : Body (List Nat)) (s : State) : Host.Outcome State Fault Refusal :=
  .next (takeRequest 0x02 tag body serveSubscribe s)

/-- SET_GLOBALS (R76, R177). -/
def serveSetGlobals (a : GlobalsArgs) (s : State) : Served :=
  if s.saving then refuse .busy s
  else
    let g := clampGlobals a
    ({ s with supply := { s.supply with globals := g, segs := s.supply.segs.map (reaim s.now g) } }, .done (.globals g))

def execSetGlobals (tag : Nat) (body : Body GlobalsArgs) (s : State) : Host.Outcome State Fault Refusal :=
  .next (takeRequest 0x03 tag body serveSetGlobals s)

/-- RESTART: answered DONE; the restart follows the last byte of the reply (R171). -/
def serveRestart (_ : Unit) (s : State) : Served := (s, .done .nothing)

def execRestart (tag : Nat) (body : Body Unit) (s : State) : Host.Outcome State Fault Refusal :=
  .next (takeRequest 0x04 tag body serveRestart s)

/-- A standby image in LOADING or PENDING holds back a SAVE (R176). -/
def Standby.holdsSave : Standby → Bool
  | .loading _ | .pending _ => true
  | .empty | .complete _ => false

/-- SAVE (R176). -/
def serveSave (_ : Unit) : State → Served :=
  needImage fun img s =>
    if s.saving then refuse .busy s
    else if s.net.standby.holdsSave then refuse .busy s
    else
      ({ s with store := { s.store with save := some { contents := saveContents img s, acceptedAt := s.now } } },
        .accepted .nothing)

def execSave (tag : Nat) (body : Body Unit) (s : State) : Host.Outcome State Fault Refusal :=
  .next (takeRequest 0x05 tag body serveSave s)

end Sys2Proof.Machine
end

