-- ==== Sys2Proof/Machine/Load.lean ====
section
/-! DEFINITION. The topology requests: TOPO_BEGIN, TOPO_PART, TOPO_COMMIT, TOPO_ABANDON (R16, R17, R19 to R23). -/

namespace Sys2Proof.Machine

def State.setStandby (s : State) (x : Standby) : State := { s with net := { s.net with standby := x } }

/-- TOPO_BEGIN (R16). -/
def serveTopoBegin (a : BeginArgs) (s : State) : Served :=
  if a.image = 0 ∨ Config.segmentLimit < a.segments ∨ Config.elementLimit < a.elements ∨ Config.pointLimit < a.points
      ∨ Config.stationLimit < a.stations then refuse .range s
  else
    (s.setStandby (.loading
      { image := a.image, segments := a.segments, elements := a.elements, points := a.points, stations := a.stations
        records := [], check := crc32Start, next := 1, gapAt := s.now + Config.gapTime }), .done .nothing)

def execTopoBegin (tag : Nat) (body : Body BeginArgs) (s : State) : Host.Outcome State Fault Refusal :=
  .next (takeRequest 0x10 tag body serveTopoBegin s)

/-- An accepted PART added to a LOADING image (R17, R21). -/
def addPart (now : Nat) (a : PartArgs) (l : Loading) : Loading :=
  { l with
    records := l.records ++ partRaw a.records
    check := crc32Carry l.check a.records.bytes
    next := after 65535 l.next
    gapAt := now + Config.gapTime }

/-- The reply of an accepted PART: the records of each kind now held (R17). -/
def heldCounts (l : List RawRecord) : Result :=
  .partCounts (countKind .segment l) (countKind .element l) (countKind .point l) (countKind .station l)

/-- TOPO_PART (R17). -/
def serveTopoPart (a : PartArgs) (s : State) : Served :=
  match s.net.standby with
  | .loading l =>
    match partKind a.records with
    | none => refuse .range s
    | some k =>
      if a.sequence ≠ l.next then refuse .sequence s
      else if k.top < countKind k l.records + (partRaw a.records).length then refuse .range s
      else (s.setStandby (.loading (addPart s.now a l)), .done (heldCounts (addPart s.now a l).records))
  | .empty | .complete _ | .pending _ => refuse .state s

def execTopoPart (tag : Nat) (body : Body PartArgs) (s : State) : Host.Outcome State Fault Refusal :=
  .next (takeRequest 0x11 tag body serveTopoPart s)

/-- The declared count of a kind (R16). -/
def Loading.declared (l : Loading) : RecordKind → Nat
  | .segment => l.segments
  | .element => l.elements
  | .point => l.points
  | .station => l.stations

/-- The counts test of a commit (R20 test 1). -/
def countFault (l : Loading) : Option Denial :=
  ([RecordKind.segment, .element, .point, .station].find? fun k => countKind k l.records ≠ l.declared k).map fun k =>
    .countMismatch k (l.declared k) (countKind k l.records)

/-- The check test of a commit (R20 test 2). -/
def checkFault (l : Loading) (check : Nat) : Option Denial :=
  if crc32Final l.check = BitVec.ofNat 32 check then none else some (.checkMismatch (crc32Final l.check))

/-- The three tests of a first commit, in order (R20). -/
def commitFault (l : Loading) (check : Nat) : Option Denial :=
  ((countFault l).or (checkFault l check)).or (validate l.records)

/-- A commit from the conflict test on, of an image that is COMPLETE (R22, R23). -/
def commitImage (img : Image) (s : State) : Served :=
  match conflictTest img s with
  | some (k, n) => (s.setStandby (.complete img), .refused (.conflict k n))
  | none =>
    if s.idle then (activate (passInActivation .plain) img s, .done (.commit true))
    else (s.setStandby (.pending img), .done (.commit false))

/-- TOPO_COMMIT (R20, R23). -/
def serveTopoCommit (check : Nat) (s : State) : Served :=
  if s.saving then refuse .busy s
  else
    match s.net.standby with
    | .empty => refuse .state s
    | .pending _ => (s, .done (.commit false))
    | .complete img => commitImage img s
    | .loading l =>
      match commitFault l check with
      | some d => (s.setStandby .empty, .refused d)
      | none => commitImage (Image.ofRaw l.image l.records) (s.setStandby (.complete (Image.ofRaw l.image l.records)))

def execTopoCommit (tag : Nat) (body : Body Nat) (s : State) : Host.Outcome State Fault Refusal :=
  .next (takeRequest 0x12 tag body serveTopoCommit s)

/-- TOPO_ABANDON (R19). -/
def serveTopoAbandon (_ : Unit) (s : State) : Served := (s.setStandby .empty, .done .nothing)

def execTopoAbandon (tag : Nat) (body : Body Unit) (s : State) : Host.Outcome State Fault Refusal :=
  .next (takeRequest 0x13 tag body serveTopoAbandon s)

end Sys2Proof.Machine
end

