-- ==== Sys2Proof/Machine/Points.lean ====
section
/-! DEFINITION. The point and station requests: POINT_TUNE, POINT_LIMITS, POINT_READ, STATION_CLEAR, STATION_READ (R38, R41,
R47, R48, R66). -/

namespace Sys2Proof.Machine

/-- R13 and R14 for a request that names a point. -/
def withPoint (n : Nat) (serve : Point → PointRec → State → Served) : State → Served :=
  needImage fun img s =>
    match img.point? n, s.point? n with
    | some t, some r => serve t r s
    | _, _ => refuse .notFound s

/-- The record after a POINT_TUNE: the clamps of R47; F of 0 clears FALLING. -/
def tunePoint (a : TuneArgs) (r : PointRec) : PointRec :=
  { r with
    offset := clampInt (-64) 63 a.offset
    weight := clampNat 1 16 a.weight
    hyst := a.hyst
    fallLimit := min a.fallLimit 10000
    falling := r.falling && a.fallLimit ≠ 0 }

/-- POINT_TUNE (R47, R177). -/
def servePointTune (a : TuneArgs) : State → Served :=
  withPoint a.point fun _ r s =>
    if s.saving then refuse .busy s
    else
      let x := tunePoint a r
      (setPoint x s, .done (.tuned x.offset x.weight x.hyst x.fallLimit))

def execPointTune (tag : Nat) (body : Body TuneArgs) (s : State) : Host.Outcome State Fault Refusal :=
  .next (takeRequest 0x20 tag body servePointTune s)

/-- POINT_LIMITS (R48, R177). -/
def servePointLimits (a : LimitsArgs) : State → Served :=
  withPoint a.point fun _ r s =>
    if s.saving then refuse .busy s
    else if a.ll ≤ a.l ∧ a.l < a.h ∧ a.h ≤ a.hh then
      (setPoint { r with pendingLimits := some ({ ll := a.ll, l := a.l, h := a.h, hh := a.hh }, a.hyst) } s,
        .done .nothing)
    else refuse .range s

def execPointLimits (tag : Nat) (body : Body LimitsArgs) (s : State) : Host.Outcome State Fault Refusal :=
  .next (takeRequest 0x21 tag body servePointLimits s)

/-- POINT_READ (R66). -/
def servePointRead (n : Nat) : State → Served := withPoint n fun t r s => (s, .done (.point t r))

def execPointRead (tag : Nat) (body : Body Nat) (s : State) : Host.Outcome State Fault Refusal :=
  .next (takeRequest 0x22 tag body servePointRead s)

/-- R13 and R14 for a request that names a station. -/
def withStation (a : Nat) (serve : StationTopo → Station → State → Served) : State → Served :=
  needImage fun img s =>
    match img.station? a, s.station? a with
    | some x, some t => serve x t s
    | _, _ => refuse .notFound s

/-- A HELD_SILENT station cleared: REPORTING, with its timer, its points and its elements as they stood; then a dispatch
pass, and the STATION notice (R38, R40, R120). Where that pass brings an activation that removes the
station or expires its timer, the notice still follows, with state REPORTING (log 25). -/
def clearStation (t : Station) (s : State) : State :=
  let x := { t with state := .reporting }
  let s := syncUnavailable t.address (bumpBasis (setStation x s))
  stationNotice t.state x .clear (dispatchTop .plain s)

/-- STATION_CLEAR (R38). -/
def serveStationClear (a : Nat) : State → Served :=
  withStation a fun _ t s =>
    if t.state = .heldSilent then (clearStation t s, .done .nothing) else refuse .state s

def execStationClear (tag : Nat) (body : Body Nat) (s : State) : Host.Outcome State Fault Refusal :=
  .next (takeRequest 0x23 tag body serveStationClear s)

/-- The values of a STATION_READ (R41). -/
def stationResult (img : Image) (x : StationTopo) (t : Station) (s : State) : StationResult where
  address := t.address
  mode := x.mode
  limit := x.limit
  state := t.state
  localFlag := t.localFlag
  lastAccepted := t.lastAccepted
  lastApplied := t.lastApplied
  silenceAt := t.silenceAt
  elements := (img.elements.filter fun e => e.cls = .remote && e.station = t.address).length
  points := (img.points.filter fun p => p.station = t.address).length
  tag := ((s.flightOf? t.address).map (·.tag)).getD 0

/-- STATION_READ (R41). -/
def serveStationRead (a : Nat) : State → Served :=
  needImage fun img s =>
    match img.station? a, s.station? a with
    | some x, some t => (s, .done (.station (stationResult img x t s)))
    | _, _ => refuse .notFound s

def execStationRead (tag : Nat) (body : Body Nat) (s : State) : Host.Outcome State Fault Refusal :=
  .next (takeRequest 0x24 tag body serveStationRead s)

end Sys2Proof.Machine
end

