-- ==== Sys2Proof/Machine/Elements.lean ====
section
/-! DEFINITION. The element and order requests: ORDER, ORDER_CANCEL, CREW_REPORT, ELEMENT_CLEAR_FAULT, ORDER_READ,
ELEMENT_READ (R112, R113, R117, R131 to R133). -/

namespace Sys2Proof.Machine

/-- R13 and R14 for a request that names an element. -/
def withElement (n : Nat) (serve : Element → ElementRec → State → Served) : State → Served :=
  needImage fun img s =>
    match img.element? n, s.element? n with
    | some e, some r => serve e r s
    | _, _ => refuse .notFound s

/-- ORDER (R117, R118). -/
def serveOrder (a : OrderArgs) : State → Served :=
  withElement a.element fun _ _ s =>
    match Action.ofCode a.action with
    | none => refuse .range s
    | some x =>
      match placeTest a.element x s with
      | some c => refuse c s
      | none =>
        (place (hooksTop .plain) (fun _ s => s) a.element x .host a.override s,
          .accepted (.placed (placeNumber a.element x s)))

def execOrder (tag : Nat) (body : Body OrderArgs) (s : State) : Host.Outcome State Fault Refusal :=
  .next (takeRequest 0x30 tag body serveOrder s)

/-- ORDER_CANCEL (R131). -/
def serveOrderCancel (n : Nat) : State → Served :=
  needImage fun _ s =>
    match s.order? n with
    | none => refuse .notFound s
    | some o =>
      if o.inFlight then refuse .inFlight s
      else (endOrder (hooksTop .plain) o .cancelled s, .done .nothing)

def execOrderCancel (tag : Nat) (body : Body Nat) (s : State) : Host.Outcome State Fault Refusal :=
  .next (takeRequest 0x31 tag body serveOrderCancel s)

/-- The end position that a CREW_REPORT carries: OPEN or CLOSED of the position codes (R112, 11.4). -/
def crewPosition (code : Nat) : Option Action :=
  match PositionCode.ofCode code with
  | some .opened => some .opening
  | some .closed => some .close
  | _ => none

/-- An accepted crew report carried out: R110, the hand-on to the Isolation Register, the record pass (R112, R159, R160). -/
def crewEvent (a : Action) (old : ElementRec) (s : State) : State :=
  let s := elementSteps (hooksTop { skip := some old.number }) old (takeCrew s.now a old) .crew false s
  recordPassTop .plain (handCrew old.number a s)

/-- CREW_REPORT (R112). -/
def serveCrewReport (a : CrewArgs) : State → Served :=
  withElement a.element fun e r s =>
    match crewPosition a.position with
    | none => refuse .range s
    | some x =>
      if e.cls = .remote && (s.station? e.station).any fun t => t.state = .reporting then refuse .remoteReported s
      else (crewEvent x r s, .done .nothing)

def execCrewReport (tag : Nat) (body : Body CrewArgs) (s : State) : Host.Outcome State Fault Refusal :=
  .next (takeRequest 0x32 tag body serveCrewReport s)

/-- A set fault mark cleared: one increase of the basis and the ELEMENT notice (R12, R113, R115). -/
def clearFault (old : ElementRec) (s : State) : State :=
  let x := { old with faultMark := false }
  let s := bumpBasis (s.updElement old.number fun _ => x)
  passNotices (elementNotice old x .clearFault none s.net.basis).toList s

/-- ELEMENT_CLEAR_FAULT (R113). -/
def serveElementClearFault (n : Nat) : State → Served :=
  withElement n fun _ r s => (if r.faultMark then clearFault r s else s, .done .nothing)

def execElementClearFault (tag : Nat) (body : Body Nat) (s : State) : Host.Outcome State Fault Refusal :=
  .next (takeRequest 0x33 tag body serveElementClearFault s)

/-- An order with its element's station and slot (R132). -/
def orderLine (img : Image) (o : Order) : Order × Nat × Nat :=
  match img.element? o.element with
  | some e => (o, e.station, e.slot)
  | none => (o, 0, 0)

/-- ORDER_READ (R132). -/
def serveOrderRead (_ : Unit) : State → Served :=
  needImage fun img s => (s, .done (.orders (s.elements.queue.map (orderLine img))))

def execOrderRead (tag : Nat) (body : Body Unit) (s : State) : Host.Outcome State Fault Refusal :=
  .next (takeRequest 0x34 tag body serveOrderRead s)

/-- The values of an ELEMENT_READ (R133). -/
def elementResult (e : Element) (r : ElementRec) (s : State) : ElementResult where
  topo := e
  record := r
  passable := r.state.passes
  operable := s.operable e
  order := ((s.orderOf? e.number).map (·.number)).getD 0
  orderState := (s.orderOf? e.number).map (·.state)
  isoIndex := (s.recordHolding e.number).map (· + 1)

/-- ELEMENT_READ (R133). -/
def serveElementRead (n : Nat) : State → Served :=
  withElement n fun e r s => (s, .done (.element (elementResult e r s)))

def execElementRead (tag : Nat) (body : Body Nat) (s : State) : Host.Outcome State Fault Refusal :=
  .next (takeRequest 0x35 tag body serveElementRead s)

end Sys2Proof.Machine
end

