-- ==== Sys2Proof/Machine/Outages.lean ====
section
/-! DEFINITION. The supply requests: OUTAGE_CLEAR, SEGMENT_READ, OUTAGE_READ (R80, R83, R84). -/

namespace Sys2Proof.Machine

/-- R13 and R14 for a request that names a segment. -/
def withSegment (n : Nat) (serve : Segment → SegSupply → State → Served) : State → Served :=
  needImage fun img s =>
    match img.segment? n, s.seg? n with
    | some t, some x => serve t x s
    | _, _ => refuse .notFound s

/-- A first clearance recorded, with its notice and the record pass (R80, R82, R160). -/
def recordClearance (x : SegSupply) (o : Outage) (s : State) : State :=
  let o := { o with clearance := some s.now }
  recordPassTop .plain (outageNotice .cleared x.state x.state o (s.updOutage o.segment fun _ => o))

/-- OUTAGE_CLEAR (R80). -/
def serveOutageClear (n : Nat) : State → Served :=
  withSegment n fun _ x s =>
    match x.state with
    | .live | .recharging => refuse .state s
    | .cut | .depressurized =>
      match s.outage? n with
      | none => refuse .state s
      | some o => (if o.clearance.isNone then recordClearance x o s else s, .done .nothing)

def execOutageClear (tag : Nat) (body : Body Nat) (s : State) : Host.Outcome State Fault Refusal :=
  .next (takeRequest 0x40 tag body serveOutageClear s)

/-- The values of a SEGMENT_READ (R83). -/
def segmentResult (t : Segment) (x : SegSupply) (s : State) : SegmentResult where
  topo := t
  supply := x
  points := (s.pointsOf.filter fun p => p.segment = t.number).filterMap fun p =>
    (s.point? p.number).map fun r => (p.number, r.quality)
  hasOutage := (s.outage? t.number).isSome

/-- SEGMENT_READ (R83). -/
def serveSegmentRead (n : Nat) : State → Served :=
  withSegment n fun t x s => (s, .done (.segment (segmentResult t x s)))

def execSegmentRead (tag : Nat) (body : Body Nat) (s : State) : Host.Outcome State Fault Refusal :=
  .next (takeRequest 0x41 tag body serveSegmentRead s)

/-- The most entries of one OUTAGE_READ (R84). -/
def outageWindow : Nat := 32

/-- One open entry with its state and its figure at the read (R77, R79, R84). -/
def outageLine (s : State) (o : Outage) : Outage × SupplyState × Nat :=
  (o, ((s.seg? o.segment).map (·.state)).getD .cut, o.figure s.now)

/-- OUTAGE_READ (R84). -/
def serveOutageRead (a : WindowArgs) : State → Served :=
  needImage fun _ s =>
    (s, .done (.outages s.supply.outages.length
      (((s.supply.outages.drop a.offset).take (min a.count outageWindow)).map (outageLine s))))

def execOutageRead (tag : Nat) (body : Body WindowArgs) (s : State) : Host.Outcome State Fault Refusal :=
  .next (takeRequest 0x42 tag body serveOutageRead s)

end Sys2Proof.Machine
end

