-- ==== Sys2Proof/Machine/Calls.lean ====
section
/-! DEFINITION. The incident requests: CALL, the five INCIDENT_SET actions, INCIDENT_READ (R89 to R94, R102 to R104,
R107). -/

namespace Sys2Proof.Machine

/-! ### CALL -/

/-- The call time: the present less the age, clamped to an hour, and never below 0 (R89). -/
def callTime (now age : Nat) : Nat := now - min age 3600

/-- The call number stands in the call list of a non-CLOSED incident (R90). -/
def duplicateCall (number : Nat) (s : State) : Bool :=
  s.openIncidents.any fun i => i.calls.any fun c => c.number = number

/-- A new incident made by a call (R93). -/
def makeCall (now segment : Nat) (cls : CallClass) (cause : Causes) (c : CallEntry) (number : Nat) : Incident :=
  aimDeadline now
    { newIncident now segment cls.grade cause number with baseTime := c.time, totalCalls := 1, calls := [c] }

/-- The reply of a CALL: the incident, created or joined, its grade and OVERDUE after the call (R89). -/
def callReply (i : Incident) (created : Bool) : ReplyBody := .done (.call i.number created i.grade i.overdue)

/-- A call that has passed its tests (R92 to R94). -/
def takeCall (img : Image) (segment : Nat) (cls : CallClass) (c : CallEntry) (s : State) : Served :=
  let cause := cls.cause ((s.seg? segment).map (·.state))
  match correlate img segment s with
  | some i =>
    let j := joinCall s.now cls.grade cause c i
    (setIncident i j true (some .call) (some c) s, callReply j false)
  | none =>
    match createIncident (makeCall s.now segment cls cause c) s with
    | some (s, i) => (passNotices (incidentNotice none i false (some .call) (some c)).toList s, callReply i true)
    | none => refuse .full s

/-- CALL (R89). -/
def serveCall (a : CallArgs) : State → Served :=
  needImage fun img s =>
    match img.segment? a.segment, CallClass.ofCode a.cls with
    | none, _ => refuse .notFound s
    | some _, none => refuse .range s
    | some _, some cls =>
      if a.number = 0 then refuse .range s
      else if duplicateCall a.number s then refuse .duplicate s
      else takeCall img a.segment cls { number := a.number, cls := cls, time := callTime s.now a.age } s

def execCall (tag : Nat) (body : Body CallArgs) (s : State) : Host.Outcome State Fault Refusal :=
  .next (takeRequest 0x50 tag body serveCall s)

/-! ### INCIDENT_SET -/

/-- R13 and the NOT_FOUND test of R102. -/
def withIncident (n : Nat) (serve : Incident → State → Served) : State → Served :=
  needImage fun _ s =>
    match s.incident? n with
    | some i => serve i s
    | none => refuse .notFound s

/-- A taken action: DONE, with the INCIDENT notice (R102). -/
def changeIncident (old new : Incident) (s : State) : Served := (setIncident old new false none none s, .done .nothing)

/-- DISPATCH (R102). -/
def setDispatch (i : Incident) (s : State) : Served :=
  if i.state = .opened then changeIncident i { i with state := .dispatched } s else refuse .state s

/-- ATTEND (R102). -/
def setAttend (i : Incident) (s : State) : Served :=
  if i.state.awaits then changeIncident i { i with state := .attended, deadline := none } s else refuse .state s

/-- SAFE (R102). -/
def setSafe (i : Incident) (s : State) : Served :=
  if i.state = .attended then changeIncident i { i with state := .safe } s else refuse .state s

/-- Whether a SAFE incident may be closed: no isolation in hand, no open entry planned for it (R103). -/
def closable (i : Incident) (s : State) : Bool :=
  (i.isoStatus = .none || i.isoStatus = .restored) && !s.supply.outages.any fun o => o.cause = .planned i.number

/-- CLOSE (R103). -/
def setClose (i : Incident) (s : State) : Served :=
  if i.state = .safe ∧ closable i s then changeIncident i { i with state := .closed, closedAt := some s.now } s
  else refuse .state s

/-- GRADE (R104). -/
def setGrade (grade : Nat) (i : Incident) (s : State) : Served :=
  if i.state = .closed then refuse .state s
  else if 1 ≤ grade ∧ grade ≤ 4 ∧ grade < i.grade then changeIncident i (aimDeadline s.now { i with grade := grade }) s
  else refuse .range s

/-- INCIDENT_SET GRADE, and the frames of INCIDENT_SET that carry no other action (R102, R104, log 13). -/
def serveGrade (a : GradeArgs) : State → Served :=
  withIncident a.incident fun i s => if a.action = 5 then setGrade a.grade i s else refuse .range s

/-- The body that an INCIDENT_SET of a known action carries; it always fits. -/
def setBody (incident grade : Nat) (action : Nat) : Body GradeArgs :=
  .fits { incident := incident, action := action, grade := grade }

def execIncidentSetDispatch (tag incident grade : Nat) (s : State) : Host.Outcome State Fault Refusal :=
  .next (takeRequest 0x51 tag (setBody incident grade 1) (fun a => withIncident a.incident setDispatch) s)

def execIncidentSetAttend (tag incident grade : Nat) (s : State) : Host.Outcome State Fault Refusal :=
  .next (takeRequest 0x51 tag (setBody incident grade 2) (fun a => withIncident a.incident setAttend) s)

def execIncidentSetSafe (tag incident grade : Nat) (s : State) : Host.Outcome State Fault Refusal :=
  .next (takeRequest 0x51 tag (setBody incident grade 3) (fun a => withIncident a.incident setSafe) s)

def execIncidentSetClose (tag incident grade : Nat) (s : State) : Host.Outcome State Fault Refusal :=
  .next (takeRequest 0x51 tag (setBody incident grade 4) (fun a => withIncident a.incident setClose) s)

def execIncidentSetGrade (tag : Nat) (body : Body GradeArgs) (s : State) : Host.Outcome State Fault Refusal :=
  .next (takeRequest 0x51 tag body serveGrade s)

/-! ### INCIDENT_READ -/

def incidentLine (i : Incident) : IncidentLine :=
  { number := i.number, segment := i.segment, state := i.state, grade := i.grade, overdue := i.overdue
    isoStatus := i.isoStatus }

/-- INCIDENT_READ (R107). -/
def serveIncidentRead (n : Nat) : State → Served :=
  needImage fun _ s =>
    if n = 0 then (s, .done (.incidents ((sortBy (·.number) s.incidentList).map incidentLine)))
    else
      match s.incident? n with
      | some i => (s, .done (.incident i))
      | none => refuse .notFound s

def execIncidentRead (tag : Nat) (body : Body Nat) (s : State) : Host.Outcome State Fault Refusal :=
  .next (takeRequest 0x52 tag body serveIncidentRead s)

end Sys2Proof.Machine
end

