-- ==== Sys2Proof/Machine/Plans.lean ====
section
/-! DEFINITION. The plan requests: PLAN, PLAN_READ, PLAN_CANCEL (R136, R147, R148). -/

namespace Sys2Proof.Machine

/-- A plan record at acceptance (R135, R136). -/
def newPlan (number : Nat) (i : Incident) (s : State) : Plan :=
  { number := number, incident := i.number, target := i.segment, startBasis := s.net.basis, startTime := s.now
    endBasis := none, endTime := none, result := none, failing := none, zone := [], close := [], lost := []
    customers := 0, guardedCount := 0, crewCount := 0 }

/-- A PLAN accepted: its number, its record, its copy (R136, R137). -/
def acceptPlan (img : Image) (i : Incident) (s : State) : State :=
  let n := s.planner.nextPlan
  let s' :=
    { s with planner :=
        { buffer := .computing (newPlan n i s) (takeCopy img s), nextPlan := after 65535 n } }
  s'.updIncident i.number fun i => { i with lastPlan := some n }

/-- An incident that admits PLAN and EXECUTE: not CLOSED, with status NONE or PARTIAL (R136, R154). -/
def plannable (i : Incident) : Bool := i.state ≠ .closed && (i.isoStatus = .none || i.isoStatus = .partially)

/-- PLAN (R136). -/
def servePlan (n : Nat) : State → Served :=
  needImage fun img s =>
    match s.incident? n with
    | none => refuse .notFound s
    | some i =>
      if !plannable i then refuse .state s
      else
        match s.planner.buffer with
        | .computing _ _ => refuse .busy s
        | .held _ => refuse .held s
        | .empty => (acceptPlan img i s, .accepted (.planned s.planner.nextPlan))

def execPlan (tag : Nat) (body : Body Nat) (s : State) : Host.Outcome State Fault Refusal :=
  .next (takeRequest 0x60 tag body servePlan s)

/-- The most entries of one PLAN_READ (R147). -/
def planWindow : Nat := 48

/-- The entries of a section from an offset, up to the clamped count (R147). -/
def windowOf {α : Type} (offset count : Nat) (l : List α) : List α := (l.drop offset).take (min count planWindow)

def planEntries (x : PlanSection) (offset count : Nat) (p : Plan) : PlanEntries :=
  match x with
  | .zone => .zone (windowOf offset count p.zone)
  | .close => .close (windowOf offset count p.close)
  | .lost => .lost (windowOf offset count p.lost)

/-- The plan buffer emptied (R134). -/
def emptyBuffer (s : State) : State := { s with planner := { s.planner with buffer := .empty } }

/-- PLAN_READ (R147). -/
def servePlanRead (a : PlanReadArgs) : State → Served :=
  needImage fun _ s =>
    match PlanSection.ofCode a.part with
    | none => refuse .range s
    | some x =>
      match s.planner.buffer with
      | .held p =>
        (if a.release then emptyBuffer s else s, .done (.plan p s.net.basis (planEntries x a.offset a.count p)))
      | .empty | .computing _ _ => refuse .state s

def execPlanRead (tag : Nat) (body : Body PlanReadArgs) (s : State) : Host.Outcome State Fault Refusal :=
  .next (takeRequest 0x61 tag body servePlanRead s)

/-- PLAN_CANCEL (R148). -/
def servePlanCancel (n : Nat) : State → Served :=
  needImage fun _ s =>
    match s.planner.buffer with
    | .empty => refuse .state s
    | .computing p _ =>
      if p.number = n then (activateTop .plain (emptyBuffer s), .done .nothing) else refuse .notFound s
    | .held p => if p.number = n then (emptyBuffer s, .done .nothing) else refuse .notFound s

def execPlanCancel (tag : Nat) (body : Body Nat) (s : State) : Host.Outcome State Fault Refusal :=
  .next (takeRequest 0x62 tag body servePlanCancel s)

end Sys2Proof.Machine
end

