-- ==== Sys2Proof/Machine/Isolation.lean ====
section
/-! DEFINITION. The isolation requests: EXECUTE, RESTORE, ISOLATION_READ (R154 to R157, R162, R166). -/

namespace Sys2Proof.Machine

/-! ### EXECUTE -/

/-- A new entry of a close list (R155). -/
def newEntry (now : Nat) (x : Nat × OpClass) : Entry :=
  { element := x.1, cls := x.2, step := match x.2 with
      | .remote => .toClose
      | .manual => .crewClose
    order := 0, last := none, stepTime := now }

/-- The record of a first EXECUTE (R155 steps 1 and 2). -/
def newRecord (now : Nat) (p : Plan) (override : Bool) : IsoRecord :=
  { incident := p.incident, override := override, executions := 1, firstPlan := p.number, lastPlan := p.number
    createdAt := now, zone := p.zone, entries := p.close.map (newEntry now) }

/-- An entry of a merged record: dropped, retried, or kept (R157 steps 2 and 3). A retried entry takes the class that the new
plan's close list gives (DESIGN CHOICE, log 36). -/
def mergeEntry (now : Nat) (close : List (Nat × OpClass)) (e : Entry) : Option Entry :=
  match close.find? fun x => x.1 = e.element with
  | some x => some (newEntry now x)
  | none => if e.step = .closeFailed then none else some e

/-- A plan merged into a record (R157). -/
def mergeRecord (now : Nat) (p : Plan) (override : Bool) (r : IsoRecord) : IsoRecord :=
  { r with
    override := override
    executions := min (r.executions + 1) 65535
    lastPlan := p.number
    zone := r.zone ++ p.zone.filter fun n => !r.zone.contains n
    entries := r.entries.filterMap (mergeEntry now p.close)
      ++ (p.close.filter fun x => (r.entry? x.1).isNone).map (newEntry now) }

/-- An element of a close list is held in the record of another incident (R154). -/
def overlaps (p : Plan) (s : State) : Bool :=
  p.close.any fun x => ((s.recordHolding x.1).bind s.record?).any fun r => r.incident ≠ p.incident

/-- The record that an EXECUTE would leave, with its index from 0, by the incident's status; or the refusal (R154). -/
def executeRecord (p : Plan) (override : Bool) (i : Incident) (s : State) : Except Code (Nat × IsoRecord) :=
  if i.isoStatus = .none then
    match s.register.records.findIdx? (·.isNone) with
    | some k => .ok (k, newRecord s.now p override)
    | none => .error .noSlot
  else
    match s.recordOf i.number with
    | none => .error .state
    | some k =>
      match s.record? k with
      | none => .error .state
      | some r =>
        let m := mergeRecord s.now p override r
        if Config.zoneLimit < m.zone.length ∨ Config.closeLimit < m.entries.length then .error .elementLimit
        else .ok (k, m)

/-- An entry that waits for its CLOSE order to be placed (R156). -/
def Entry.toPlace (e : Entry) : Bool := e.step = .toClose && e.order = 0

/-- The tests of R154 from the second on: the plan, the incident, the record's index and the record to be. -/
def executeTests (a : ExecuteArgs) (s : State) : Except Code (Plan × Nat × IsoRecord) :=
  match s.planner.buffer with
  | .empty | .computing _ _ => .error .state
  | .held p =>
    if p.number ≠ a.plan ∨ p.result ≠ some .ok then .error .state
    else if p.startBasis ≠ s.net.basis then .error .stalePlan
    else
      match s.incident? p.incident with
      | none => .error .state
      | some i =>
        if !plannable i then .error .state
        else
          match executeRecord p a.override i s with
          | .error c => .error c
          | .ok (k, r) =>
            if overlaps p s then .error .overlap
            else if p.guardedCount ≠ 0 ∧ a.override = false then .error .guarded
            else if Config.queueLimit < s.elements.queue.length + (r.entries.filter (·.toPlace)).length then .error .full
            else .ok (p, k, r)

/-- One closing order placed (R156). -/
def placeClosing (h : Hooks) (k : Nat) (element : Nat) (s : State) : State :=
  match s.record? k with
  | none => s
  | some r =>
    if (r.entry? element).any (·.toPlace) then
      match placeTest element .close s with
      | some c =>
        s.updRecord k fun r => r.updEntry element fun e =>
          { e.toStep s.now .closeFailed with last := some (.placement c) }
      | none =>
        place h (fun n s => s.updRecord k fun r => r.updEntry element fun e => { e with order := n })
          element .close (.isolation r.incident) r.override s
    else s

/-- The closing orders of a record placed, in list order (R156). -/
def placeClosings (h : Hooks) (k : Nat) (s : State) : State :=
  match s.record? k with
  | none => s
  | some r => (r.entries.map (·.element)).foldl (fun s e => placeClosing h k e s) s

/-- A record put in its place of the register. -/
def setRecord (k : Nat) (r : IsoRecord) (s : State) : State :=
  { s with register := { records := s.register.records.set k (some r) } }

/-- An EXECUTE that has passed its tests carried out (R155 steps 1 to 7, R157). Its ISOLATION notice takes up what the passes
inside it have reported of its incident (R106, log 9). -/
def runExecute (k : Nat) (r : IsoRecord) (s : State) : State :=
  let s := emptyBuffer (setRecord k r s)
  let s := s.updIncident r.incident fun i => { i with isoStatus := .executing, isoIndex := some (k + 1) }
  let s := placeClosings (hooksTop .plain) k s
  let s := passRecord .plain ⟨dispatchInPass, id, activateInPass⟩ k s
  reportStatus r.incident s

/-- EXECUTE (R154, R155, R157). -/
def serveExecute (a : ExecuteArgs) : State → Served :=
  needImage fun _ s =>
    match executeTests a s with
    | .error c => refuse c s
    | .ok (_, k, r) =>
      (runExecute k r s, .accepted (.executed (k + 1) (r.entries.filter (·.toPlace)).length))

def execExecute (tag : Nat) (body : Body ExecuteArgs) (s : State) : Host.Outcome State Fault Refusal :=
  .next (takeRequest 0x63 tag body serveExecute s)

/-! ### RESTORE -/

/-- An entry at a RESTORE: held or with a crew where its element is CLOSED, else REOPENED (R162 step 2). -/
def restoreEntry (s : State) (e : Entry) : Entry :=
  if (s.element? e.element).any fun r => r.state = .closed then
    if (s.elemTopo? e.element).any fun t => t.cls = .manual then e.toStep s.now .crewOpen
    else e.toStep s.now .heldForClearance
  else e.toStep s.now .reopened

/-- A RESTORE that has passed its tests carried out (R162). Its ISOLATION notice takes up what the pass inside it has reported
of its incident (R106, log 9). -/
def runRestore (k incident : Nat) (s : State) : State :=
  let s := s.updIncident incident fun i => { i with isoStatus := .restoring }
  let s := s.updRecord k fun r => { r with entries := r.entries.map (restoreEntry s) }
  let s := passRecord .plain ⟨dispatchInPass, id, activateInPass⟩ k s
  reportStatus incident s

/-- A status that admits RESTORE (R162). -/
def restorable (x : IsoStatus) : Bool := x = .isolated || x = .proven || x = .partially

/-- RESTORE (R162). -/
def serveRestore (n : Nat) : State → Served :=
  withIncident n fun i s =>
    if restorable i.isoStatus then
      match s.recordOf n with
      | some k => (runRestore k n s, .accepted (.restoring (k + 1)))
      | none => refuse .state s
    else refuse .state s

def execRestore (tag : Nat) (body : Body Nat) (s : State) : Host.Outcome State Fault Refusal :=
  .next (takeRequest 0x64 tag body serveRestore s)

/-! ### ISOLATION_READ -/

/-- The nine steps in the order of R153. -/
def allSteps : List EntryStep :=
  [.toClose, .crewClose, .closed, .closeFailed, .heldForClearance, .opening, .crewOpen, .reopened, .openFailed]

/-- One line of the summary (R166). -/
def isoLine (s : State) (r : IsoRecord) : IsoLine :=
  { incident := r.incident, status := ((s.incident? r.incident).map (·.isoStatus)).getD .none
    entries := r.entries.length, zone := r.zone.length
    steps := allSteps.map fun x => (r.entries.filter fun e => e.step = x).length }

/-- One record whole, with its elements' and zone segments' states at the read (R166). -/
def isoWhole (index : Nat) (s : State) (r : IsoRecord) : Result :=
  .isoRecord index r (r.entries.map fun e => ((s.element? e.element).map (·.state)).getD .unknown)
    (r.zone.map fun n => (s.seg? n).map (·.state))

/-- ISOLATION_READ (R166). -/
def serveIsolationRead (n : Nat) : State → Served :=
  needImage fun _ s =>
    if Config.recordLimit < n then refuse .range s
    else if n = 0 then (s, .done (.isoSummary (s.register.records.map (·.map (isoLine s)))))
    else
      match s.record? (n - 1) with
      | some r => (s, .done (isoWhole n s r))
      | none => refuse .notFound s

def execIsolationRead (tag : Nat) (body : Body Nat) (s : State) : Host.Outcome State Fault Refusal :=
  .next (takeRequest 0x65 tag body serveIsolationRead s)

end Sys2Proof.Machine
end

