-- ==== Sys2Proof/Machine/Field.lean ====
section
/-! DEFINITION. The Field Port: REPORT, ORDER_ACK, discarded frames, the gap timeout, ORDER frames sent (R28 to R44, R49,
R64, R126). -/

namespace Sys2Proof.Machine

/-! ### REPORT -/

/-- No number twice. -/
def distinct (l : List Nat) : Bool := l.Nodup

/-- A REPORT body that is not malformed (R30). -/
def wellFormedReport (r : ReportArgs) : Bool :=
  r.readings.length ≤ 8 && r.positions.length ≤ 8 && (r.readings.all fun x => x.slot ≤ 7 && x.count ≤ 4095)
    && (r.positions.all fun x => x.slot ≤ 7 && (PositionCode.ofCode x.code).isSome)
    && distinct (r.readings.map (·.slot)) && distinct (r.positions.map (·.slot))

/-- The positions that a report delivers: the elements of the station at its slots, in list order (R31 step 2). -/
def deliveredPositions (img : Image) (station : Nat) (l : List Position) : List (Nat × PositionCode) :=
  l.filterMap fun x =>
    (img.elements.find? fun e => e.cls = .remote && e.station = station && e.slot = x.slot).bind fun e =>
      (PositionCode.ofCode x.code).map fun c => (e.number, c)

/-- The readings that a report delivers: the points of the station at its slots, in list order (R31 step 3). -/
def deliveredReadings (img : Image) (station : Nat) (l : List Reading) : List (Nat × Reading) :=
  l.filterMap fun x =>
    (img.points.find? fun p => p.station = station && p.slot = x.slot).map fun p => (p.number, x)

/-- One reading evaluated and handed on (R49, R64). -/
def readingEvent (h : Hooks) (point : Nat) (x : Reading) (s : State) : State :=
  match s.point? point with
  | none => s
  | some old =>
    let segment := s.segmentOfPoint point
    let new := evaluate s.now x.count x.faulty ((s.seg? segment).map (·.state)) old
    let s := setPoint new s
    if (faultOf x.count x.faulty).isSome then s
    else
      sampleIncidents point segment old.band new.band (!old.falling && new.falling) new.expected
        (sampleEvent h.pass point segment s)

/-- The state an accepted report takes a station to (R34, R36, R37). -/
def reportedState (mode : SilenceMode) (x : StationState) : StationState :=
  match x, mode with
  | .waiting, _ => .reporting
  | .reporting, _ => .reporting
  | .silent, .reportOnly => .reporting
  | .silent, .latched => .heldSilent
  | .heldSilent, _ => .heldSilent

/-- The station record after an accepted report: LOCAL flag, silence timer, report times, state (R33, R34, R36, R37, R39).
The report is applied when it leaves the station REPORTING. -/
def acceptReport (now : Nat) (x : StationTopo) (localFlag : Bool) (t : Station) : Station :=
  let y := reportedState x.mode t.state
  { t with
    localFlag := localFlag
    silenceAt := some (now + x.limit)
    lastAccepted := some now
    state := y
    lastApplied := if y = .reporting then some now else t.lastApplied }

/-- Whether a change of a station record calls for a STATION notice (R40). -/
def stationChanged (old new : Station) : Bool := old.state ≠ new.state || old.localFlag ≠ new.localFlag

/-- Whether a report makes a dispatch pass: it took the station into REPORTING, or cleared its LOCAL flag (R31 step 4). -/
def reportDispatches (old new : Station) : Bool :=
  (old.state ≠ .reporting && new.state = .reporting) || (old.localFlag && !new.localFlag)

/-- What an applied report hands on before its dispatch pass (R31 steps 2 and 3). -/
def applyReport (img : Image) (station : Nat) (r : ReportArgs) (s : State) : State :=
  let h := hooksTop .plain
  let s := (deliveredPositions img station r.positions).foldl (fun s x => positionEvent h x.1 x.2 s) s
  (deliveredReadings img station r.readings).foldl (fun s x => readingEvent h x.1 x.2 s) s

/-- An accepted report carried out (R31, R33 to R37, R39, R40). -/
def reportEvent (img : Image) (x : StationTopo) (t : Station) (r : ReportArgs) (s : State) : State :=
  let new := acceptReport s.now x r.localFlag t
  let s := bumpBasisIf (t.state ≠ .reporting && new.state = .reporting) (setStation new s)
  let s := syncUnavailable t.address s
  let s := if new.state = .reporting then applyReport img t.address r s else s
  let s := if reportDispatches t new then dispatchTop .plain s else s
  if stationChanged t new then stationNotice t.state new .report s else s

/-- A REPORT frame with a good check: discarded without effect, or an accepted report (R29, R30). -/
def takeReport (address : Nat) (body : Body ReportArgs) (s : State) : State :=
  match s.net.active with
  | none => s
  | some img =>
    match img.station? address, s.station? address, body with
    | some x, some t, .fits r => if wellFormedReport r then ownEvent (reportEvent img x t r) s else s
    | _, _, _ => s

/-- The REPORT frame: the receiver is hunting after it (R28), and its tag is not examined (R29). -/
def execReport (_tag address : Nat) (body : Body ReportArgs) (s : State) : Host.Outcome State Fault Refusal :=
  .next (if s.running then takeReport address body (huntField s) else s)

/-! ### ORDER_ACK -/

/-- A verdict acting on the order in flight whose tag it bears (R126). -/
def verdictEvent (v : Verdict) (o : Order) (s : State) : State :=
  if o.state = .sent then
    match v with
    | .accepted => acknowledge o s
    | .declined r => ownEvent (endOrder (hooksTop .plain) o (.failed (.declined r))) s
  else s

/-- An ORDER_ACK frame with a good check: discarded without effect, or delivered to Element Control (R29, R43). -/
def takeAck (tag address : Nat) (body : Body AckArgs) (s : State) : State :=
  match body with
  | .misfit _ => s
  | .fits a =>
    match s.stationTopo? address, Verdict.ofCodes a.verdict a.reason, s.flightOf? address with
    | some _, some v, some o => if tag ≠ 0 ∧ o.tag = tag then verdictEvent v o s else s
    | _, _, _ => s

def execOrderAck (tag address : Nat) (body : Body AckArgs) (s : State) : Host.Outcome State Fault Refusal :=
  .next (if s.running then takeAck tag address body (huntField s) else s)

/-! ### The line -/

/-- A frame that the receiver finds among the bytes given to it, taken as the frame's own command takes it (R28, R29). -/
def takeFieldFrame (s : State) (f : Frame) : State :=
  match decodeField f with
  | some (.report _ a b) => takeReport a b s
  | some (.orderAck t a b) => takeAck t a b s
  | _ => s

/-- Bytes received on the Field Port: frames that the receiver finds in them are taken, the rest is hunted through or held
as the frame begun (R28). A command that carries no byte leaves the time of the last byte (DESIGN CHOICE, log 2). -/
def fieldBytes (bytes : List Byte) (s : State) : State :=
  let found := receive (s.field.rx ++ bytes)
  let s := found.1.foldl takeFieldFrame s
  { s with field := { s.field with rx := found.2, rxAt := if bytes.isEmpty then s.field.rxAt else s.now } }

def execFieldFrameDiscarded (bytes : List Byte) (s : State) : Host.Outcome State Fault Refusal :=
  .next (if s.running then fieldBytes bytes s else s)

/-- One second without a byte of a begun frame: the partial frame is discarded (R28). -/
def execFieldFrameGapTimeout (s : State) : Host.Outcome State Fault Refusal :=
  .next (if s.running && partialDue s.now s.field.rx s.field.rxAt then huntField s else s)

/-- The oldest ORDER frame handed over leaves on the field line (R42). -/
def sendFrame (s : State) : State :=
  match s.field.out with
  | [] => s
  | f :: rest => { s with field := { s.field with out := rest, line := Wire.orderFrame f } }

def execFieldOrderFrameSent (s : State) : Host.Outcome State Fault Refusal :=
  .next (if s.running then sendFrame s else s)

end Sys2Proof.Machine
end

