-- ==== Sys2Proof/Machine/Lines.lean ====
section
/-! DEFINITION. The Control Port line: unknown kinds, discarded frames, the gap timeout, the transmitter (R167 to R171). -/

namespace Sys2Proof.Machine

/-! ### Receiving -/

/-- A frame whose kind is not a request kind (R168): the tests before the kind, then REFUSED with UNKNOWN_KIND. -/
def takeUnknown (kind tag : Nat) (s : State) : State :=
  if !s.running then s
  else if s.control.restarting then huntControl s
  else if Config.pendingLimit ≤ s.control.listed.length then
    if s.control.busyWaiting.length < Config.busyLimit then
      pushReply { tag := tag, kind := kind, reply := .refused (.plain .busy), listed := false } (huntControl s)
    else huntControl s
  else
    pushReply { tag := tag, kind := kind, reply := .refused (.plain .unknownKind), listed := true } (huntControl s)

def execUnknownKind (kind tag : Nat) (s : State) : Host.Outcome State Fault Refusal := .next (takeUnknown kind tag s)

/-- A frame that the receiver finds among the bytes given to it, taken as the frame's own command takes it (R167, R168). -/
def takeControlFrame (s : State) (f : Frame) : State :=
  match decodeControl f with
  | .status t b => takeRequest 0x01 t b serveStatus s
  | .subscribe t b => takeRequest 0x02 t b serveSubscribe s
  | .setGlobals t b => takeRequest 0x03 t b serveSetGlobals s
  | .restart t b => takeRequest 0x04 t b serveRestart s
  | .save t b => takeRequest 0x05 t b serveSave s
  | .topoBegin t b => takeRequest 0x10 t b serveTopoBegin s
  | .topoPart t b => takeRequest 0x11 t b serveTopoPart s
  | .topoCommit t b => takeRequest 0x12 t b serveTopoCommit s
  | .topoAbandon t b => takeRequest 0x13 t b serveTopoAbandon s
  | .pointTune t b => takeRequest 0x20 t b servePointTune s
  | .pointLimits t b => takeRequest 0x21 t b servePointLimits s
  | .pointRead t b => takeRequest 0x22 t b servePointRead s
  | .stationClear t b => takeRequest 0x23 t b serveStationClear s
  | .stationRead t b => takeRequest 0x24 t b serveStationRead s
  | .order t b => takeRequest 0x30 t b serveOrder s
  | .orderCancel t b => takeRequest 0x31 t b serveOrderCancel s
  | .crewReport t b => takeRequest 0x32 t b serveCrewReport s
  | .elementClearFault t b => takeRequest 0x33 t b serveElementClearFault s
  | .orderRead t b => takeRequest 0x34 t b serveOrderRead s
  | .elementRead t b => takeRequest 0x35 t b serveElementRead s
  | .outageClear t b => takeRequest 0x40 t b serveOutageClear s
  | .segmentRead t b => takeRequest 0x41 t b serveSegmentRead s
  | .outageRead t b => takeRequest 0x42 t b serveOutageRead s
  | .call t b => takeRequest 0x50 t b serveCall s
  | .incidentSetDispatch t i g => takeRequest 0x51 t (setBody i g 1) (fun a => withIncident a.incident setDispatch) s
  | .incidentSetAttend t i g => takeRequest 0x51 t (setBody i g 2) (fun a => withIncident a.incident setAttend) s
  | .incidentSetSafe t i g => takeRequest 0x51 t (setBody i g 3) (fun a => withIncident a.incident setSafe) s
  | .incidentSetClose t i g => takeRequest 0x51 t (setBody i g 4) (fun a => withIncident a.incident setClose) s
  | .incidentSetGrade t b => takeRequest 0x51 t b serveGrade s
  | .incidentRead t b => takeRequest 0x52 t b serveIncidentRead s
  | .plan t b => takeRequest 0x60 t b servePlan s
  | .planRead t b => takeRequest 0x61 t b servePlanRead s
  | .planCancel t b => takeRequest 0x62 t b servePlanCancel s
  | .execute t b => takeRequest 0x63 t b serveExecute s
  | .restore t b => takeRequest 0x64 t b serveRestore s
  | .isolationRead t b => takeRequest 0x65 t b serveIsolationRead s
  | .unknownKind k t => takeUnknown k t s
  | _ => s

/-- Bytes received on the Control Port: frames that the receiver finds in them are taken, the rest is hunted through or held
as the frame begun (R167). A command that carries no byte leaves the time of the last byte (DESIGN CHOICE, log 2). -/
def controlBytes (bytes : List Byte) (s : State) : State :=
  let found := receive (s.control.rx ++ bytes)
  let s := found.1.foldl takeControlFrame s
  { s with control := { s.control with rx := found.2, rxAt := if bytes.isEmpty then s.control.rxAt else s.now } }

def execControlFrameDiscarded (bytes : List Byte) (s : State) : Host.Outcome State Fault Refusal :=
  .next (if s.running then controlBytes bytes s else s)

/-- One second without a byte of a begun frame: the partial frame is discarded (R167). -/
def execControlFrameGapTimeout (s : State) : Host.Outcome State Fault Refusal :=
  .next (if s.running && partialDue s.now s.control.rx s.control.rxAt then huntControl s else s)

/-! ### Transmitting -/

/-- The reply to a RESTART request that has been taken (R171). -/
def Waiting.restarts (w : Waiting) : Bool := w.listed && w.kind = 0x04 && w.reply = .done .nothing

/-- The last byte of the reply on the line leaves it: its entry leaves the reply order, and the transmitter takes the next
frame; after a RESTART's reply the part restarts (R169, R171, R178). -/
def replySent (s : State) : State :=
  match s.control.line, s.control.replies with
  | .reply _, w :: rest =>
    if w.restarts then restart .restartRequest s
    else takeNext { s with control := { s.control with replies := rest } }
  | _, _ => s

def execReplyTransmitted (s : State) : Host.Outcome State Fault Refusal := .next (if s.running then replySent s else s)

/-- The last byte of the notice on the line leaves it, or the line is free: the transmitter takes the next frame, the oldest
notice when no reply waits (R171, log 16). -/
def noticeSent (s : State) : State :=
  match s.control.line with
  | .reply _ => s
  | .free | .notice _ => takeNext s

def execNoticeTransmitted (s : State) : Host.Outcome State Fault Refusal := .next (if s.running then noticeSent s else s)

end Sys2Proof.Machine
end

