-- ==== Sys2Proof/Machine/Power.lean ====
section
/-! DEFINITION. The board's events: POWER_ON, RESET_ASSERT, RESET_RELEASE, BOARD_SUPPLY_FAILURE (R177, R178). -/

namespace Sys2Proof.Machine

/-- The supply is up: the part restarts, or stays held until the release of an asserted RESET input (R178). -/
def powerUp (s : State) : State := if s.resetPin then hold .powerOn s else restart .powerOn s

def execPowerOn (s : State) : Host.Outcome State Fault Refusal := .next (powerUp s)

/-- The RESET input asserted: a running part is held (R178). -/
def assertReset (s : State) : State :=
  let s := { s with resetPin := true }
  if s.running then hold .resetLine s else s

def execResetAssert (s : State) : Host.Outcome State Fault Refusal := .next (assertReset s)

/-- The RESET input released: a held part restarts with the cause its hold recorded (R178). -/
def releaseReset (s : State) : State :=
  let s := { s with resetPin := false }
  match s.power with
  | .held c => restart c s
  | .off | .running => s

def execResetRelease (s : State) : Host.Outcome State Fault Refusal := .next (releaseReset s)

/-- The board supply fails: the part stops, and a SAVE in progress ends where it stands (R177). -/
def supplyFails (s : State) : State := { breakSave s with power := .off }

def execBoardSupplyFailure (s : State) : Host.Outcome State Fault Refusal := .next (supplyFails s)

end Sys2Proof.Machine
end

