-- ==== Sys2Proof/Machine/Timers.lean ====
section
/-! DEFINITION. The part's own events: timer expiries and completions (R18, R35, R75, R79, R97, R124, R125, R128, R144,
R177). An expiry of a timer that does not run, or whose time has not come, changes nothing (log 4). -/

namespace Sys2Proof.Machine

/-- A running timer whose expiry has come. -/
def due (now : Nat) (t : Option Nat) : Bool := t.any fun x => x ≤ now

/-- The gap timer of a LOADING image (R18). -/
def gapExpiry (s : State) : State :=
  match s.net.standby with
  | .loading l =>
    if l.gapAt ≤ s.now then ownEvent (passNotice (.loadTimeout l.image l.next)) (s.setStandby .empty) else s
  | .empty | .complete _ | .pending _ => s

def execGapTimerExpiry (s : State) : Host.Outcome State Fault Refusal := .next (if s.running then gapExpiry s else s)

/-- A station's silence timer (R35, R37). -/
def silenceExpiry (address : Nat) (s : State) : State :=
  if (s.station? address).any fun t => due s.now t.silenceAt then ownEvent (silenceEvent address) s else s

def execSilenceExpiry (station : Nat) (s : State) : Host.Outcome State Fault Refusal :=
  .next (if s.running then silenceExpiry station s else s)

/-- A segment's vent timer (R75). -/
def ventTimer (segment : Nat) (s : State) : State :=
  if (s.seg? segment).any fun x => due s.now x.ventAt then ventExpiry (recordPassTop .plain) segment s else s

def execVentTimerExpiry (segment : Nat) (s : State) : Host.Outcome State Fault Refusal :=
  .next (if s.running then ventTimer segment s else s)

/-- A segment's recharge timer (R75). -/
def rechargeTimer (segment : Nat) (s : State) : State :=
  if (s.seg? segment).any fun x => due s.now x.rechargeAt then rechargeExpiry (recordPassTop .plain) segment s else s

def execRechargeTimerExpiry (segment : Nat) (s : State) : Host.Outcome State Fault Refusal :=
  .next (if s.running then rechargeTimer segment s else s)

/-- A whole minute of an open outage entry (R79). -/
def customerMinute (segment : Nat) (s : State) : State :=
  if (s.outage? segment).any fun o => o.minuteAt ≤ s.now then s.updOutage segment outageMinute else s

def execCustomerMinute (segment : Nat) (s : State) : Host.Outcome State Fault Refusal :=
  .next (if s.running then customerMinute segment s else s)

/-- An incident whose deadline timer runs and has come (R97). -/
def deadlineDue (now : Nat) (i : Incident) : Bool := due now i.deadline && !i.overdue && i.state.awaits

/-- An incident's deadline timer (R97). -/
def deadlineExpiry (n : Nat) (s : State) : State :=
  match s.incident? n with
  | none => s
  | some i => if deadlineDue s.now i then ownEvent (setIncident i { i with overdue := true } false none none) s else s

def execDeadlineExpiry (incident : Nat) (s : State) : Host.Outcome State Fault Refusal :=
  .next (if s.running then deadlineExpiry incident s else s)

/-- A QUEUED order's station-unavailable timer (R124). -/
def unavailableExpiry (n : Nat) (s : State) : State :=
  match s.order? n with
  | none => s
  | some o =>
    if o.state = .queued ∧ due s.now o.unavailableAt then
      ownEvent (endOrder (hooksTop .plain) o (.failed .stationUnavailable)) s
    else s

def execStationUnavailableExpiry (order : Nat) (s : State) : Host.Outcome State Fault Refusal :=
  .next (if s.running then unavailableExpiry order s else s)

/-- The acknowledgement timer of a SENT order: a resend judged by its interlock, or NO_ACK (R123, R125). -/
def ackExpired (o : Order) (s : State) : State :=
  if o.sendsLeft = 0 then ownEvent (endOrder (hooksTop .plain) o (.failed .noAck)) s
  else
    match interlock s o with
    | some n => ownEvent (endOrder (hooksTop .plain) o (.failed (.interlock n))) s
    | none => resendOrder o s

def ackExpiry (n : Nat) (s : State) : State :=
  match s.order? n with
  | none => s
  | some o => if o.state = .sent ∧ due s.now o.ackAt then ackExpired o s else s

def execAcknowledgementExpiry (order : Nat) (s : State) : Host.Outcome State Fault Refusal :=
  .next (if s.running then ackExpiry order s else s)

/-- A fault mark set by a stroke expiry, if it was clear (R113, R128). -/
def strokeMark (element : Nat) (s : State) : State :=
  match s.element? element with
  | none => s
  | some old =>
    if old.faultMark then s
    else
      let x := { old with faultMark := true }
      let s := bumpBasis (s.updElement element fun _ => x)
      passNotices (elementNotice old x .stroke none s.net.basis).toList s

/-- The stroke timer of a MOVING order (R128). -/
def strokeExpiry (n : Nat) (s : State) : State :=
  match s.order? n with
  | none => s
  | some o =>
    if o.state = .moving ∧ due s.now o.strokeAt then
      ownEvent (fun s => endOrder (hooksTop .plain) o (.failed .strokeTimeout) (strokeMark o.element s)) s
    else s

def execStrokeExpiry (order : Nat) (s : State) : Host.Outcome State Fault Refusal :=
  .next (if s.running then strokeExpiry order s else s)

def execPlanCompletion (s : State) : Host.Outcome State Fault Refusal := .next (if s.running then completePlan s else s)

def execSaveCompletion (good : Bool) (s : State) : Host.Outcome State Fault Refusal :=
  .next (if s.running then completeSave good s else s)

/-! ### What is due (log 6, log 7, log 11) -/

/-- The gap timer (R18). -/
def gapDue (s : State) : List Instr :=
  match s.net.standby with
  | .loading l => if l.gapAt ≤ s.now then [.gapTimerExpiry] else []
  | .empty | .complete _ | .pending _ => []

/-- The stations' silence timers (R33). -/
def silenceDue (s : State) : List Instr :=
  (s.field.stations.filter fun t => due s.now t.silenceAt).map fun t => .silenceExpiry t.address

/-- The segments' vent timers, recharge timers and outage minutes (R75, R79). -/
def supplyDue (s : State) : List Instr :=
  List.flatten
    [ (s.supply.segs.filter fun x => due s.now x.ventAt).map fun x => .ventTimerExpiry x.segment,
      (s.supply.segs.filter fun x => due s.now x.rechargeAt).map fun x => .rechargeTimerExpiry x.segment,
      (s.supply.outages.filter fun o => o.minuteAt ≤ s.now).map fun o => .customerMinute o.segment ]

/-- The incidents' deadline timers (R97). -/
def deadlinesDue (s : State) : List Instr :=
  (s.incidentList.filter (deadlineDue s.now)).map fun i => .deadlineExpiry i.number

/-- The expiry due for an order, by its state (R116). -/
def orderDue (now : Nat) (o : Order) : Option Instr :=
  match o.state with
  | .queued => if due now o.unavailableAt then some (.stationUnavailableExpiry o.number) else none
  | .sent => if due now o.ackAt then some (.acknowledgementExpiry o.number) else none
  | .moving => if due now o.strokeAt then some (.strokeExpiry o.number) else none

/-- A plan computation at its latest completion (R137). -/
def planDue (s : State) : List Instr :=
  match s.planner.buffer with
  | .computing p _ => if p.startTime + Config.planSpan ≤ s.now then [.planCompletion] else []
  | .empty | .held _ => []

/-- A SAVE at its latest completion; whether its bytes read back equal is a free value (R177). -/
def saveDue (s : State) : List Instr :=
  match s.store.save with
  | some c => if c.acceptedAt + Config.saveSpan ≤ s.now then [.saveCompletion (Config.readsBack s.drawn)] else []
  | none => []

/-- The gap timeouts of the two receivers (R28, R167). -/
def linesDue (s : State) : List Instr :=
  List.flatten
    [ if partialDue s.now s.control.rx s.control.rxAt then [.controlFrameGapTimeout] else [],
      if partialDue s.now s.field.rx s.field.rxAt then [.fieldFrameGapTimeout] else [] ]

/-- The events due at the present part time. -/
def dueEvents (s : State) : List Instr :=
  List.flatten
    [ gapDue s, silenceDue s, supplyDue s, deadlinesDue s, s.elements.queue.filterMap (orderDue s.now), planDue s,
      saveDue s, linesDue s ]

/-- The part time one second on; past FFFFFFFF hex a free value (R1, log 5). -/
def tick (s : State) : State :=
  if s.partTime = 0xFFFFFFFF#32 then draw { s with partTime := Config.partTimePastEnd s.drawn }
  else { s with partTime := s.partTime + 1 }

/-- What the part does by itself while no command waits: a second passes when nothing is due, and otherwise one of the due
events becomes the command in front (log 6, log 11). -/
def idleStep (s : State) : State :=
  if !s.running then s
  else
    match (dueEvents s)[Config.dueChoice s.drawn % (dueEvents s).length]? with
    | none => tick s
    | some c => draw { s with pending := [c] }

end Sys2Proof.Machine
end

