-- ==== Sys2Proof/Machine/Dispatch.lean ====
section
/-! DEFINITION. The dispatch of a command to its meaning: one arm per row of spec/opcode_table.json. -/

namespace Sys2Proof.Machine

def exec (i : Instr) (s : State) : Host.Outcome State Fault Refusal :=
  match i with
  | .status tag body => Sys2Proof.Machine.execStatus tag body s
  | .subscribe tag body => Sys2Proof.Machine.execSubscribe tag body s
  | .setGlobals tag body => Sys2Proof.Machine.execSetGlobals tag body s
  | .restart tag body => Sys2Proof.Machine.execRestart tag body s
  | .save tag body => Sys2Proof.Machine.execSave tag body s
  | .topoBegin tag body => Sys2Proof.Machine.execTopoBegin tag body s
  | .topoPart tag body => Sys2Proof.Machine.execTopoPart tag body s
  | .topoCommit tag body => Sys2Proof.Machine.execTopoCommit tag body s
  | .topoAbandon tag body => Sys2Proof.Machine.execTopoAbandon tag body s
  | .pointTune tag body => Sys2Proof.Machine.execPointTune tag body s
  | .pointLimits tag body => Sys2Proof.Machine.execPointLimits tag body s
  | .pointRead tag body => Sys2Proof.Machine.execPointRead tag body s
  | .stationClear tag body => Sys2Proof.Machine.execStationClear tag body s
  | .stationRead tag body => Sys2Proof.Machine.execStationRead tag body s
  | .order tag body => Sys2Proof.Machine.execOrder tag body s
  | .orderCancel tag body => Sys2Proof.Machine.execOrderCancel tag body s
  | .crewReport tag body => Sys2Proof.Machine.execCrewReport tag body s
  | .elementClearFault tag body => Sys2Proof.Machine.execElementClearFault tag body s
  | .orderRead tag body => Sys2Proof.Machine.execOrderRead tag body s
  | .elementRead tag body => Sys2Proof.Machine.execElementRead tag body s
  | .outageClear tag body => Sys2Proof.Machine.execOutageClear tag body s
  | .segmentRead tag body => Sys2Proof.Machine.execSegmentRead tag body s
  | .outageRead tag body => Sys2Proof.Machine.execOutageRead tag body s
  | .call tag body => Sys2Proof.Machine.execCall tag body s
  | .incidentSetDispatch tag incident grade => Sys2Proof.Machine.execIncidentSetDispatch tag incident grade s
  | .incidentSetAttend tag incident grade => Sys2Proof.Machine.execIncidentSetAttend tag incident grade s
  | .incidentSetSafe tag incident grade => Sys2Proof.Machine.execIncidentSetSafe tag incident grade s
  | .incidentSetClose tag incident grade => Sys2Proof.Machine.execIncidentSetClose tag incident grade s
  | .incidentSetGrade tag body => Sys2Proof.Machine.execIncidentSetGrade tag body s
  | .incidentRead tag body => Sys2Proof.Machine.execIncidentRead tag body s
  | .plan tag body => Sys2Proof.Machine.execPlan tag body s
  | .planRead tag body => Sys2Proof.Machine.execPlanRead tag body s
  | .planCancel tag body => Sys2Proof.Machine.execPlanCancel tag body s
  | .execute tag body => Sys2Proof.Machine.execExecute tag body s
  | .restore tag body => Sys2Proof.Machine.execRestore tag body s
  | .isolationRead tag body => Sys2Proof.Machine.execIsolationRead tag body s
  | .unknownKind kind tag => Sys2Proof.Machine.execUnknownKind kind tag s
  | .controlFrameDiscarded bytes => Sys2Proof.Machine.execControlFrameDiscarded bytes s
  | .controlFrameGapTimeout => Sys2Proof.Machine.execControlFrameGapTimeout s
  | .replyTransmitted => Sys2Proof.Machine.execReplyTransmitted s
  | .noticeTransmitted => Sys2Proof.Machine.execNoticeTransmitted s
  | .report tag address body => Sys2Proof.Machine.execReport tag address body s
  | .orderAck tag address body => Sys2Proof.Machine.execOrderAck tag address body s
  | .fieldFrameDiscarded bytes => Sys2Proof.Machine.execFieldFrameDiscarded bytes s
  | .fieldFrameGapTimeout => Sys2Proof.Machine.execFieldFrameGapTimeout s
  | .fieldOrderFrameSent => Sys2Proof.Machine.execFieldOrderFrameSent s
  | .powerOn => Sys2Proof.Machine.execPowerOn s
  | .resetAssert => Sys2Proof.Machine.execResetAssert s
  | .resetRelease => Sys2Proof.Machine.execResetRelease s
  | .gapTimerExpiry => Sys2Proof.Machine.execGapTimerExpiry s
  | .silenceExpiry station => Sys2Proof.Machine.execSilenceExpiry station s
  | .ventTimerExpiry segment => Sys2Proof.Machine.execVentTimerExpiry segment s
  | .rechargeTimerExpiry segment => Sys2Proof.Machine.execRechargeTimerExpiry segment s
  | .customerMinute segment => Sys2Proof.Machine.execCustomerMinute segment s
  | .deadlineExpiry incident => Sys2Proof.Machine.execDeadlineExpiry incident s
  | .stationUnavailableExpiry order => Sys2Proof.Machine.execStationUnavailableExpiry order s
  | .acknowledgementExpiry order => Sys2Proof.Machine.execAcknowledgementExpiry order s
  | .strokeExpiry order => Sys2Proof.Machine.execStrokeExpiry order s
  | .planCompletion => Sys2Proof.Machine.execPlanCompletion s
  | .saveCompletion good => Sys2Proof.Machine.execSaveCompletion good s
  | .boardSupplyFailure => Sys2Proof.Machine.execBoardSupplyFailure s

end Sys2Proof.Machine
end

