-- ==== Sys2Proof/Safety.lean ====
section
/-! DEFINITION. What claims say of the part: which commands are request frames, which requests reach their own rules, how
gas is carried, reachable states, and the invariants that the spec states of every moment. -/

namespace Sys2Proof

/-- The kind and the tag of a command that is a frame on the Control Port; none for any other command (11.2.1). -/
def Instr.request? : Instr → Option (Nat × Nat)
  | .status t _ => some (0x01, t)
  | .subscribe t _ => some (0x02, t)
  | .setGlobals t _ => some (0x03, t)
  | .restart t _ => some (0x04, t)
  | .save t _ => some (0x05, t)
  | .topoBegin t _ => some (0x10, t)
  | .topoPart t _ => some (0x11, t)
  | .topoCommit t _ => some (0x12, t)
  | .topoAbandon t _ => some (0x13, t)
  | .pointTune t _ => some (0x20, t)
  | .pointLimits t _ => some (0x21, t)
  | .pointRead t _ => some (0x22, t)
  | .stationClear t _ => some (0x23, t)
  | .stationRead t _ => some (0x24, t)
  | .order t _ => some (0x30, t)
  | .orderCancel t _ => some (0x31, t)
  | .crewReport t _ => some (0x32, t)
  | .elementClearFault t _ => some (0x33, t)
  | .orderRead t _ => some (0x34, t)
  | .elementRead t _ => some (0x35, t)
  | .outageClear t _ => some (0x40, t)
  | .segmentRead t _ => some (0x41, t)
  | .outageRead t _ => some (0x42, t)
  | .call t _ => some (0x50, t)
  | .incidentSetDispatch t _ _ | .incidentSetAttend t _ _ | .incidentSetSafe t _ _ | .incidentSetClose t _ _
  | .incidentSetGrade t _ => some (0x51, t)
  | .incidentRead t _ => some (0x52, t)
  | .plan t _ => some (0x60, t)
  | .planRead t _ => some (0x61, t)
  | .planCancel t _ => some (0x62, t)
  | .execute t _ => some (0x63, t)
  | .restore t _ => some (0x64, t)
  | .isolationRead t _ => some (0x65, t)
  | .unknownKind k t => some (k, t)
  | .controlFrameDiscarded _ | .controlFrameGapTimeout | .replyTransmitted | .noticeTransmitted | .report _ _ _
  | .orderAck _ _ _ | .fieldFrameDiscarded _ | .fieldFrameGapTimeout | .fieldOrderFrameSent | .powerOn | .resetAssert
  | .resetRelease | .gapTimerExpiry | .silenceExpiry _ | .ventTimerExpiry _ | .rechargeTimerExpiry _
  | .customerMinute _ | .deadlineExpiry _ | .stationUnavailableExpiry _ | .acknowledgementExpiry _ | .strokeExpiry _
  | .planCompletion | .saveCompletion _ | .boardSupplyFailure => none

/-- A body that fits its layout. -/
def Body.isFit {α : Type} : Body α → Bool
  | .fits _ => true
  | .misfit _ => false

/-- A request of a known kind whose body fits the layout of its kind (R168). -/
def Instr.fitsLayout : Instr → Bool
  | .status _ b | .restart _ b | .save _ b | .topoAbandon _ b | .orderRead _ b => b.isFit
  | .subscribe _ b => b.isFit
  | .setGlobals _ b => b.isFit
  | .topoBegin _ b => b.isFit
  | .topoPart _ b => b.isFit
  | .topoCommit _ b | .pointRead _ b | .stationClear _ b | .stationRead _ b | .orderCancel _ b
  | .elementClearFault _ b | .elementRead _ b | .outageClear _ b | .segmentRead _ b | .incidentRead _ b | .plan _ b
  | .planCancel _ b | .restore _ b | .isolationRead _ b => b.isFit
  | .pointTune _ b => b.isFit
  | .pointLimits _ b => b.isFit
  | .order _ b => b.isFit
  | .crewReport _ b => b.isFit
  | .outageRead _ b => b.isFit
  | .call _ b => b.isFit
  | .incidentSetDispatch _ _ _ | .incidentSetAttend _ _ _ | .incidentSetSafe _ _ _ | .incidentSetClose _ _ _ => true
  | .incidentSetGrade _ b => b.isFit
  | .planRead _ b => b.isFit
  | .execute _ b => b.isFit
  | .unknownKind _ _ | .controlFrameDiscarded _ | .controlFrameGapTimeout | .replyTransmitted | .noticeTransmitted
  | .report _ _ _ | .orderAck _ _ _ | .fieldFrameDiscarded _ | .fieldFrameGapTimeout | .fieldOrderFrameSent | .powerOn
  | .resetAssert | .resetRelease | .gapTimerExpiry | .silenceExpiry _ | .ventTimerExpiry _ | .rechargeTimerExpiry _
  | .customerMinute _ | .deadlineExpiry _ | .stationUnavailableExpiry _ | .acknowledgementExpiry _ | .strokeExpiry _
  | .planCompletion | .saveCompletion _ | .boardSupplyFailure => false

/-- The requests of R13's table, which need an active image. -/
def Instr.needsImage : Instr → Bool
  | .call _ _ | .incidentSetDispatch _ _ _ | .incidentSetAttend _ _ _ | .incidentSetSafe _ _ _
  | .incidentSetClose _ _ _ | .incidentSetGrade _ _ | .incidentRead _ _
  | .plan _ _ | .planRead _ _ | .planCancel _ _ | .execute _ _ | .restore _ _ | .isolationRead _ _
  | .order _ _ | .orderCancel _ _ | .crewReport _ _ | .elementClearFault _ _ | .orderRead _ _ | .elementRead _ _
  | .pointTune _ _ | .pointLimits _ _ | .pointRead _ _ | .stationClear _ _ | .stationRead _ _
  | .outageClear _ _ | .segmentRead _ _ | .outageRead _ _ | .save _ _ => true
  | .status _ _ | .subscribe _ _ | .setGlobals _ _ | .restart _ _ | .topoBegin _ _ | .topoPart _ _ | .topoCommit _ _
  | .topoAbandon _ _ | .unknownKind _ _ | .controlFrameDiscarded _ | .controlFrameGapTimeout | .replyTransmitted
  | .noticeTransmitted | .report _ _ _ | .orderAck _ _ _ | .fieldFrameDiscarded _ | .fieldFrameGapTimeout
  | .fieldOrderFrameSent | .powerOn | .resetAssert | .resetRelease | .gapTimerExpiry | .silenceExpiry _
  | .ventTimerExpiry _ | .rechargeTimerExpiry _ | .customerMinute _ | .deadlineExpiry _ | .stationUnavailableExpiry _
  | .acknowledgementExpiry _ | .strokeExpiry _ | .planCompletion | .saveCompletion _ | .boardSupplyFailure => false

/-- What a request whose body fits names by number in the active image (R14). -/
def Instr.named? : Instr → Option (Machine.RecordKind × Nat)
  | .call _ (.fits a) => some (.segment, a.segment)
  | .outageClear _ (.fits n) | .segmentRead _ (.fits n) => some (.segment, n)
  | .order _ (.fits a) => some (.element, a.element)
  | .crewReport _ (.fits a) => some (.element, a.element)
  | .elementClearFault _ (.fits n) | .elementRead _ (.fits n) => some (.element, n)
  | .pointTune _ (.fits a) => some (.point, a.point)
  | .pointLimits _ (.fits a) => some (.point, a.point)
  | .pointRead _ (.fits n) => some (.point, n)
  | .stationClear _ (.fits n) | .stationRead _ (.fits n) => some (.station, n)
  | _ => none

/-- The board's events, which alone act on a part that does not run (R178). -/
def Instr.isBoard : Instr → Bool
  | .powerOn | .resetAssert | .resetRelease | .boardSupplyFailure => true
  | _ => false

end Sys2Proof

namespace Sys2Proof.Machine

/-! ### Requests -/

/-- A request frame with this tag reaches its own rules, if its body fits: the part runs, no RESTART waits for its reply to
leave, the pending-request list has room, the tag is not 0 (R168, R169, R171, R178). -/
structure Admits (s : State) (tag : Nat) : Prop where
  running : s.power = .running
  restarting : s.control.restarting = false
  room : s.control.listed.length < 4
  tag : tag ≠ 0

/-- The part with the reply of a taken request: `t` is the part as the request leaves it (R168, R169). -/
def answered (kind tag : Nat) (reply : ReplyBody) (t : State) : State :=
  pushReply { tag := tag, kind := kind, reply := reply, listed := true } t

/-- An image holds a record of a kind with a number (R14). -/
def Image.holds (img : Image) : RecordKind → Nat → Prop
  | .segment, n => ∃ x ∈ img.segments, x.number = n
  | .element, n => ∃ x ∈ img.elements, x.number = n
  | .point, n => ∃ x ∈ img.points, x.number = n
  | .station, n => ∃ x ∈ img.stations, x.address = n

/-- Two notices of one incident or of one point, of which an event sends one (R65, R106). -/
def NoticeBody.sameSubject : NoticeBody → NoticeBody → Prop
  | .incident x, .incident y => x.incident = y.incident
  | .point x, .point y => x.point = y.point
  | _, _ => False

/-- No isolation record is in use and no image waits PENDING: the end of an order, a supply change or a clearance sets nothing
off in the Isolation Register or the Network Model. -/
structure Quiet (s : State) : Prop where
  records : ∀ r ∈ s.register.records, r = none
  standby : ∀ img, s.net.standby ≠ .pending img

/-! ### Gas -/

/-- A segment that gas reaches over an image, where `pass` says which elements are passable: the closure of R10. -/
inductive Carried (img : Image) (pass : Nat → Bool) : Nat → Prop where
  | source {e : Element} : e ∈ img.elements → e.kind = .source → pass e.number = true → img.holds .segment e.endB →
      Carried img pass e.endB
  | valveToB {e : Element} : e ∈ img.elements → e.kind = .valve → pass e.number = true → img.holds .segment e.endB →
      Carried img pass e.endA → Carried img pass e.endB
  | valveToA {e : Element} : e ∈ img.elements → e.kind = .valve → pass e.number = true → img.holds .segment e.endA →
      Carried img pass e.endB → Carried img pass e.endA
  | regulator {e : Element} : e ∈ img.elements → e.kind = .regulator → pass e.number = true →
      img.holds .segment e.endB → Carried img pass e.endA → Carried img pass e.endB

/-! ### Runs -/

/-- States that steps reach from `s`; commands may be put at the back of the queue at any time. -/
inductive Reaches (s : State) : State → Prop where
  | refl : Reaches s s
  | step {t u : State} : Reaches s t → Machine.step t = .next u → Reaches s u
  | arrive {t : State} (c : Instr) : Reaches s t → Reaches s { t with pending := t.pending ++ [c] }

/-- A step runs on: it answers a next state. -/
def RunsOn (s : State) : Prop := ∃ t, Machine.step s = .next t

/-! ### Invariants -/

/-- The bounds of the Control Port's queues and counters; while the line is free nothing waits, and a reply on the line is
the oldest of the reply order (R169, R171, R172); between commands no event has notices in hand (the model's own, log 9). -/
structure PortBounded (s : State) : Prop where
  listed : s.control.listed.length ≤ 4
  busy : s.control.busyWaiting.length ≤ 4
  notices : s.control.notices.length ≤ 64
  number : s.control.nextNotice < 65536
  gathered : s.control.gathered = none
  settled : s.control.line = .free → s.control.replies = [] ∧ s.control.notices = []
  reply : ∀ frame, s.control.line = .reply frame →
    ∃ w rest, s.control.replies = w :: rest ∧ frame = Wire.replyFrame w

/-- What the order queue holds at all times: at most 32 orders, no two for one element, none with another's number; at most
four in flight, no two of them at one station; the numbers and tags that run on stay in their ranges (R116, R120,
R123). -/
structure QueueSound (s : State) : Prop where
  length : s.elements.queue.length ≤ 32
  element : (s.elements.queue.map (·.element)).Nodup
  number : (s.elements.queue.map (·.number)).Nodup
  flight : s.flightCount ≤ 4
  station : ((s.elements.queue.filter (·.inFlight)).map s.stationOf).Nodup
  tags : ∀ o ∈ s.elements.queue, o.inFlight = true → 1 ≤ o.tag ∧ o.tag ≤ 255
  nextTag : 1 ≤ s.elements.nextTag ∧ s.elements.nextTag ≤ 255
  nextOrder : 1 ≤ s.elements.nextOrder ∧ s.elements.nextOrder ≤ 65535

/-- An image holds no segment number and no element number twice (R3, R8). -/
structure NumbersDistinct (img : Image) : Prop where
  segments : (img.segments.map (·.number)).Nodup
  elements : (img.elements.map (·.number)).Nodup

/-- The supply records are those of the active image's segments; a segment is LIVE or RECHARGING exactly when gas reaches it;
exactly the segments that are not LIVE have an outage entry, and no two entries are of one segment (R67, R68, R77). -/
structure SupplySound (s : State) : Prop where
  active : ∀ img, s.net.active = some img → NumbersDistinct img
  complete : ∀ img, s.net.standby = .complete img → NumbersDistinct img
  pending : ∀ img, s.net.standby = .pending img → NumbersDistinct img
  table : s.elements.table.map (·.number) = s.elementsOf.map (·.number)
  segments : s.supply.segs.map (·.segment) = ((s.net.active.map (·.segments)).getD []).map (·.number)
  reach : ∀ x ∈ s.supply.segs, (x.state = .live ∨ x.state = .recharging) ↔ x.segment ∈ s.reachable
  entry : ∀ x ∈ s.supply.segs, x.state ≠ .live ↔ x.segment ∈ s.supply.outages.map (·.segment)
  owner : ∀ o ∈ s.supply.outages, o.segment ∈ s.supply.segs.map (·.segment)
  entries : (s.supply.outages.map (·.segment)).Nodup

/-- The incident table has 64 slots, no two incidents of one number, and at most one non-CLOSED incident on a segment; a
deadline stands in OPEN and DISPATCHED alone, and no later than the base time plus the attendance limit of the grade (R87,
R88, R92, R96). -/
structure IncidentsSound (s : State) : Prop where
  slots : s.incidents.slots.length = 64
  numbers : (s.incidentList.map (·.number)).Nodup
  segments : ((s.incidentList.filter fun i => i.state ≠ .closed).map (·.segment)).Nodup
  deadline : ∀ i ∈ s.incidentList, ∀ d, i.deadline = some d →
    (i.state = .opened ∨ i.state = .dispatched) ∧ d ≤ i.baseTime + attendanceLimit i.grade

/-- Settings that SAVE stores keep the filter weight in 1..16 (R45, R175). -/
def StoreContents.weighted (c : StoreContents) : Prop := ∀ x ∈ c.settings, 1 ≤ x.weight ∧ x.weight ≤ 16

/-- The points of an image have PL at or below PH (R8). -/
def Image.ranged (img : Image) : Prop := ∀ t ∈ img.points, t.pl ≤ t.ph

/-- Every p and every f that a point record holds lies within the point's range; every filter weight is 1..16, in the records,
in the store and in a SAVE's copy; every image that waits to become active has its ranges in order (R45, R55). -/
structure PressuresSound (s : State) : Prop where
  range : ∀ r ∈ s.points, r.pl ≤ r.ph
  weight : ∀ r ∈ s.points, 1 ≤ r.weight ∧ r.weight ≤ 16
  p : ∀ r ∈ s.points, ∀ x, r.p = some x → (r.pl : Int) ≤ x ∧ x ≤ r.ph
  f : ∀ r ∈ s.points, ∀ x, r.f = some x → (r.pl : Int) ≤ x ∧ x ≤ r.ph
  complete : ∀ img, s.net.standby = .complete img → img.ranged
  pending : ∀ img, s.net.standby = .pending img → img.ranged
  stored : ∀ c k, s.store.stored = .written c k → c.weighted
  saving : ∀ c, s.store.save = some c → c.contents.weighted

end Sys2Proof.Machine
end

