-- ==== Sys2Proof/WellFormed.lean ====
section
/-! DEFINITION. Which commands the lines, pins and timers can deliver: every operand lies in its field (11.3), a body
that fits is read from the fields of its layout, and a misfit body does not fit it. -/

namespace Sys2Proof

/-- A number that fits a field of `w` bytes (R180). -/
def fieldOk (w n : Nat) : Bool := n < 256 ^ w

/-- A signed number that fits a field of `w` bytes, two's complement (R180). -/
def signedOk (w : Nat) (i : Int) : Bool := -(256 ^ w : Nat) ≤ 2 * i && 2 * i < (256 ^ w : Nat)

/-- A body whose fields are in range, or bytes of at most 1024 that do not fit the layout (R168, R180). -/
def Body.ok {α : Type} (args : α → Bool) (read : List Byte → Body α) : Body α → Bool
  | .fits a => args a
  | .misfit b => b.length ≤ Config.bodyLimit && (match read b with | .misfit _ => true | .fits _ => false)

def RawSegment.ok (r : RawSegment) : Bool := fieldOk 2 r.number && fieldOk 2 r.customers && fieldOk 1 r.guarded

def RawElement.ok (r : RawElement) : Bool :=
  fieldOk 2 r.number && fieldOk 1 r.kind && fieldOk 2 r.endA && fieldOk 2 r.endB && fieldOk 1 r.cls
    && fieldOk 1 r.station && fieldOk 1 r.slot && fieldOk 2 r.stroke && fieldOk 1 r.defective

def RawPoint.ok (r : RawPoint) : Bool :=
  fieldOk 2 r.number && fieldOk 2 r.segment && fieldOk 1 r.station && fieldOk 1 r.slot && fieldOk 4 r.pl
    && fieldOk 4 r.ph

def RawStation.ok (r : RawStation) : Bool := fieldOk 1 r.address && fieldOk 2 r.limit && fieldOk 1 r.mode

/-- The records of one PART fill at most one frame body (11.3.2), and a kind of the four is read as that kind. -/
def PartRecords.ok (r : PartRecords) : Bool :=
  r.bytes.length + 3 ≤ Config.bodyLimit &&
  match r with
  | .segments l => l.all RawSegment.ok
  | .elements l => l.all RawElement.ok
  | .points l => l.all RawPoint.ok
  | .stations l => l.all RawStation.ok
  | .unknown k _ => fieldOk 1 k && !(1 ≤ k && k ≤ 4)

def Reading.ok (r : Reading) : Bool := fieldOk 1 r.slot && fieldOk 2 r.count

def Position.ok (r : Position) : Bool := fieldOk 1 r.slot && fieldOk 1 r.code

/-- A REPORT's lists fit one frame body and their count bytes. -/
def ReportArgs.ok (r : ReportArgs) : Bool :=
  r.readings.all Reading.ok && r.positions.all Position.ok && fieldOk 1 r.readings.length
    && fieldOk 1 r.positions.length && 4 + 4 * r.readings.length + 2 * r.positions.length ≤ Config.bodyLimit

/-- The kinds of Control Port requests (11.2.1). -/
def requestKinds : List Nat :=
  [0x01, 0x02, 0x03, 0x04, 0x05, 0x10, 0x11, 0x12, 0x13, 0x20, 0x21, 0x22, 0x23, 0x24, 0x30, 0x31, 0x32, 0x33, 0x34,
   0x35, 0x40, 0x41, 0x42, 0x50, 0x51, 0x52, 0x60, 0x61, 0x62, 0x63, 0x64, 0x65]

/-- The commands that can be delivered. -/
def Instr.wf : Instr → Bool
  | .status t b | .restart t b | .save t b | .topoAbandon t b | .orderRead t b =>
    fieldOk 1 t && b.ok (fun _ => true) Layout.empty
  | .subscribe t b => fieldOk 1 t && b.ok (fun l => fieldOk 1 l.length && l.all (fieldOk 1)) Layout.subscribe
  | .setGlobals t b => fieldOk 1 t &&
      b.ok (fun a => fieldOk 2 a.dead && fieldOk 2 a.vent && fieldOk 2 a.recharge) Layout.globals
  | .topoBegin t b => fieldOk 1 t && b.ok (fun a => fieldOk 4 a.image && fieldOk 2 a.segments && fieldOk 2 a.elements
      && fieldOk 2 a.points && fieldOk 2 a.stations) Layout.begin
  | .topoPart t b => fieldOk 1 t && b.ok (fun a => fieldOk 2 a.sequence && a.records.ok) Layout.part
  | .topoCommit t b => fieldOk 1 t && b.ok (fieldOk 4) Layout.commit
  | .pointTune t b => fieldOk 1 t && b.ok (fun a => fieldOk 2 a.point && signedOk 1 a.offset && fieldOk 1 a.weight
      && fieldOk 4 a.hyst && fieldOk 2 a.fallLimit) Layout.tune
  | .pointLimits t b => fieldOk 1 t && b.ok (fun a => fieldOk 2 a.point && signedOk 4 a.ll && signedOk 4 a.l
      && signedOk 4 a.h && signedOk 4 a.hh && fieldOk 4 a.hyst) Layout.limits
  | .pointRead t b | .orderCancel t b | .elementClearFault t b | .elementRead t b | .outageClear t b
  | .segmentRead t b | .incidentRead t b | .plan t b | .planCancel t b | .restore t b =>
    fieldOk 1 t && b.ok (fieldOk 2) Layout.one
  | .stationClear t b | .stationRead t b | .isolationRead t b => fieldOk 1 t && b.ok (fieldOk 1) Layout.oneByte
  | .order t b => fieldOk 1 t && b.ok (fun a => fieldOk 2 a.element && fieldOk 1 a.action) Layout.order
  | .crewReport t b => fieldOk 1 t && b.ok (fun a => fieldOk 2 a.element && fieldOk 1 a.position) Layout.crew
  | .outageRead t b => fieldOk 1 t && b.ok (fun a => fieldOk 2 a.offset && fieldOk 2 a.count) Layout.window
  | .call t b => fieldOk 1 t && b.ok (fun a => fieldOk 4 a.number && fieldOk 2 a.segment && fieldOk 1 a.cls
      && fieldOk 4 a.age) Layout.call
  | .incidentSetDispatch t i g | .incidentSetAttend t i g | .incidentSetSafe t i g | .incidentSetClose t i g =>
    fieldOk 1 t && fieldOk 2 i && fieldOk 1 g
  | .incidentSetGrade t b => fieldOk 1 t && b.ok (fun a => fieldOk 2 a.incident && fieldOk 1 a.action
      && fieldOk 1 a.grade && !(1 ≤ a.action && a.action ≤ 4)) Layout.incidentSet
  | .planRead t b => fieldOk 1 t && b.ok (fun a => fieldOk 1 a.part && fieldOk 2 a.offset && fieldOk 2 a.count)
      Layout.planRead
  | .execute t b => fieldOk 1 t && b.ok (fun a => fieldOk 2 a.plan) Layout.execute
  | .unknownKind k t => fieldOk 1 k && fieldOk 1 t && !requestKinds.contains k
  | .report t a b => fieldOk 1 t && fieldOk 1 a && b.ok ReportArgs.ok Layout.report
      && (match b with | .misfit l => l ≠ [] && Layout.num 0 1 l = a | .fits _ => true)
  | .orderAck t a b => fieldOk 1 t && fieldOk 1 a && b.ok (fun r => fieldOk 1 r.verdict && fieldOk 1 r.reason) Layout.ack
      && (match b with | .misfit l => l ≠ [] && Layout.num 0 1 l = a | .fits _ => true)
  | .controlFrameDiscarded _ | .controlFrameGapTimeout | .replyTransmitted | .noticeTransmitted
  | .fieldFrameDiscarded _ | .fieldFrameGapTimeout | .fieldOrderFrameSent | .powerOn | .resetAssert | .resetRelease
  | .gapTimerExpiry | .planCompletion | .saveCompletion _ | .boardSupplyFailure => true
  | .silenceExpiry a => fieldOk 1 a
  | .ventTimerExpiry n | .rechargeTimerExpiry n | .customerMinute n | .deadlineExpiry n | .stationUnavailableExpiry n
  | .acknowledgementExpiry n | .strokeExpiry n => fieldOk 2 n

end Sys2Proof
end

