-- ==== Sys2Proof/Certificates/Slice0/Obligations.lean ====
section
/-! DEFINITION. The statements for the provers. A statement of tier 3 is a headline result; `answered kind tag reply t` is
the part `t` with the reply of a taken request in its reply order, and `huntControl s`, `huntField s` are `s` with the
receiver of that port hunting after the frame. -/

open Sys2Proof Sys2Proof.Machine

/-! ### Steps and commands -/

/-- A step takes the command at the front of the queue and carries it out on the part with the rest of the queue. -/
def Obligations.StepRunsTheFrontCommand : Prop :=
  ∀ (s : State) (c : Instr) (rest : List Instr), s.pending = c :: rest →
    step s = exec c { s with pending := rest }

/-- The model's choice (logs 5, 6 and 11): with no command waiting, a part that does not run stays as it is; a running part
with nothing due lets one second pass; a running part with something due puts one of the due events in front. -/
def Obligations.EmptyQueueLetsASecondPassOrADueEventCome : Prop :=
  ∀ s : State, s.pending = [] →
    (s.power ≠ .running → step s = .next s) ∧
    (s.power = .running → dueEvents s = [] → s.partTime ≠ 0xFFFFFFFF#32 →
      step s = .next { s with partTime := s.partTime + 1 }) ∧
    (s.power = .running → dueEvents s = [] → s.partTime = 0xFFFFFFFF#32 →
      ∃ w, step s = .next { s with partTime := w, drawn := s.drawn + 1 }) ∧
    (s.power = .running → dueEvents s ≠ [] →
      ∃ c ∈ dueEvents s, step s = .next { s with pending := [c], drawn := s.drawn + 1 })

/-- Every command is carried out to a next state, in every state, and leaves the commands that wait as they are: that no
command stops is log 29, and the queue of commands is log 14. -/
def Obligations.EveryCommandCompletesAndLeavesTheQueue : Prop :=
  ∀ (c : Instr) (s : State), ∃ t, exec c s = .next t ∧ t.pending = s.pending

/-- A part without supply or held carries out nothing but the board's events, and a part whose RESTART reply has not left the
line discards every request (R171, R178); that a part without supply or held stays exactly as it was is the model's choice
of logs 4 and 28. -/
def Obligations.DeafPartDiscardsWhatArrives : Prop :=
  (∀ (c : Instr) (s : State), c.isBoard = false → s.power ≠ .running → exec c s = .next s) ∧
  (∀ (c : Instr) (s : State) (kind tag : Nat), c.request? = some (kind, tag) → s.power = .running →
    s.control.restarting = true → exec c s = .next (huntControl s))

/-! ### Control Port -/

/-- A notice of a class that is not subscribed is dropped; a subscribed one takes the next number, and joins the queue, or
is discarded with OVERRUN set where the queue holds 64 (R172). An event passes its notices at its end, at most one for an
incident and at most one for a point (R65, R106): a later notice of the same incident or point names every change of both,
with the old values of the earlier and the new values of its own; its place, and what joined where both name a source, are
the model's choices of log 9. -/
def Obligations.NoticeIsDroppedQueuedOrDiscarded : Prop :=
  ∀ (b : NoticeBody) (s : State),
    (b.cls ∉ s.control.subscribed → passNotice b s = s) ∧
    (b.cls ∈ s.control.subscribed → s.control.gathered = none → s.control.notices.length < 64 →
      passNotice b s = { s with control := { s.control with
        nextNotice := (s.control.nextNotice + 1) % 65536
        notices := s.control.notices ++
          [{ number := s.control.nextNotice, time := s.partTime.toNat, body := b }] } }) ∧
    (b.cls ∈ s.control.subscribed → s.control.gathered = none → 64 ≤ s.control.notices.length →
      passNotice b s = { s with control := { s.control with
        nextNotice := (s.control.nextNotice + 1) % 65536, overrun := true } }) ∧
    (∀ f t l, s.control.gathered = none →
      f { s with control := { s.control with gathered := some [] } } = t → t.control.gathered = some l →
      inEvent f s = passNotices l { t with control := { t.control with gathered := none } }) ∧
    (∀ l, b.cls ∈ s.control.subscribed → s.control.gathered = some l →
      passNotice b s = { s with control := { s.control with gathered := some (gather b l) } }) ∧
    (∀ l : List NoticeBody, (∀ a ∈ l, ¬a.sameSubject b) → gather b l = l ++ [b]) ∧
    (∀ (before after : List NoticeBody) (x y : IncidentNotice), b = .incident y → x.incident = y.incident →
      (∀ a ∈ before ++ after, ¬a.sameSubject b) →
      gather b (before ++ .incident x :: after) = before ++ after ++ [.incident
        { y with
          events :=
            { created := x.events.created || y.events.created, joined := x.events.joined || y.events.joined
              grade := x.events.grade || y.events.grade, overdue := x.events.overdue || y.events.overdue
              state := x.events.state || y.events.state, isolation := x.events.isolation || y.events.isolation }
          oldGrade := x.oldGrade
          oldState := x.oldState
          call := if y.call = none then x.call else y.call
          joined := if (x.events.created || x.events.joined) ∧ ¬(y.events.created || y.events.joined) then x.joined
            else if y.joined = none then x.joined else y.joined }]) ∧
    (∀ (before after : List NoticeBody) (x y : PointNotice), b = .point y → x.point = y.point →
      (∀ a ∈ before ++ after, ¬a.sameSubject b) →
      gather b (before ++ .point x :: after) = before ++ after ++ [.point
        { y with oldQuality := x.oldQuality, oldBand := x.oldBand, oldFalling := x.oldFalling }]) ∧
    (∀ l : List NoticeBody, l.Pairwise (fun x y => ¬x.sameSubject y) →
      (gather b l).Pairwise fun x y => ¬x.sameSubject y)

/-- What the transmitter takes when the line is free: the oldest waiting reply, else the oldest notice, else nothing (R171);
when within an event the free line takes its frame is log 16. -/
def Obligations.TransmitterTakesRepliesAheadOfNotices : Prop :=
  (∀ (s : State) (frame : List Byte) (w : Waiting) (rest : List Waiting), s.power = .running →
    s.control.line = .reply frame → s.control.replies = w :: rest →
    ¬(w.listed = true ∧ w.kind = 0x04 ∧ w.reply = .done .nothing) →
    (∀ v more, rest = v :: more → exec .replyTransmitted s =
      .next { s with control := { s.control with replies := rest, line := .reply (Wire.replyFrame v) } }) ∧
    (∀ n ns, rest = [] → s.control.notices = n :: ns → exec .replyTransmitted s =
      .next { s with control :=
        { s.control with replies := [], line := .notice (Wire.noticeFrame n), notices := ns } }) ∧
    (rest = [] → s.control.notices = [] → exec .replyTransmitted s =
      .next { s with control := { s.control with replies := [], line := .free } })) ∧
  (∀ s : State, s.power = .running → (∀ frame, s.control.line ≠ .reply frame) →
    (∀ v more, s.control.replies = v :: more → exec .noticeTransmitted s =
      .next { s with control := { s.control with line := .reply (Wire.replyFrame v) } }) ∧
    (∀ n ns, s.control.replies = [] → s.control.notices = n :: ns → exec .noticeTransmitted s =
      .next { s with control := { s.control with line := .notice (Wire.noticeFrame n), notices := ns } }) ∧
    (s.control.replies = [] → s.control.notices = [] → exec .noticeTransmitted s =
      .next { s with control := { s.control with line := .free } })) ∧
  (∀ (w : Waiting) (s : State),
    (pushReply w s).control.replies = s.control.replies ++ [w] ∧
    (s.control.line ≠ .free → (pushReply w s).control.line = s.control.line) ∧
    (s.control.line = .free → s.control.replies = [] →
      (pushReply w s).control.line = .reply (Wire.replyFrame w)))

/-- A request that finds four taken requests listed is not carried out: it is answered BUSY beside the list, or discarded
where four BUSY refusals already wait (R169). -/
def Obligations.FullListRefusesBusyOrDiscards : Prop :=
  ∀ (c : Instr) (s : State) (kind tag : Nat), c.request? = some (kind, tag) → s.power = .running →
    s.control.restarting = false → 4 ≤ s.control.listed.length →
    (s.control.busyWaiting.length < 4 → exec c s =
      .next (pushReply { tag := tag, kind := kind, reply := .refused (.plain .busy), listed := false }
        (huntControl s))) ∧
    (4 ≤ s.control.busyWaiting.length → exec c s = .next (huntControl s))

/-- An unknown kind is REFUSED with UNKNOWN_KIND; tag 0, or a body that does not fit the layout of a known kind, is REFUSED
with MALFORMED; nothing else changes (R168). -/
def Obligations.UnknownKindsAndMalformedBodiesAreRefused : Prop :=
  (∀ (s : State) (kind tag : Nat), s.power = .running → s.control.restarting = false → s.control.listed.length < 4 →
    exec (.unknownKind kind tag) s = .next (answered kind tag (.refused (.plain .unknownKind)) (huntControl s))) ∧
  (∀ (c : Instr) (s : State) (kind tag : Nat), c.request? = some (kind, tag) → s.power = .running →
    s.control.restarting = false → s.control.listed.length < 4 → c ≠ .unknownKind kind tag →
    tag = 0 ∨ c.fitsLayout = false →
    exec c s = .next (answered kind tag (.refused (.plain .malformed)) (huntControl s)))

/-- While there is no active image the requests of R13's table are REFUSED with NO_TOPOLOGY and change nothing, and a REPORT is
discarded; every other request, and with an active image every request, is never answered so. -/
def Obligations.RequestsWithoutTopologyAreRefused : Prop :=
  (∀ (c : Instr) (s : State) (kind tag : Nat), c.request? = some (kind, tag) → Admits s tag →
    c.fitsLayout = true →
    (s.net.active = none → c.needsImage = true →
      exec c s = .next (answered kind tag (.refused (.plain .noTopology)) (huntControl s))) ∧
    (s.net.active ≠ none ∨ c.needsImage = false →
      ∃ reply t, exec c s = .next (answered kind tag reply t) ∧ reply ≠ .refused (.plain .noTopology))) ∧
  (∀ (s : State) (tag address : Nat) (body : Body ReportArgs), s.power = .running → s.net.active = none →
    exec (.report tag address body) s = .next (huntField s))

/-- A request that names a segment, element, point or station the active image does not hold is REFUSED with NOT_FOUND and
changes nothing (R14). -/
def Obligations.AbsentNumbersAreNotFound : Prop :=
  ∀ (c : Instr) (s : State) (kind tag : Nat) (img : Image) (x : RecordKind) (n : Nat),
    c.request? = some (kind, tag) → Admits s tag → s.net.active = some img → c.named? = some (x, n) →
    ¬img.holds x n →
    exec c s = .next (answered kind tag (.refused (.plain .notFound)) (huntControl s))

/-- STATUS is answered DONE with the values of R174's table, and clears FULL and OVERRUN and nothing else. -/
def Obligations.StatusReportsThePartAndClearsItsFlags : Prop :=
  ∀ (s : State) (tag : Nat), Admits s tag →
    exec (.status tag (.fits ())) s = .next (answered 0x01 tag
      (.done (.status
        { partTime := s.partTime.toNat
          cause := s.store.cause
          result := s.store.result
          image := match s.net.active with
            | some img => img.number
            | none => 0
          standby := match s.net.standby with
            | .empty => 1
            | .loading _ => 2
            | .complete _ => 3
            | .pending _ => 4
          standbyImage := match s.net.standby with
            | .empty => 0
            | .loading l => l.image
            | .complete img => img.number
            | .pending img => img.number
          saving := s.store.save.isSome
          basis := s.net.basis
          openIncidents := (s.incidentList.filter fun i => i.state ≠ .closed).length
          overdueIncidents := (s.incidentList.filter fun i => i.state ≠ .closed ∧ i.overdue = true).length
          queuedOrders := (s.elements.queue.filter fun o => o.state = .queued).length
          inFlight := (s.elements.queue.filter fun o => o.state ≠ .queued).length
          outages := s.supply.outages.length
          notReporting := (s.field.stations.filter fun t => t.state ≠ .reporting).length
          planState := match s.planner.buffer with
            | .empty => 1
            | .computing _ _ => 2
            | .held _ => 3
          plan := match s.planner.buffer with
            | .empty => 0
            | .computing p _ => p.number
            | .held p => p.number
          full := s.incidents.full
          overrun := s.control.overrun
          waiting := s.control.notices.length
          subscribed := s.control.subscribed }))
      { s with
        control := { s.control with rx := [], overrun := false }
        incidents := { s.incidents with full := false } })

/-- SUBSCRIBE stores the set it carries where every value names one of the ten classes, and leaves the queue; it is REFUSED with
RANGE otherwise; the set judges every notice passed, a queued notice is transmitted whatever its class, and after a
restart the set is all ten (R173); that NOTICE_TRANSMITTED is the command that takes the next notice is log 16. -/
def Obligations.SubscribeReplacesTheSubscriptionSet : Prop :=
  (∀ (s : State) (tag : Nat) (l : List Nat), Admits s tag →
    ((∀ n ∈ l, 1 ≤ n ∧ n ≤ 10) →
      ∃ set : List NoticeClass, (∀ c, c ∈ set ↔ c.code ∈ l) ∧
        exec (.subscribe tag (.fits l)) s = .next (answered 0x02 tag (.done (.subscribed set))
          { s with control := { s.control with rx := [], subscribed := set } })) ∧
    ((∃ n ∈ l, n = 0 ∨ 10 < n) →
      exec (.subscribe tag (.fits l)) s =
        .next (answered 0x02 tag (.refused (.plain .range)) (huntControl s)))) ∧
  (∀ (b : NoticeBody) (s : State), (b.cls ∉ s.control.subscribed → passNotice b s = s) ∧
    (b.cls ∈ s.control.subscribed → s.control.gathered = none → passNotice b s ≠ s)) ∧
  (∀ (s : State) (n : Notice) (rest : List Notice), s.power = .running →
    (∀ frame, s.control.line ≠ .reply frame) → s.control.replies = [] → s.control.notices = n :: rest →
    exec .noticeTransmitted s =
      .next { s with control := { s.control with line := .notice (Wire.noticeFrame n), notices := rest } }) ∧
  (∀ (cause : RestartCause) (s : State) (c : NoticeClass), c ∈ (restart cause s).control.subscribed)

/-- Bytes in which a receiver finds no whole frame change the frame it has begun and nothing else; one second without a byte
drops that frame; an ORDER frame leaves the field line in the order it was handed over (R28, R42, R167; logs 2 and 3 for the
time and the bytes the model holds, log 2 for a command that carries no byte). -/
def Obligations.LinesHoldDropAndSendFrames : Prop :=
  (∀ (s : State) (bytes held : List Byte), s.power = .running → receive (s.control.rx ++ bytes) = ([], held) →
    exec (.controlFrameDiscarded bytes) s =
      .next { s with control := { s.control with
        rx := held, rxAt := if bytes = [] then s.control.rxAt else s.partTime.toNat } }) ∧
  (∀ (s : State) (bytes held : List Byte), s.power = .running → receive (s.field.rx ++ bytes) = ([], held) →
    exec (.fieldFrameDiscarded bytes) s =
      .next { s with field := { s.field with
        rx := held, rxAt := if bytes = [] then s.field.rxAt else s.partTime.toNat } }) ∧
  (∀ s : State, s.power = .running → s.control.rx ≠ [] → s.control.rxAt < s.partTime.toNat →
    exec .controlFrameGapTimeout s = .next { s with control := { s.control with rx := [] } }) ∧
  (∀ s : State, s.power = .running → s.field.rx ≠ [] → s.field.rxAt < s.partTime.toNat →
    exec .fieldFrameGapTimeout s = .next { s with field := { s.field with rx := [] } }) ∧
  (∀ (s : State) (f : OrderFrame) (rest : List OrderFrame), s.power = .running → s.field.out = f :: rest →
    exec .fieldOrderFrameSent s = .next { s with field := { s.field with
      out := rest
      line := Frame.bytes
        { kind := 0xA2, tag := f.tag
          body := [BitVec.ofNat 8 f.station, BitVec.ofNat 8 f.slot,
            match f.action with
            | .close => 1#8
            | .opening => 2#8] } } })

/-- The receiver passes on a whole frame with a good check and hunts on after it, discards bytes that begin no frame, and
takes up the hunt behind a start byte whose length is above 1024 or whose check differs (R28, R167). -/
def Obligations.ReceiverFindsEveryGoodFrame : Prop :=
  (∀ (f : Frame) (rest : List Byte), f.kind < 256 → f.tag < 256 → f.body.length ≤ 1024 →
    receive (f.bytes ++ rest) = (f :: (receive rest).1, (receive rest).2)) ∧
  (∀ (b : Byte) (rest : List Byte), b ≠ 0xC3#8 → receive (b :: rest) = receive rest) ∧
  (∀ (lo hi : Byte) (rest : List Byte), 1024 < lo.toNat + 256 * hi.toNat →
    receive (0xC3#8 :: lo :: hi :: rest) = receive (lo :: hi :: rest)) ∧
  (∀ (lo hi : Byte) (covered : List Byte) (a b : Byte) (rest : List Byte),
    lo.toNat + 256 * hi.toNat ≤ 1024 → covered.length = lo.toNat + 256 * hi.toNat + 2 →
    a.toNat + 256 * b.toNat ≠ (crc16 (lo :: hi :: covered)).toNat →
    receive (0xC3#8 :: lo :: hi :: (covered ++ a :: b :: rest)) = receive (lo :: hi :: (covered ++ a :: b :: rest)))

/-- At every step the pending-request list and the BUSY refusals keep within four each, the notice queue within 64, the next
notice number within 0..65535; while the line is free nothing waits, and a reply on the line is the oldest of the reply
order (R169, R171, R172). -/
def Obligations.PortBoundsAreKeptByEveryStep : Prop :=
  ∀ s t : State, PortBounded s → step s = .next t → PortBounded t

/-! ### Globals, SAVE and restart -/

/-- SET_GLOBALS stores the three values clamped, answers with them, and re-aims every running vent and recharge timer
(R76; log 30 for an absent cut or reconnection time). -/
def Obligations.SetGlobalsClampsAndReaims : Prop :=
  ∀ (s : State) (tag : Nat) (a : GlobalsArgs), Admits s tag → s.store.save = none →
    exec (.setGlobals tag (.fits a)) s =
      let g : Globals :=
        { dead := max 50 (min 5000 a.dead), vent := max 60 (min 7200 a.vent), recharge := max 60 (min 7200 a.recharge) }
      .next (answered 0x03 tag (.done (.globals g))
        { huntControl s with supply := { s.supply with
            globals := g
            segs := s.supply.segs.map fun x =>
              { x with
                ventAt := x.ventAt.map fun _ => max (x.cutTime.getD 0 + g.vent) s.partTime.toNat
                rechargeAt := x.rechargeAt.map fun _ =>
                  max (x.reconnectedAt.getD 0 + g.recharge) s.partTime.toNat } } })

/-- SAVE takes its copy and begins, and is REFUSED with BUSY beside a LOADING or PENDING image; while it is in progress the five
requests of R177 are REFUSED with BUSY; its completion leaves the store valid or invalid and sends the STORE notice; a failing
supply or an asserted RESET leaves it invalid and sends none (R175, R176, R177). The model's choices: the read-back operand is log 7, the values of a FAILED notice log 23, the
state kept while off or held log 28, the broken store log 33, the line's take at an event's end log 16. -/
def Obligations.SaveRunsFromItsCopyToItsEnd : Prop :=
  (∀ (s : State) (tag : Nat) (img : Image), Admits s tag → s.net.active = some img → s.store.save = none →
    (s.net.standby = .empty ∨ ∃ j, s.net.standby = .complete j) →
    exec (.save tag (.fits ())) s = .next (answered 0x05 tag (.accepted .nothing)
      { huntControl s with store := { s.store with save := (some
          { acceptedAt := s.partTime.toNat
            contents :=
              { image := img
                globals := s.supply.globals
                settings := s.points.map fun r =>
                  { point := r.number, offset := r.offset, weight := r.weight, hyst := r.hyst
                    fallLimit := r.fallLimit, limits := r.limits } } }) } })) ∧
  (∀ (s : State) (tag : Nat) (img : Image), Admits s tag → s.net.active = some img →
    ((∃ l, s.net.standby = .loading l) ∨ ∃ j, s.net.standby = .pending j) →
    exec (.save tag (.fits ())) s = .next (answered 0x05 tag (.refused (.plain .busy)) (huntControl s))) ∧
  (∀ (s : State) (c : Instr) (kind tag : Nat) (img : Image), c.request? = some (kind, tag) → Admits s tag →
    c.fitsLayout = true → kind ∈ [0x03, 0x05, 0x12, 0x20, 0x21] → s.net.active = some img → s.store.save.isSome →
    (∀ x n, c.named? = some (x, n) → ∃ t r, img.point? n = some t ∧ s.point? n = some r) →
    c ≠ .unknownKind kind tag →
    exec c s = .next (answered kind tag (.refused (.plain .busy)) (huntControl s))) ∧
  (∀ (s : State) (c : SaveCopy) (good : Bool), s.power = .running → s.store.save = some c →
    exec (.saveCompletion good) s = .next (startLine (passNotice
      (.saveEnd { good := good, image := c.contents.image.number, points := c.contents.settings.length
                  check := crc32 c.contents.bytes, acceptedAt := c.acceptedAt })
      { s with store := { s.store with
          save := none
          stored := if good then .written c.contents (crc32 c.contents.bytes) else .broken } }))) ∧
  (∀ (s : State) (c : SaveCopy), s.store.save = some c →
    exec .boardSupplyFailure s =
      .next { s with power := .off, store := { s.store with save := none, stored := .broken } } ∧
    (s.power = .running → exec .resetAssert s = .next { s with
      power := .held .resetLine, resetPin := true, store := { s.store with save := none, stored := .broken } }))

/-- The part restarts when its supply is up, unless RESET is asserted, at the release of RESET with the cause its hold
recorded, and after the last byte of a RESTART's DONE reply; an asserted RESET holds a running part (R171, R178). The model's
choices: POWER_ON on a running part is log 17, the state kept while off or held log 28. -/
def Obligations.RestartsFollowTheirCauses : Prop :=
  (∀ s : State, s.resetPin = false → exec .powerOn s = .next (restart .powerOn s)) ∧
  (∀ s : State, s.resetPin = true → s.store.save = none →
    exec .powerOn s = .next { s with power := .held .powerOn }) ∧
  (∀ s : State, s.power = .running → s.store.save = none →
    exec .resetAssert s = .next { s with resetPin := true, power := .held .resetLine }) ∧
  (∀ s : State, s.power ≠ .running → exec .resetAssert s = .next { s with resetPin := true }) ∧
  (∀ (s : State) (c : RestartCause), s.power = .held c →
    exec .resetRelease s = .next (restart c { s with resetPin := false })) ∧
  (∀ s : State, (∀ c, s.power ≠ .held c) → exec .resetRelease s = .next { s with resetPin := false }) ∧
  (∀ s : State, s.store.save = none → exec .boardSupplyFailure s = .next { s with power := .off }) ∧
  (∀ (s : State) (tag : Nat), Admits s tag →
    exec (.restart tag (.fits ())) s = .next (answered 0x04 tag (.done .nothing) (huntControl s))) ∧
  (∀ (s : State) (frame : List Byte) (w : Waiting) (rest : List Waiting), s.power = .running →
    s.control.line = .reply frame → s.control.replies = w :: rest → w.listed = true → w.kind = 0x04 →
    w.reply = .done .nothing → exec .replyTransmitted s = .next (restart .restartRequest s))

/-- A restart whose store is blank, or holds nothing valid, takes every piece of run-time state to its value after restart
and sends STARTED with number 0, which the free line takes; the store keeps its condition, and an interrupted SAVE leaves it
invalid (R171, R177, R179). The model's choices: the kept count is log 1, the receivers' times log 2, the line fields log 3,
the take at the event's end log 16, the broken store log 33. -/
def Obligations.RestartWithoutAValidStoreErasesEverything : Prop :=
  ∀ (cause : RestartCause) (s : State) (stored : Stored) (result : StoreResult),
    stored = (if s.store.save.isSome then .broken else s.store.stored) →
    ((stored = .blank ∧ result = .blank) ∨ (stored = .broken ∧ result = .invalid) ∨
      (∃ c k, stored = .written c k ∧ (crc32 c.bytes ≠ k ∨ validate c.image.raw ≠ none) ∧ result = .invalid)) →
    restart cause s =
      { partTime := 0
        power := .running
        resetPin := s.resetPin
        control :=
          { rx := [], rxAt := 0, replies := [], notices := [], nextNotice := 1, subscribed := NoticeClass.all
            overrun := false, gathered := none
            line := .notice (Wire.noticeFrame { number := 0, time := 0, body := (.started
              { cause := cause, result := result, image := 0
                globals := { dead := 300, vent := 1800, recharge := 600 } }) }) }
        field := { rx := [], rxAt := 0, out := [], line := [], stations := [] }
        net := { active := none, standby := .empty, basis := 0 }
        points := []
        elements := { table := [], queue := [], nextOrder := 1, nextTag := 1 }
        supply := { segs := [], outages := [], globals := { dead := 300, vent := 1800, recharge := 600 } }
        incidents := { slots := List.replicate 64 none, nextNumber := 1, full := false }
        planner := { buffer := .empty, nextPlan := 1 }
        register := { records := List.replicate 8 none }
        store := { stored := stored, save := none, cause := cause, result := result }
        drawn := s.drawn
        pending := s.pending }

/-- A restart with a valid store installs its topology, its point settings and its globals, with every element UNKNOWN and
every station WAITING, sends STARTED with number 0, which the free line takes, and recomputes: a segment is LIVE where gas
reaches it and CUT where none does (R67, R69, R171, R179). -/
def Obligations.RestartInstallsAValidStore : Prop :=
  ∀ (cause : RestartCause) (s : State) (c : StoreContents), s.store.save = none →
    s.store.stored = .written c (crc32 c.bytes) → validate c.image.raw = none →
    ∃ t, restart cause s = t ∧
      t.net = { active := some c.image, standby := .empty, basis := 0 } ∧
      t.partTime = 0 ∧ t.power = .running ∧ t.resetPin = s.resetPin ∧
      t.field.stations = c.image.stations.map (fun x =>
        { address := x.address, state := .waiting, silenceAt := none, localFlag := false, lastAccepted := none
          lastApplied := none }) ∧
      t.elements = { table := c.image.elements.map (fun e =>
          { number := e.number, state := .unknown, direction := none, source := .station, unconfirmed := false
            faultMark := false, changedAt := 0 }), queue := [], nextOrder := 1, nextTag := 1 } ∧
      t.points = c.image.points.map (installPoint c.settings) ∧
      t.supply.globals = c.globals ∧
      t.supply.segs.map (·.segment) = c.image.segments.map (·.number) ∧
      (∀ x ∈ t.supply.segs, (x.segment ∈ t.reachable → x.state = .live) ∧
        (x.segment ∉ t.reachable → x.state = .cut)) ∧
      t.planner = { buffer := .empty, nextPlan := 1 } ∧
      t.register.records = List.replicate 8 none ∧
      t.store = { stored := .written c (crc32 c.bytes), save := none, cause := cause, result := .valid } ∧
      t.control.replies = [] ∧ t.control.line = .notice (Wire.noticeFrame { number := 0, time := 0, body := (.started
        { cause := cause, result := .valid, image := c.image.number, globals := c.globals }) })

/-! ### Topology -/

/-- TOPO_BEGIN opens a LOADING image in whatever state the standby image stood, or is REFUSED with RANGE and changes nothing;
the expiry of the gap timer discards the image and sends LOAD_TIMEOUT (R16, R18); that its command does nothing before its
time and is taken late is log 4, and the line's take at its end log 16. -/
def Obligations.LoadBeginsAndTimesOut : Prop :=
  (∀ (s : State) (tag : Nat) (a : BeginArgs), Admits s tag →
    (a.image ≠ 0 → a.segments ≤ 256 → a.elements ≤ 512 → a.points ≤ 192 → a.stations ≤ 64 →
      exec (.topoBegin tag (.fits a)) s = .next (answered 0x10 tag (.done .nothing)
        { huntControl s with net := { s.net with standby := (.loading
            { image := a.image, segments := a.segments, elements := a.elements, points := a.points
              stations := a.stations, records := [], check := 0xFFFFFFFF#32, next := 1
              gapAt := s.partTime.toNat + 60 }) } })) ∧
    (a.image = 0 ∨ 256 < a.segments ∨ 512 < a.elements ∨ 192 < a.points ∨ 64 < a.stations →
      exec (.topoBegin tag (.fits a)) s =
        .next (answered 0x10 tag (.refused (.plain .range)) (huntControl s)))) ∧
  (∀ (s : State) (l : Loading), s.power = .running → s.net.standby = .loading l →
    (l.gapAt ≤ s.partTime.toNat → exec .gapTimerExpiry s =
      .next (startLine (passNotice (.loadTimeout l.image l.next) { s with net := { s.net with standby := .empty } }))) ∧
    (s.partTime.toNat < l.gapAt → exec .gapTimerExpiry s = .next s))

/-- An accepted TOPO_PART adds its records after those held, takes its record bytes into the running check, and restarts the
gap timer; a refused one adds nothing and leaves the sequence number, the check and the gap timer as they were (R17, R21). -/
def Obligations.TopoPartIsAddedOrLeavesTheLoadAsItWas : Prop :=
  ∀ (s : State) (tag : Nat) (a : PartArgs), Admits s tag →
    (∀ l, s.net.standby ≠ .loading l) ∧
      exec (.topoPart tag (.fits a)) s =
        .next (answered 0x11 tag (.refused (.plain .state)) (huntControl s)) ∨
    ∃ l, s.net.standby = .loading l ∧
      (partKind a.records = none → exec (.topoPart tag (.fits a)) s =
        .next (answered 0x11 tag (.refused (.plain .range)) (huntControl s))) ∧
      (∀ k, partKind a.records = some k →
        (a.sequence ≠ l.next → exec (.topoPart tag (.fits a)) s =
          .next (answered 0x11 tag (.refused (.plain .sequence)) (huntControl s))) ∧
        (a.sequence = l.next → k.top < countKind k (l.records ++ partRaw a.records) →
          exec (.topoPart tag (.fits a)) s =
            .next (answered 0x11 tag (.refused (.plain .range)) (huntControl s))) ∧
        (a.sequence = l.next → countKind k (l.records ++ partRaw a.records) ≤ k.top →
          exec (.topoPart tag (.fits a)) s = .next (answered 0x11 tag
            (.done (.partCounts (countKind .segment (l.records ++ partRaw a.records))
              (countKind .element (l.records ++ partRaw a.records))
              (countKind .point (l.records ++ partRaw a.records))
              (countKind .station (l.records ++ partRaw a.records))))
            { huntControl s with net := { s.net with standby := (.loading
                { l with
                  records := l.records ++ partRaw a.records
                  check := a.records.bytes.foldl crc32Byte l.check
                  next := if l.next < 65535 then l.next + 1 else 1
                  gapAt := s.partTime.toNat + 60 }) } })))

/-- The tests of a TOPO_COMMIT in their order: BUSY beside a SAVE, STATE in EMPTY, then counts in the order of the kinds,
check and validation, each failure discarding the standby image; a conflict leaves it COMPLETE; without one it waits PENDING
while the queue holds an order or a plan computes, and is activated where neither does; in PENDING the commit changes
nothing (R20, R22, R23). The activation's notices are those of one event (R65, R106, log 9). -/
def Obligations.CommitTestsEndTheLoadOrLeaveItPending : Prop :=
  ∀ (s : State) (tag check : Nat), Admits s tag →
    (s.store.save.isSome → exec (.topoCommit tag (.fits check)) s =
      .next (answered 0x12 tag (.refused (.plain .busy)) (huntControl s))) ∧
    (s.store.save = none → s.net.standby = .empty → exec (.topoCommit tag (.fits check)) s =
      .next (answered 0x12 tag (.refused (.plain .state)) (huntControl s))) ∧
    (∀ img, s.store.save = none → s.net.standby = .pending img → exec (.topoCommit tag (.fits check)) s =
      .next (answered 0x12 tag (.done (.commit false)) (huntControl s))) ∧
    (∀ l, s.store.save = none → s.net.standby = .loading l →
      let withStandby := fun (x : Standby) => ({ huntControl s with net := { s.net with standby := x } } : State)
      let img := Image.ofRaw l.image l.records
      let counted := countKind .segment l.records = l.segments ∧ countKind .element l.records = l.elements ∧
        countKind .point l.records = l.points ∧ countKind .station l.records = l.stations
      let mismatch : Denial :=
        if countKind .segment l.records ≠ l.segments then
          .countMismatch .segment l.segments (countKind .segment l.records)
        else if countKind .element l.records ≠ l.elements then
          .countMismatch .element l.elements (countKind .element l.records)
        else if countKind .point l.records ≠ l.points then .countMismatch .point l.points (countKind .point l.records)
        else .countMismatch .station l.stations (countKind .station l.records)
      let sound := counted ∧ l.check ^^^ 0xFFFFFFFF#32 = BitVec.ofNat 32 check ∧ validate l.records = none
      (¬counted → exec (.topoCommit tag (.fits check)) s =
        .next (answered 0x12 tag (.refused mismatch) (withStandby .empty))) ∧
      (counted → l.check ^^^ 0xFFFFFFFF#32 ≠ BitVec.ofNat 32 check → exec (.topoCommit tag (.fits check)) s =
        .next (answered 0x12 tag (.refused (.checkMismatch (l.check ^^^ 0xFFFFFFFF#32))) (withStandby .empty))) ∧
      (∀ d, counted → l.check ^^^ 0xFFFFFFFF#32 = BitVec.ofNat 32 check → validate l.records = some d →
        exec (.topoCommit tag (.fits check)) s = .next (answered 0x12 tag (.refused d) (withStandby .empty))) ∧
      (∀ k n, sound → conflictTest img s = some (k, n) → exec (.topoCommit tag (.fits check)) s =
        .next (answered 0x12 tag (.refused (.conflict k n)) (withStandby (.complete img)))) ∧
      (sound → conflictTest img s = none →
        (s.elements.queue ≠ [] ∨ ∃ p c, s.planner.buffer = .computing p c) →
        exec (.topoCommit tag (.fits check)) s =
          .next (answered 0x12 tag (.done (.commit false)) (withStandby (.pending img)))) ∧
      (sound → conflictTest img s = none → s.elements.queue = [] → (∀ p c, s.planner.buffer ≠ .computing p c) →
        exec (.topoCommit tag (.fits check)) s = .next (answered 0x12 tag (.done (.commit true))
          (inEvent (activate (passInActivation .plain) img) (withStandby (.complete img)))))) ∧
    (∀ img, s.store.save = none → s.net.standby = .complete img →
      (∀ k n, conflictTest img s = some (k, n) → exec (.topoCommit tag (.fits check)) s =
        .next (answered 0x12 tag (.refused (.conflict k n)) (huntControl s))) ∧
      (conflictTest img s = none →
        (s.elements.queue ≠ [] ∨ ∃ p c, s.planner.buffer = .computing p c) →
        exec (.topoCommit tag (.fits check)) s = .next (answered 0x12 tag (.done (.commit false))
          { huntControl s with net := { s.net with standby := .pending img } })) ∧
      (conflictTest img s = none → s.elements.queue = [] → (∀ p c, s.planner.buffer ≠ .computing p c) →
        exec (.topoCommit tag (.fits check)) s = .next (answered 0x12 tag (.done (.commit true))
          (inEvent (activate (passInActivation .plain) img) (huntControl s)))))

/-- The commit of a loaded image on a part with no active image and nothing in hand activates it at once: every element is
UNKNOWN, every station WAITING, every point at its defaults, every segment has its record, and the basis is one more
(R23, R25 to R27). The conflict test of R22; the steps of every activation in the order of R27, with the stale points of R63
and the elapsed timers of R26 after them (logs 22 and 24); and a PENDING image at the end of a plan computation, at a
PLAN_CANCEL and at an order that leaves the queue empty: it is activated, or returns to COMPLETE with ACTIVATION_FAILED
(R24; R171 with log 16 for the line, log 9 for the notices of the event that activates). -/
def Obligations.FirstCommitActivatesTheLoadedImage : Prop :=
  (∀ (s : State) (tag check : Nat) (l : Loading), Admits s tag → s.store.save = none → s.net.active = none →
    s.net.standby = .loading l → s.elements.queue = [] → s.planner.buffer = .empty → Quiet s →
    s.field.stations = [] → s.supply.segs = [] → s.supply.outages = [] → s.incidentList = [] →
    countKind .segment l.records = l.segments → countKind .element l.records = l.elements →
    countKind .point l.records = l.points → countKind .station l.records = l.stations →
    l.check ^^^ 0xFFFFFFFF#32 = BitVec.ofNat 32 check → validate l.records = none →
    ∃ t, exec (.topoCommit tag (.fits check)) s = .next (answered 0x12 tag (.done (.commit true)) t) ∧
      let img := Image.ofRaw l.image l.records
      t.net = { active := some img, standby := .empty, basis := s.net.basis + 1 } ∧
      t.elements = { s.elements with table := img.elements.map fun e =>
        { number := e.number, state := .unknown, direction := none, source := .station, unconfirmed := false
          faultMark := false, changedAt := s.partTime.toNat } } ∧
      t.field = { s.field with stations := img.stations.map fun x =>
        { address := x.address, state := .waiting, silenceAt := none, localFlag := false, lastAccepted := none
          lastApplied := none } } ∧
      t.points = img.points.map PointRec.fresh ∧
      t.supply.segs.map (·.segment) = img.segments.map (·.number) ∧
      (∀ x ∈ t.supply.segs, (x.segment ∈ t.reachable → x.state = .live) ∧
        (x.segment ∉ t.reachable → x.state = .cut)) ∧
      t.planner = s.planner ∧ t.register = s.register ∧ t.store = s.store ∧ t.control.replies = s.control.replies) ∧
  (∀ (s : State) (img : Image), conflictTest img s = none ↔
    (∀ r, some r ∈ s.register.records → ∀ e ∈ r.entries, ∃ a b, s.elemTopo? e.element = some a ∧
      img.element? e.element = some b ∧ alike a b = true) ∧
    (∀ o ∈ s.supply.outages, img.holds .segment o.segment) ∧
    (∀ i ∈ s.incidentList, i.state ≠ .closed → img.holds .segment i.segment)) ∧
  (∀ (pass : State → State) (img : Image) (s : State), activate pass img s =
    let emptied : State := { s with planner := { s.planner with buffer := .empty } }
    let discarded := match s.planner.buffer with
      | .held p => passNotice (.planEnd
          { plan := p.number, incident := p.incident, target := p.target, verdict := .topologyChanged
            result := p.result, failing := p.failing, startBasis := p.startBasis, endBasis := s.net.basis
            zoneLength := p.zone.length, closeLength := p.close.length, lostLength := p.lost.length
            customers := p.customers, guardedCount := p.guardedCount, crewCount := p.crewCount }) emptied
      | _ => emptied
    let u : State := { discarded with net := { s.net with basis := s.net.basis + 1 } }
    let v := recompute none 0 pass (carryOver img u)
    let w := passNotice (.activated img.number v.net.basis) { v with net := { v.net with standby := .empty } }
    let x := passNotices (staleNotices img u) w
    ((x.field.stations.filter fun t => t.silenceAt.any fun y => y ≤ x.partTime.toNat).map (·.address)).foldl
      (fun y a => silenceEvent a y) x) ∧
  (∀ (s : State) (img cur : Image), s.net.active = some cur → s.net.standby = .pending img →
    let failed := fun (k : RecordKind) (n : Nat) (u : State) => passNotice (.activationFailed img.number k n)
      { u with net := { u.net with standby := .complete img } }
    let activated := activate (passInActivation .plain) img
    (∀ tag p c, Admits s tag → s.planner.buffer = .computing p c →
      let u : State := { huntControl s with planner := { s.planner with buffer := .empty } }
      let answer := fun (t : State) => exec (.planCancel tag (.fits p.number)) s =
        .next (answered 0x62 tag (.done .nothing) t)
      (s.elements.queue ≠ [] → answer u) ∧
      (∀ k n, s.elements.queue = [] → conflictTest img s = some (k, n) → answer (failed k n u)) ∧
      (s.elements.queue = [] → conflictTest img s = none → answer (inEvent activated u))) ∧
    (∀ p c, s.power = .running → s.planner.buffer = .computing p c → p.startTime < s.partTime.toNat →
      let q := finishPlan s.partTime.toNat s.net.basis (computePlan cur c p)
      let u : State := { s with planner := { s.planner with buffer := .held q } }
      let told := passNotice (planNotice q (planVerdict q) s.net.basis)
      (s.elements.queue ≠ [] → exec .planCompletion s = .next (startLine (told u))) ∧
      (∀ k n, s.elements.queue = [] → conflictTest img s = some (k, n) →
        exec .planCompletion s = .next (startLine (failed k n (told u)))) ∧
      (s.elements.queue = [] → conflictTest img s = none →
        exec .planCompletion s = .next (startLine (inEvent (fun v => activated (told v)) u)))) ∧
    (∀ tag o, Admits s tag → s.elements.queue = [o] → o.state = .queued → (∀ r ∈ s.register.records, r = none) →
      let u : State := { huntControl s with elements := { s.elements with queue := [] } }
      let told := passNotice
        (.order { order := o.number, element := o.element, action := o.action, origin := o.origin
                  override := o.override, outcome := .cancelled, tag := o.tag, sendsUsed := 0
                  enqueuedAt := o.enqueuedAt, endedAt := s.partTime.toNat })
      let answer := fun (t : State) => exec (.orderCancel tag (.fits o.number)) s =
        .next (answered 0x31 tag (.done .nothing) t)
      ((∃ p c, s.planner.buffer = .computing p c) → answer (told u)) ∧
      (∀ k n, (∀ p c, s.planner.buffer ≠ .computing p c) → conflictTest img s = some (k, n) →
        answer (failed k n (told u))) ∧
      ((∀ p c, s.planner.buffer ≠ .computing p c) → conflictTest img s = none →
        answer (inEvent (fun v => activated (told v)) u))))

/-- TOPO_ABANDON takes the standby image to EMPTY from any state, whether or not a SAVE is in progress, and changes nothing
else (R19). -/
def Obligations.AbandonEmptiesTheStandbyImage : Prop :=
  ∀ (s : State) (tag : Nat), Admits s tag →
    exec (.topoAbandon tag (.fits ())) s = .next (answered 0x13 tag (.done .nothing)
      { huntControl s with net := { s.net with standby := .empty } }) ∧
    (s.net.standby = .empty → exec (.topoAbandon tag (.fits ())) s =
      .next (answered 0x13 tag (.done .nothing) (huntControl s)))

/-- Carry-over. An element of the same kind and ends in both images keeps its whole record, every other element of the new
image starts UNKNOWN, and the topology fields are the new ones (R5, R25). A point of the same range keeps its record, made
STALE where its new station is not REPORTING; every other point starts at its defaults (R26, R63). A kept station goes on,
with a running timer under the new limit; a new one is WAITING (R26). A kept segment goes on, with the sampled points that
stay on it; a new one is LIVE (R85). The tables hold the new image's records alone. -/
def Obligations.CarryOverKeepsAlikeElements : Prop :=
  ∀ (s : State) (old img : Image), s.net.active = some old → NumbersDistinct old → NumbersDistinct img →
    s.elements.table.map (·.number) = old.elements.map (·.number) →
    let t := carryOver img s
    let same := fun (o e : Element) => o.kind = e.kind ∧
      ((o.kind = .valve ∧ ((o.endA = e.endA ∧ o.endB = e.endB) ∨ (o.endA = e.endB ∧ o.endB = e.endA))) ∨
        (o.kind = .regulator ∧ o.endA = e.endA ∧ o.endB = e.endB) ∨ (o.kind = .source ∧ o.endB = e.endB))
    t.elements.table.map (·.number) = img.elements.map (·.number) ∧
    (∀ e ∈ img.elements,
      t.elemTopo? e.number = some e ∧
      ((∃ o ∈ old.elements, o.number = e.number ∧ same o e) → t.element? e.number = s.element? e.number) ∧
      ((∀ o ∈ old.elements, o.number = e.number → ¬same o e) →
        t.element? e.number = some
          { number := e.number, state := .unknown, direction := none, source := .station, unconfirmed := false
            faultMark := false, changedAt := s.partTime.toNat })) ∧
    ((old.points.map (·.number)).Nodup → (img.points.map (·.number)).Nodup →
      s.points.map (·.number) = old.points.map (·.number) →
      t.points.map (·.number) = img.points.map (·.number) ∧
      ∀ p ∈ img.points,
        (∀ r o, s.point? p.number = some r → o ∈ old.points → o.number = p.number → o.pl = p.pl → o.ph = p.ph →
          ((∃ x ∈ t.field.stations, x.address = p.station ∧ x.state = .reporting) →
            t.point? p.number = some r) ∧
          (r.quality = .never ∨ r.quality = .stale → t.point? p.number = some r) ∧
          ((∀ x ∈ t.field.stations, x.address = p.station → x.state ≠ .reporting) →
            r.quality ≠ .never → r.quality ≠ .stale →
            t.point? p.number = some { r with quality := .stale, rate := none })) ∧
        ((∀ o ∈ old.points, o.number = p.number → ¬(o.pl = p.pl ∧ o.ph = p.ph)) →
          t.point? p.number = some (PointRec.fresh p))) ∧
    ((img.stations.map (·.address)).Nodup →
      t.field.stations.map (·.address) = img.stations.map (·.address) ∧
      ∀ x ∈ img.stations,
        (∀ r, s.station? x.address = some r → r.silenceAt = none → t.station? x.address = some r) ∧
        (∀ r a, s.station? x.address = some r → r.silenceAt ≠ none → r.lastAccepted = some a →
          t.station? x.address = some { r with silenceAt := some (a + x.limit) }) ∧
        (s.station? x.address = none → t.station? x.address = some
          { address := x.address, state := .waiting, silenceAt := none, localFlag := false, lastAccepted := none
            lastApplied := none })) ∧
    t.supply.segs.map (·.segment) = img.segments.map (·.number) ∧
    (∀ g ∈ img.segments,
      (∀ r, s.seg? g.number = some r → t.seg? g.number = some
        { r with sampled := r.sampled.filter fun n => (img.point? n).any fun p => p.segment = g.number }) ∧
      (s.seg? g.number = none → t.seg? g.number = some
        { segment := g.number, state := .live, stateTime := s.partTime.toNat, cutTime := none, reconnectedAt := none
          sampled := [], ventAt := none, rechargeAt := none })) ∧
    t.supply.outages = s.supply.outages ∧ t.supply.globals = s.supply.globals ∧ t.incidents = s.incidents ∧
    t.elements.queue = s.elements.queue ∧ t.register = s.register ∧ t.planner = s.planner ∧ t.control = s.control

/-- A segment is reachable exactly when the closure of R10 carries gas to it, under every judgement of which elements are
passable; a passable element is one that is not CLOSED; with no active image nothing is reachable. The gaining and the lost
segments of an element, the valve neighbours of a segment and its protected flag are those of R4 and R11. -/
def Obligations.ReachabilityIsTheClosure : Prop :=
  (∀ (img : Image) (pass : Nat → Bool) (n : Nat), n ∈ reach img pass ↔ Carried img pass n) ∧
  (∀ (s : State) (img : Image), s.net.active = some img → ∀ n, n ∈ s.reachable ↔ Carried img s.passable n) ∧
  (∀ s : State, s.net.active = none → s.reachable = []) ∧
  (∀ (s : State) (r : ElementRec) (n : Nat), s.element? n = some r → (s.passable n = false ↔ r.state = .closed)) ∧
  (∀ (s : State) (img : Image) (e n : Nat), s.net.active = some img →
    (n ∈ s.gaining e ↔ Carried img (fun m => m = e || s.passable m) n ∧ ¬Carried img s.passable n) ∧
    (n ∈ s.lostBy e ↔ Carried img s.passable n ∧ ¬Carried img (fun m => m ≠ e && s.passable m) n) ∧
    (s.guardedSegment n = true ↔ ∃ seg, img.segment? n = some seg ∧ seg.guarded = true)) ∧
  (∀ (img : Image) (a b : Nat), valveNeighbours img a b = true ↔ a ≠ b ∧ ∃ e ∈ img.elements, e.kind = .valve ∧
    ((e.endA = a ∧ e.endB = b) ∨ (e.endA = b ∧ e.endB = a)))

/-! ### Pressure -/

/-- POINT_TUNE stores its four values clamped and answers with them; F of 0 clears a set FALLING with a POINT notice.
POINT_LIMITS stages its set and leaves the active limits, or is REFUSED with RANGE (R47, R48, R65). -/
def Obligations.TuningIsClampedAndLimitsAreStaged : Prop :=
  (∀ (s : State) (tag : Nat) (a : TuneArgs) (img : Image) (t : Point) (r : PointRec), Admits s tag →
    s.net.active = some img → img.point? a.point = some t → s.point? a.point = some r → s.store.save = none →
    exec (.pointTune tag (.fits a)) s =
      let x : PointRec :=
        { r with
          offset := max (-64) (min 63 a.offset)
          weight := max 1 (min 16 a.weight)
          hyst := a.hyst
          fallLimit := min a.fallLimit 10000
          falling := if a.fallLimit = 0 then false else r.falling }
      .next (answered 0x20 tag (.done (.tuned x.offset x.weight x.hyst x.fallLimit))
        (passNotices
          (if r.falling = true ∧ a.fallLimit = 0 then
            [.point { point := a.point, segment := t.segment, oldQuality := r.quality, quality := r.quality
                      oldBand := r.band, band := r.band, oldFalling := true, falling := false, f := r.f, p := r.p
                      rate := r.rate, underScale := r.underScale, overScale := r.overScale
                      expected := r.expected, lastSample := r.lastSample }]
          else [])
          { huntControl s with points := s.points.map fun y => if y.number = a.point then x else y }))) ∧
  (∀ (s : State) (tag : Nat) (a : LimitsArgs) (img : Image) (t : Point) (r : PointRec), Admits s tag →
    s.net.active = some img → img.point? a.point = some t → s.point? a.point = some r → s.store.save = none →
    (a.ll ≤ a.l → a.l < a.h → a.h ≤ a.hh → exec (.pointLimits tag (.fits a)) s =
      .next (answered 0x21 tag (.done .nothing)
        { huntControl s with points := s.points.map fun y =>
            if y.number = a.point then
              { r with pendingLimits := some ({ ll := a.ll, l := a.l, h := a.h, hh := a.hh }, a.hyst) }
            else y })) ∧
    (¬(a.ll ≤ a.l ∧ a.l < a.h ∧ a.h ≤ a.hh) → exec (.pointLimits tag (.fits a)) s =
      .next (answered 0x21 tag (.refused (.plain .range)) (huntControl s))))

/-- The quality judgement and the conversion of a reading: a faulted reading changes the quality and makes R not available,
and nothing else; an accepted one is corrected, clamped with UNDER or OVER, converted to pascals with halves rounded up,
and judged against limits latched first (R50 to R53). -/
def Obligations.ReadingIsJudgedThenConverted : Prop :=
  ∀ (now count : Nat) (supply : Option SupplyState) (r : PointRec),
    evaluate now count true supply r = { r with quality := .sensorFault, rate := none } ∧
    (count < 760 → evaluate now count false supply r = { r with quality := .wireFault, rate := none }) ∧
    (760 ≤ count →
      let k : Int := count + r.offset
      let k' : Int := max 800 (min 4000 k)
      let x := evaluate now count false supply r
      x.quality = .good ∧ x.lastSample = some now ∧
      x.underScale = decide (k < 800) ∧ x.overScale = decide (4000 < k) ∧
      x.p = some ((r.pl : Int) + ((k' - 800) * ((r.ph : Int) - r.pl) + 1600) / 3200) ∧
      x.pendingLimits = none ∧
      (r.pendingLimits = none →
        x.limits = r.limits ∧ x.hyst = min r.hyst ((r.limits.h - r.limits.l) / 2).toNat) ∧
      (∀ l h, r.pendingLimits = some (l, h) → x.limits = l ∧ x.hyst = min h ((l.h - l.l) / 2).toNat) ∧
      (x.expected = true ↔ ∃ y, supply = some y ∧ y ≠ .live))

/-- At a sample the filter is seeded with p where the quality was not GOOD, with the history and FALLING cleared; where it was
GOOD, f moves by d times w over 16 rounded to the nearest integer, a half away from zero, and stays between f and p (R54,
R55). -/
def Obligations.FilterIsSeededOrMovesTowardsP : Prop :=
  ∀ (now count : Nat) (supply : Option SupplyState) (r : PointRec) (p : Int), 760 ≤ count →
    (evaluate now count false supply r).p = some p →
    (r.quality ≠ .good →
      let x := evaluate now count false supply r
      x.f = some p ∧ x.history = [(now, p)] ∧ x.rate = none ∧ x.falling = false) ∧
    (∀ f, r.quality = .good → r.f = some f → r.weight ≤ 16 →
      ∃ q : Int, (evaluate now count false supply r).f = some (f + q) ∧
        2 * |16 * q - (p - f) * r.weight| ≤ 16 ∧
        (2 * |16 * q - (p - f) * r.weight| = 16 → |(p - f) * r.weight| < |16 * q|) ∧
        min f p ≤ f + q ∧ f + q ≤ max f p)

/-- After every sample the history holds at most eight entries, none older than 600 s, the newest being this sample; R is
taken from the oldest entry once it is 60 s old, truncated toward zero; FALLING is set at R of -F or below, cleared at R of
-floor(F / 2) or above, and held otherwise (R56 to R58). -/
def Obligations.RateAndFallingComeFromTheOldestEntry : Prop :=
  ∀ (now count : Nat) (supply : Option SupplyState) (r : PointRec), 760 ≤ count →
    ∃ (f : Int) (t₀ : Nat) (f₀ : Int) (rest : List (Nat × Int)),
      let x := evaluate now count false supply r
      x.f = some f ∧ x.history = (t₀, f₀) :: rest ∧ x.history.length ≤ 8 ∧
      x.history.getLast? = some (now, f) ∧ (∀ e ∈ x.history, now ≤ e.1 + 600) ∧
      (now < t₀ + 60 → x.rate = none) ∧
      (t₀ + 60 ≤ now → x.rate = some (Int.tdiv ((f - f₀) * 60) ((now : Int) - t₀))) ∧
      (let before := r.quality = .good ∧ r.f.isSome = true ∧ r.falling = true
       x.falling = true ↔
        (∃ R : Int, x.rate = some R ∧ 0 < r.fallLimit ∧ R ≤ -(r.fallLimit : Int)) ∨
        (before ∧ ∀ R : Int, x.rate = some R →
          R < -((r.fallLimit / 2 : Nat) : Int) ∨ (0 < r.fallLimit ∧ R ≤ -(r.fallLimit : Int))))

/-- The band table of R59: a band is entered as soon as its limit is passed, and left only when f has moved back past that
limit by the hysteresis. -/
def Obligations.BandsAreLeftOnlyPastTheirHysteresis : Prop :=
  ∀ (l : Limits) (hyst : Nat) (b : Band) (f : Int), l.ll ≤ l.l → l.l < l.h → l.h ≤ l.hh →
    let x := bandAfter l hyst b f
    (f < l.ll → x = .lowLow) ∧
    (l.ll ≤ f → f < l.l → b = .lowLow → f < l.ll + hyst → x = .lowLow) ∧
    (l.ll ≤ f → f < l.l → ¬(b = .lowLow ∧ f < l.ll + hyst) → x = .low) ∧
    (l.hh < f → x = .highHigh) ∧
    (l.h < f → f ≤ l.hh → b = .highHigh → l.hh - hyst < f → x = .highHigh) ∧
    (l.h < f → f ≤ l.hh → ¬(b = .highHigh ∧ l.hh - hyst < f) → x = .high) ∧
    (l.l ≤ f → f ≤ l.h →
      (b = .lowLow → f < l.ll + hyst → x = .lowLow) ∧
      (¬(b = .lowLow ∧ f < l.ll + hyst) → (b = .low ∨ b = .lowLow) → f < l.l + hyst → x = .low) ∧
      (b = .highHigh → l.hh - hyst < f → x = .highHigh) ∧
      (¬(b = .highHigh ∧ l.hh - hyst < f) → (b = .high ∨ b = .highHigh) → l.h - hyst < f → x = .high) ∧
      (b = .normal → x = .normal) ∧
      ((b = .low ∨ b = .lowLow) → l.l + hyst ≤ f → ¬(b = .lowLow ∧ f < l.ll + hyst) → x = .normal) ∧
      ((b = .high ∨ b = .highHigh) → f ≤ l.h - hyst → ¬(b = .highHigh ∧ l.hh - hyst < f) → x = .normal))

/-- At every step every p and every f that a point record holds stays within the point's range (R52, R55). -/
def Obligations.PressuresStayWithinTheirRange : Prop :=
  ∀ s t : State, PressuresSound s → step s = .next t → PressuresSound t

/-! ### Stations -/

/-- An accepted report takes its LOCAL flag and its times, then its positions in list order, then its readings in list order,
then one dispatch pass where the station entered REPORTING or cleared LOCAL, then the STATION notice (R31, R33, R39, R40),
all as one event with its notices together (R31, R65, R106, log 9), and a free line takes what waits (R171, log 16). A position
or a reading goes to the REMOTE element or the point of the station at its slot, and to none where the slot holds none (R31);
the station's QUEUED orders start their station-unavailable timers where it is unavailable and stop them where not (R124).
The model's choices: the notice of a station that an activation removed is log 25, the slots resolved by the image at arrival
log 31, the passes inside `hooksTop` log 32. -/
def Obligations.AcceptedReportIsHandedOnInOrder : Prop :=
  (∀ (s : State) (tag a : Nat) (r : ReportArgs) (img : Image) (x : StationTopo) (st : Station),
    s.power = .running → s.net.active = some img → img.station? a = some x → s.station? a = some st →
    wellFormedReport r = true →
    exec (.report tag a (.fits r)) s =
      let new : Station :=
        { st with
          localFlag := r.localFlag
          silenceAt := some (s.partTime.toNat + x.limit)
          lastAccepted := some s.partTime.toNat
          state := reportedState x.mode st.state
          lastApplied := if reportedState x.mode st.state = .reporting then some s.partTime.toNat else st.lastApplied }
      let enters := st.state ≠ .reporting ∧ new.state = .reporting
      .next (startLine (inEvent (fun s₀ =>
        let s₁ := syncUnavailable a { s₀ with
          field := { s₀.field with stations := s₀.field.stations.map fun y => if y.address = a then new else y }
          net := { s₀.net with basis := if enters then s₀.net.basis + 1 else s₀.net.basis } }
        let s₂ := if new.state = .reporting then
            (deliveredPositions img a r.positions).foldl
              (fun u y => positionEvent (hooksTop .plain) y.1 y.2 u) s₁
          else s₁
        let s₃ := if new.state = .reporting then
            (deliveredReadings img a r.readings).foldl
              (fun u y => readingEvent (hooksTop .plain) y.1 y.2 u) s₂
          else s₂
        let s₄ := if enters ∨ (st.localFlag = true ∧ r.localFlag = false) then dispatchTop .plain s₃ else s₃
        if st.state = new.state ∧ st.localFlag = r.localFlag then s₄ else stationNotice st.state new .report s₄)
        (huntField s)))) ∧
  (∀ (img : Image) (a slot : Nat) (e : Element) (code : Nat) (c : PositionCode) (l : List Position),
    (img.elements.filter fun y => y.cls = .remote ∧ y.station = a ∧ y.slot = slot) = [e] → PositionCode.ofCode code = some c →
    deliveredPositions img a ({ slot := slot, code := code } :: l) = (e.number, c) :: deliveredPositions img a l) ∧
  (∀ (img : Image) (a slot code : Nat) (l : List Position),
    (∀ y ∈ img.elements, ¬(y.cls = .remote ∧ y.station = a ∧ y.slot = slot)) →
    deliveredPositions img a ({ slot := slot, code := code } :: l) = deliveredPositions img a l) ∧
  (∀ (img : Image) (a : Nat) (p : Point) (x : Reading) (l : List Reading),
    (img.points.filter fun y => y.station = a ∧ y.slot = x.slot) = [p] →
    deliveredReadings img a (x :: l) = (p.number, x) :: deliveredReadings img a l) ∧
  (∀ (img : Image) (a : Nat) (x : Reading) (l : List Reading), (∀ y ∈ img.points, ¬(y.station = a ∧ y.slot = x.slot)) →
    deliveredReadings img a (x :: l) = deliveredReadings img a l) ∧
  (∀ (s : State) (a : Nat) (old : StationState) (t : Station) (cause : StationCause),
    let available := ∃ st, s.station? a = some st ∧ st.state = .reporting ∧ st.localFlag = false
    let timed := fun (g : Option Nat → Option Nat) =>
      ({ s with elements := { s.elements with queue := (s.elements.queue.map fun o =>
          if o.state = .queued ∧ s.stationOf o = a then { o with unavailableAt := g o.unavailableAt } else o) } } : State)
    (available → syncUnavailable a s = timed fun _ => none) ∧
    (¬available → syncUnavailable a s = timed fun at' => some (at'.getD (s.partTime.toNat + 120))) ∧
    stationNotice old t cause s = passNotice
      (.station { address := t.address, oldState := old, state := t.state, cause := cause, localFlag := t.localFlag
                  lastAccepted := t.lastAccepted, basis := s.net.basis }) s)

/-- A heartbeat at a part with an empty order queue: WAITING and REPORTING go to REPORTING, SILENT to REPORTING or, when
LATCHED, to HELD_SILENT, which stays; an entry into REPORTING is one increase of the basis; the timer starts afresh; one
STATION notice reports a change (R33, R34, R36, R37, R39, R40; R171 with log 16 for the line). -/
def Obligations.HeartbeatMovesTheStationByItsState : Prop :=
  ∀ (s : State) (tag a : Nat) (flag : Bool) (img : Image) (x : StationTopo) (st : Station) (y : StationState),
    s.power = .running → s.net.active = some img → img.station? a = some x → s.station? a = some st →
    s.elements.queue = [] →
    ((st.state = .waiting ∧ y = .reporting) ∨ (st.state = .reporting ∧ y = .reporting) ∨
      (st.state = .silent ∧ x.mode = .reportOnly ∧ y = .reporting) ∨
      (st.state = .silent ∧ x.mode = .latched ∧ y = .heldSilent) ∨
      (st.state = .heldSilent ∧ y = .heldSilent)) →
    exec (.report tag a (.fits { localFlag := flag, readings := [], positions := [] })) s =
      let new : Station :=
        { address := a, state := y, silenceAt := some (s.partTime.toNat + x.limit), localFlag := flag
          lastAccepted := some s.partTime.toNat
          lastApplied := if y = .reporting then some s.partTime.toNat else st.lastApplied }
      let basis := if st.state ≠ .reporting ∧ y = .reporting then s.net.basis + 1 else s.net.basis
      let u := { s with
        field := { s.field with
          rx := [], stations := s.field.stations.map fun z => if z.address = a then new else z }
        net := { s.net with basis := basis } }
      .next (startLine (if st.state = y ∧ st.localFlag = flag then u
        else passNotice (.station { address := a, oldState := st.state, state := y, cause := .report
                                    localFlag := flag, lastAccepted := some s.partTime.toNat, basis := basis }) u))

/-- A REPORT for no station of the active image, or that does not fit its layout, or that is malformed in any of the ways of
R30, changes nothing (R29, R30). -/
def Obligations.DiscardedReportsChangeNothing : Prop :=
  (∀ (s : State) (tag a : Nat) (body : Body ReportArgs) (img : Image), s.power = .running →
    s.net.active = some img → ¬img.holds .station a → exec (.report tag a body) s = .next (huntField s)) ∧
  (∀ (s : State) (tag a : Nat) (bytes : List Byte), s.power = .running →
    exec (.report tag a (.misfit bytes)) s = .next (huntField s)) ∧
  (∀ (s : State) (tag a : Nat) (r : ReportArgs), s.power = .running →
    (8 < r.readings.length ∨ 8 < r.positions.length ∨ (∃ x ∈ r.readings, 7 < x.slot ∨ 4095 < x.count) ∨
      (∃ x ∈ r.positions, 7 < x.slot ∨ x.code = 0 ∨ 5 < x.code) ∨
      ¬(r.readings.map (·.slot)).Nodup ∨ ¬(r.positions.map (·.slot)).Nodup) →
    exec (.report tag a (.fits r)) s = .next (huntField s))

/-- The expiry of a REPORTING station's silence timer: the station is SILENT with its timer stopped, the basis is one more,
its REMOTE elements are unconfirmed and keep their states, its sound or faulted points are STALE, the timers of its QUEUED
orders run, its STATION notice goes ahead of the notices of its points, one for each point made STALE in ascending number,
and nothing else changes (R35, R62, R65, R111, R124; R171 with log 16 for the line). -/
def Obligations.SilenceOfAReportingStation : Prop :=
  ∀ (s : State) (a at' : Nat) (st : Station), s.power = .running → s.station? a = some st → st.state = .reporting →
    st.silenceAt = some at' → at' ≤ s.partTime.toNat →
    ∃ t, exec (.silenceExpiry a) s = .next t ∧
      t.field = { s.field with stations := s.field.stations.map fun y =>
        if y.address = a then { st with state := .silent, silenceAt := none } else y } ∧
      t.net = { s.net with basis := s.net.basis + 1 } ∧
      (∀ n, t.element? n = (s.element? n).map fun r =>
        if ∃ e ∈ s.elementsOf, e.cls = .remote ∧ e.station = a ∧ e.number = n then { r with unconfirmed := true }
        else r) ∧
      (∀ n, t.point? n = (s.point? n).map fun r =>
        if (∃ p ∈ s.pointsOf, p.station = a ∧ p.number = n) ∧ r.quality ≠ .never ∧ r.quality ≠ .stale then
          { r with quality := .stale, rate := none }
        else r) ∧
      t.elements.queue = s.elements.queue.map (fun o =>
        if o.state = .queued ∧ s.stationOf o = a then
          { o with unavailableAt := some (o.unavailableAt.getD (s.partTime.toNat + 120)) }
        else o) ∧
      t.elements.nextOrder = s.elements.nextOrder ∧ t.elements.nextTag = s.elements.nextTag ∧
      t.supply = s.supply ∧ t.incidents = s.incidents ∧ t.planner = s.planner ∧ t.register = s.register ∧
      t.store = s.store ∧ t.partTime = s.partTime ∧ t.power = s.power ∧ t.resetPin = s.resetPin ∧
      ∃ l : List NoticeBody, (∀ b ∈ l, ∃ n, b = .point n ∧ n.quality = .stale) ∧
        ((s.pointsOf.map (·.number)).Pairwise (· < ·) →
          l = (s.pointsOf.filter fun p => p.station = a).filterMap fun p => (s.point? p.number).bind fun r =>
            if r.quality = .never ∨ r.quality = .stale then none
            else some (.point
              { point := p.number, segment := p.segment, oldQuality := r.quality, quality := .stale
                oldBand := r.band, band := r.band, oldFalling := r.falling, falling := r.falling, f := r.f, p := r.p
                rate := none, underScale := r.underScale, overScale := r.overScale, expected := r.expected
                lastSample := r.lastSample })) ∧
        t.control = (startLine (passNotices (.station
          { address := st.address, oldState := .reporting, state := .silent, cause := .expiry
            localFlag := st.localFlag, lastAccepted := st.lastAccepted, basis := s.net.basis + 1 } :: l) s)).control

/-- HELD_SILENT is left by expiry, back to SILENT with a STATION notice and no other change, or by STATION_CLEAR, to REPORTING
with the timer, the LOCAL flag and the station's points as they stood, one increase of the basis and a STATION notice;
STATION_CLEAR in any other state is REFUSED with STATE (R37, R38; R171 with log 16 for the line). -/
def Obligations.HeldSilentIsLeftByExpiryOrClear : Prop :=
  (∀ (s : State) (a at' : Nat) (st : Station), s.power = .running → s.station? a = some st →
    st.state = .heldSilent → st.silenceAt = some at' → at' ≤ s.partTime.toNat →
    exec (.silenceExpiry a) s = .next (startLine (passNotice
      (.station { address := a, oldState := .heldSilent, state := .silent, cause := .expiry
                  localFlag := st.localFlag, lastAccepted := st.lastAccepted, basis := s.net.basis })
      { s with field := { s.field with stations := s.field.stations.map fun y =>
          if y.address = a then { st with state := .silent, silenceAt := none } else y } }))) ∧
  (∀ (s : State) (tag a : Nat) (img : Image) (x : StationTopo) (st : Station), Admits s tag →
    s.net.active = some img → img.station? a = some x → s.station? a = some st →
    (st.state = .heldSilent → s.elements.queue = [] →
      exec (.stationClear tag (.fits a)) s = .next (answered 0x23 tag (.done .nothing) (passNotice
        (.station { address := a, oldState := .heldSilent, state := .reporting, cause := .clear
                    localFlag := st.localFlag, lastAccepted := st.lastAccepted, basis := s.net.basis + 1 })
        { huntControl s with
          field := { s.field with stations := s.field.stations.map fun y =>
            if y.address = a then { st with state := .reporting } else y }
          net := { s.net with basis := s.net.basis + 1 } }))) ∧
    (st.state ≠ .heldSilent → exec (.stationClear tag (.fits a)) s =
      .next (answered 0x23 tag (.refused (.plain .state)) (huntControl s))))

/-! ### Elements and orders -/

/-- An ORDER is REFUSED in the order of R117's tests and then changes nothing: RANGE for an action that is neither CLOSE nor
OPEN, NOT_REMOTE, DUPLICATE for an order of the same action, IN_FLIGHT for one of the opposite action in flight, FULL beside 32
orders where the element is not at the target and has no order. One that passes takes the next order number that no order
holds (R116) and joins the queue as its newest order, with a timer of 120 s where its station is unavailable, and a dispatch
pass follows; a QUEUED order of the opposite action first ends CANCELLED and leaves the queue, with its ORDER notice and its
outcome handed to the Isolation Register (R118, R130). On an empty queue it is SENT at once, where its station is available
and its interlock passes, with the next tag, two sends remaining, a timer of 3 s and an ORDER frame handed over; where its
station is unavailable it waits QUEUED (R120, R123, R124). -/
def Obligations.OrderIsSentOrWaitsForItsStation : Prop :=
  ∀ (s : State) (tag : Nat) (a : OrderArgs) (img : Image) (e : Element) (r : ElementRec),
    Admits s tag → s.net.active = some img → img.element? a.element = some e → s.element? a.element = some r →
    let refused := fun (c : Code) =>
      exec (.order tag (.fits a)) s = .next (answered 0x30 tag (.refused (.plain c)) (huntControl s))
    (a.action ≠ 1 → a.action ≠ 2 → refused .range) ∧
    (∀ x : Action, (a.action = 1 ∧ x = .close) ∨ (a.action = 2 ∧ x = .opening) →
      let target : ElementState := match x with
        | .close => .closed
        | .opening => .opened
      let now := s.partTime.toNat
      let numberAfter := fun (n : Nat) => if n < 65535 then n + 1 else 1
      let made := fun (n : Nat) =>
        ({ number := n, element := a.element, action := x, origin := .host, override := a.override, state := .queued
           sendsLeft := 3, tag := 0, enqueuedAt := now, unavailableAt := none, ackAt := none
           strokeAt := none } : Order)
      let available := ∃ st, s.station? e.station = some st ∧ st.state = .reporting ∧ st.localFlag = false
      let accepted := fun (n : Nat) (t : State) =>
        exec (.order tag (.fits a)) s = .next (answered 0x30 tag (.accepted (.placed n)) t)
      (e.cls ≠ .remote → refused .notRemote) ∧
      (e.cls = .remote →
        (∀ old, s.orderOf? a.element = some old → old.action = x → refused .duplicate) ∧
        (∀ old, s.orderOf? a.element = some old → old.action ≠ x → old.state ≠ .queued → refused .inFlight) ∧
        (s.orderOf? a.element = none → r.state ≠ target → 32 ≤ s.elements.queue.length → refused .full) ∧
        (∀ (steps : Nat) (timer : Option Nat), s.orderOf? a.element = none → r.state ≠ target →
          s.elements.queue.length < 32 → steps ≤ 32 →
          (available → timer = none) → (¬available → timer = some (now + 120)) →
          let n := numberAfter^[steps] s.elements.nextOrder
          (∀ j, j < steps → ∃ y ∈ s.elements.queue, y.number = numberAfter^[j] s.elements.nextOrder) →
          (∀ y ∈ s.elements.queue, y.number ≠ n) →
          accepted n (inEvent (dispatchTop .plain)
            { huntControl s with elements := { s.elements with
                queue := s.elements.queue ++ [{ made n with unavailableAt := timer }]
                nextOrder := numberAfter n } })) ∧
        (∀ (old : Order) (steps : Nat) (timer : Option Nat), s.orderOf? a.element = some old → old.action ≠ x →
          old.state = .queued → r.state ≠ target → steps ≤ 32 →
          (available → timer = none) → (¬available → timer = some (now + 120)) →
          let left := s.elements.queue.filter fun y => y.number ≠ old.number
          let n := numberAfter^[steps] s.elements.nextOrder
          (∀ j, j < steps → ∃ y ∈ left, y.number = numberAfter^[j] s.elements.nextOrder) →
          (∀ y ∈ left, y.number ≠ n) →
          accepted n (inEvent
            (fun v => dispatchTop .plain (handOutcome old .cancelled (passNotice
              (.order { order := old.number, element := old.element, action := old.action, origin := old.origin
                        override := old.override, outcome := .cancelled, tag := old.tag, sendsUsed := 0
                        enqueuedAt := old.enqueuedAt, endedAt := now }) v)))
            { huntControl s with elements := { s.elements with
                queue := left ++ [{ made n with unavailableAt := timer }]
                nextOrder := numberAfter n } })) ∧
        (s.elements.queue = [] → r.state ≠ target →
          let n := s.elements.nextOrder
          (available →
            (x = .close → a.override = true ∨ ∀ m ∈ s.lostBy a.element, s.guardedSegment m = false) →
            (x = .opening → ∀ m ∈ s.gaining a.element, ∀ y, s.outage? m = some y → y.clearance ≠ none) →
            accepted n
              { huntControl s with
                elements := { s.elements with
                  queue := [{ made n with
                    state := .sent, sendsLeft := 2, tag := s.elements.nextTag, ackAt := some (now + 3) }]
                  nextOrder := numberAfter n
                  nextTag := if s.elements.nextTag < 255 then s.elements.nextTag + 1 else 1 }
                field := { s.field with out := s.field.out ++
                  [{ station := e.station, slot := e.slot, action := x, tag := s.elements.nextTag }] } }) ∧
          (¬available → accepted n
            { huntControl s with elements := { s.elements with
                queue := [{ made n with unavailableAt := some (now + 120) }]
                nextOrder := numberAfter n } }))))

/-- An ORDER whose element stands at the target ends ALREADY without joining the queue; where it replaces a QUEUED order of
the opposite action, that order ends CANCELLED first, and its departure is told to the Isolation Register and the Network
Model behind the ALREADY (R118, R130). ORDER_CANCEL ends a QUEUED order CANCELLED with its ORDER notice, leaves an order in
flight under its timers with IN_FLIGHT, and answers NOT_FOUND for a number no order holds (R131). An outcome handed to the
Isolation Register moves the entry of its element whose step the action serves, and nothing else (R158). -/
def Obligations.OrdersEndAlreadyOrCancelled : Prop :=
  (∀ (s : State) (tag : Nat) (a : OrderArgs) (x : Action) (img : Image) (e : Element) (r : ElementRec) (steps : Nat),
    Admits s tag → s.net.active = some img → img.element? a.element = some e → s.element? a.element = some r →
    e.cls = .remote → steps ≤ 32 →
    ((a.action = 1 ∧ x = .close ∧ r.state = .closed) ∨ (a.action = 2 ∧ x = .opening ∧ r.state = .opened)) →
    let numberAfter := fun (n : Nat) => if n < 65535 then n + 1 else 1
    let n := numberAfter^[steps] s.elements.nextOrder
    let firstFree := fun (l : List Order) =>
      (∀ j, j < steps → ∃ y ∈ l, y.number = numberAfter^[j] s.elements.nextOrder) ∧ ∀ y ∈ l, y.number ≠ n
    let already : NoticeBody := .order
      { order := n, element := a.element, action := x, origin := .host, override := a.override, outcome := .already
        tag := 0, sendsUsed := 0, enqueuedAt := s.partTime.toNat, endedAt := s.partTime.toNat }
    (s.orderOf? a.element = none → firstFree s.elements.queue →
      exec (.order tag (.fits a)) s = .next (answered 0x30 tag (.accepted (.placed n)) (passNotice already
        { huntControl s with elements := { s.elements with nextOrder := numberAfter n } }))) ∧
    (∀ old, s.orderOf? a.element = some old → old.action ≠ x → old.state = .queued →
      let left := s.elements.queue.filter fun y => y.number ≠ old.number
      firstFree left →
      exec (.order tag (.fits a)) s = .next (answered 0x30 tag (.accepted (.placed n)) (inEvent
        (fun v => activateTop .plain (recordPassTop .plain (passNotice already (handOutcome old .cancelled (passNotice
          (.order { order := old.number, element := old.element, action := old.action, origin := old.origin
                    override := old.override, outcome := .cancelled, tag := old.tag, sendsUsed := 0
                    enqueuedAt := old.enqueuedAt, endedAt := s.partTime.toNat }) v)))))
        { huntControl s with elements := { s.elements with queue := left, nextOrder := numberAfter n } })))) ∧
  (∀ (s : State) (tag n : Nat) (img : Image), Admits s tag → s.net.active = some img →
    (s.order? n = none → exec (.orderCancel tag (.fits n)) s =
      .next (answered 0x31 tag (.refused (.plain .notFound)) (huntControl s))) ∧
    (∀ o, s.order? n = some o → o.state ≠ .queued → exec (.orderCancel tag (.fits n)) s =
      .next (answered 0x31 tag (.refused (.plain .inFlight)) (huntControl s))) ∧
    (∀ o, s.order? n = some o → o.state = .queued → Quiet s → exec (.orderCancel tag (.fits n)) s =
      .next (answered 0x31 tag (.done .nothing)
        (passNotice (.order { order := o.number, element := o.element, action := o.action, origin := o.origin
                              override := o.override, outcome := .cancelled, tag := o.tag, sendsUsed := 0
                              enqueuedAt := o.enqueuedAt, endedAt := s.partTime.toNat })
          { huntControl s with elements := { s.elements with
              queue := s.elements.queue.filter fun y => y.number ≠ n } })))) ∧
  (∀ (s : State) (o : Order) (outcome : OrderOutcome),
    (o.origin = .host → handOutcome o outcome s = s) ∧
    (∀ i, o.origin = .isolation i ∨ o.origin = .restoration i →
      (s.recordOf i = none → handOutcome o outcome s = s) ∧
      (∀ k r, s.recordOf i = some k → s.record? k = some r →
        let reached := outcome = .done ∨ outcome = .already
        let moved := fun (x : EntryStep) (e : Entry) =>
          { e with step := x, last := some (.order outcome), stepTime := s.partTime.toNat }
        handOutcome o outcome s = { s with register := { records := s.register.records.set k (some
          { r with entries := r.entries.map fun e =>
              if e.element = o.element ∧ e.step = .toClose ∧ o.action = .close then
                moved (if reached then .closed else .closeFailed) e
              else if e.element = o.element ∧ e.step = .opening ∧ o.action = .opening then
                moved (if reached then .reopened else .openFailed) e
              else e }) } })))

/-- An ORDER_ACK of the order in flight at its station: ACCEPTED starts its stroke timer and makes it MOVING, DECLINED ends it
FAILED with the station's reason, and neither acts on a MOVING order. One with tag 0, another tag, a verdict or a reason
outside its set, or a body that does not fit has no effect (R43, R126; R171 with log 16 for the line). -/
def Obligations.AcknowledgementActsOnTheOrderInFlight : Prop :=
  (∀ (s : State) (tag a reason : Nat) (x : StationTopo) (o : Order) (e : Element), s.power = .running →
    s.stationTopo? a = some x → s.flightOf? a = some o → o.tag = tag → tag ≠ 0 →
    s.elemTopo? o.element = some e →
    (o.state = .sent → exec (.orderAck tag a (.fits { verdict := 1, reason := reason })) s =
      .next { huntField s with elements := { s.elements with queue := s.elements.queue.map fun y =>
        if y.number = o.number then
          { y with state := .moving, ackAt := none, strokeAt := some (s.partTime.toNat + e.stroke) }
        else y } }) ∧
    (∀ d, o.state = .sent → s.elements.queue = [o] → Quiet s →
      ((reason = 1 ∧ d = .localFlag) ∨ (reason = 2 ∧ d = .fault) ∨ (reason = 3 ∧ d = .busy)) →
      exec (.orderAck tag a (.fits { verdict := 2, reason := reason })) s = .next (startLine (passNotice
        (.order { order := o.number, element := o.element, action := o.action, origin := o.origin
                  override := o.override, outcome := .failed (.declined d), tag := o.tag
                  sendsUsed := 3 - o.sendsLeft, enqueuedAt := o.enqueuedAt, endedAt := s.partTime.toNat })
        { huntField s with elements := { s.elements with queue := [] } }))) ∧
    (∀ v, o.state = .moving → exec (.orderAck tag a (.fits { verdict := v, reason := reason })) s =
      .next (huntField s))) ∧
  (∀ (s : State) (tag a : Nat) (body : Body AckArgs), s.power = .running →
    (tag = 0 ∨ (∃ b, body = .misfit b) ∨ (∃ v r, body = .fits { verdict := v, reason := r } ∧
      (v = 0 ∨ 2 < v ∨ (v = 2 ∧ (r = 0 ∨ 3 < r)))) ∨ (∀ o, s.flightOf? a = some o → o.tag ≠ tag)) →
    exec (.orderAck tag a body) s = .next (huntField s))

/-- The three timers of an order: a QUEUED order whose station stayed unavailable ends FAILED with STATION_UNAVAILABLE; a SENT
order is sent again with its tag while sends remain and its interlock passes, ends FAILED with INTERLOCK where a resend does
not pass it, and ends FAILED with NO_ACK when no send remains; a MOVING order ends FAILED with STROKE_TIMEOUT, with its
element's fault mark set, one increase of the basis and an ELEMENT notice ahead of the ORDER notice, or with the ORDER notice
alone where the mark was set already (R113, R121 to R125, R128; R171 with log 16 for the line). -/
def Obligations.OrderTimersResendOrFail : Prop :=
  ∀ (s : State) (n at' : Nat) (o : Order), s.power = .running → s.order? n = some o → at' ≤ s.partTime.toNat →
    let ended := fun (reason : FailReason) => NoticeBody.order
      { order := o.number, element := o.element, action := o.action, origin := o.origin, override := o.override
        outcome := .failed reason, tag := o.tag, sendsUsed := if o.state = .queued then 0 else 3 - o.sendsLeft
        enqueuedAt := o.enqueuedAt, endedAt := s.partTime.toNat }
    (o.state = .queued → o.unavailableAt = some at' → Quiet s →
      exec (.stationUnavailableExpiry n) s = .next (startLine (passNotice (ended .stationUnavailable)
        { s with elements := { s.elements with queue := s.elements.queue.filter fun y => y.number ≠ n } }))) ∧
    (∀ e, o.state = .sent → o.ackAt = some at' → 0 < o.sendsLeft → interlock s o = none →
      s.elemTopo? o.element = some e →
      exec (.acknowledgementExpiry n) s = .next { s with
        elements := { s.elements with queue := s.elements.queue.map fun y =>
          if y.number = n then { y with sendsLeft := y.sendsLeft - 1, ackAt := some (s.partTime.toNat + 3) } else y }
        field := { s.field with out := s.field.out ++
          [{ station := e.station, slot := e.slot, action := o.action, tag := o.tag }] } }) ∧
    (∀ m before rest, o.state = .sent → o.ackAt = some at' → 0 < o.sendsLeft → s.elements.queue = [o] → Quiet s →
      ((o.action = .close ∧ o.override = false ∧ s.lostBy o.element = before ++ m :: rest ∧
          s.guardedSegment m = true ∧ ∀ x ∈ before, s.guardedSegment x = false) ∨
        (o.action = .opening ∧ s.gaining o.element = before ++ m :: rest ∧
          (∃ y, s.outage? m = some y ∧ y.clearance = none) ∧
          ∀ x ∈ before, ∀ y, s.outage? x = some y → y.clearance ≠ none)) →
      exec (.acknowledgementExpiry n) s = .next (startLine (passNotice (ended (.interlock m))
        { s with elements := { s.elements with queue := [] } }))) ∧
    (o.state = .sent → o.ackAt = some at' → o.sendsLeft = 0 → s.elements.queue = [o] → Quiet s →
      exec (.acknowledgementExpiry n) s = .next (startLine (passNotice (ended .noAck)
        { s with elements := { s.elements with queue := [] } }))) ∧
    (∀ r, o.state = .moving → o.strokeAt = some at' → s.elements.queue = [o] → Quiet s →
      s.element? o.element = some r → r.faultMark = true →
      exec (.strokeExpiry n) s = .next (startLine (passNotice (ended .strokeTimeout)
        { s with elements := { s.elements with queue := [] } }))) ∧
    (∀ r, o.state = .moving → o.strokeAt = some at' → s.elements.queue = [o] → Quiet s →
      s.element? o.element = some r → r.faultMark = false →
      exec (.strokeExpiry n) s = .next (startLine (passNotice (ended .strokeTimeout) (passNotice
        (.element { element := o.element, oldState := r.state, state := r.state, direction := r.direction
                    source := r.source, unconfirmed := r.unconfirmed, faultMark := true, changedAt := r.changedAt
                    cause := .stroke, passChanged := false, origin := none, basis := s.net.basis + 1 })
        { s with
          net := { s.net with basis := s.net.basis + 1 }
          elements := { s.elements with
            queue := []
            table := s.elements.table.map fun y =>
              if y.number = o.element then { r with faultMark := true } else y } }))))

/-- A delivered position gives the element the state of its code, the direction of the order in flight to a TRAVEL, the fault
mark to a FAULT, source STATION, and clears unconfirmed; the last change time moves with the state or the direction
(R109; that a FAULT that repeats sets a mark cleared since is log 35). With no isolation in hand and no image waiting, the
steps of R110 follow: the basis is one more for a change of passability and one more for a mark set from clear, the ELEMENT
notice is sent where state, direction or mark changed (R115), a change of passability makes one recompute with the incident of
an order in flight as its origin, and the element's order is judged: in flight, it ends DONE at its target and FAILED with
ELEMENT_FAULT at FAULT, each with its ORDER notice and a dispatch pass, and a SENT one is made MOVING by a TRAVEL with its
stroke timer running; QUEUED, it ends ALREADY at its target; any other position leaves it (R126, R127, R129, R130). -/
def Obligations.PositionsSetTheElementRecord : Prop :=
  (∀ (now : Nat) (c : PositionCode) (o : Option Order) (r : ElementRec),
    let x := takePosition now c o r
    x.number = r.number ∧ x.source = .station ∧ x.unconfirmed = false ∧
    (x.faultMark = true ↔ r.faultMark = true ∨ c = .fault) ∧
    (c = .opened → x.state = .opened ∧ x.direction = none) ∧
    (c = .closed → x.state = .closed ∧ x.direction = none) ∧
    (c = .stopped → x.state = .mid ∧ x.direction = none) ∧
    (c = .fault → x.state = .fault ∧ x.direction = none) ∧
    (c = .travel → x.state = .moving ∧
      (∀ y, o = some y → y.state ≠ .queued → y.action = .close → x.direction = some .closing) ∧
      (∀ y, o = some y → y.state ≠ .queued → y.action = .opening → x.direction = some .opening) ∧
      ((∀ y, o = some y → y.state = .queued) → x.direction = none)) ∧
    (x.state = r.state → x.direction = r.direction → x.changedAt = r.changedAt) ∧
    (x.state ≠ r.state ∨ x.direction ≠ r.direction → x.changedAt = now)) ∧
  (∀ (s : State) (n : Nat) (c : PositionCode) (r : ElementRec), Quiet s → s.element? n = some r →
    let now := s.partTime.toNat
    let new := takePosition now c (s.orderOf? n) r
    let origin : Option Nat := match s.orderOf? n with
      | none => none
      | some o => if o.state = .queued then none
        else match o.origin with
          | .host => none
          | .isolation i => some i
          | .restoration i => some i
    let changed := (r.state = .closed ∧ new.state ≠ .closed) ∨ (r.state ≠ .closed ∧ new.state = .closed)
    let basis := (s.net.basis + if changed then 1 else 0) + if r.faultMark = false ∧ new.faultMark = true then 1 else 0
    let written : State :=
      { s with
        net := { s.net with basis := basis }
        elements := { s.elements with table := s.elements.table.map fun z => if z.number = n then new else z } }
    let told := if new.state = r.state ∧ new.direction = r.direction ∧ new.faultMark = r.faultMark then written
      else passNotice (.element
        { element := n, oldState := r.state, state := new.state, direction := new.direction, source := .station
          unconfirmed := false, faultMark := new.faultMark, changedAt := new.changedAt, cause := .report
          passChanged := decide changed, origin := if changed then origin else none, basis := basis }) written
    let v := if changed then recompute origin n id told else told
    let after := positionEvent (hooksTop .plain) n c s
    (s.orderOf? n = none → after = v) ∧
    (∀ o, s.orderOf? n = some o →
      let target : ElementState := match o.action with
        | .close => .closed
        | .opening => .opened
      let ended := fun (outcome : OrderOutcome) => passNotice
        (.order { order := o.number, element := n, action := o.action, origin := o.origin, override := o.override
                  outcome := outcome, tag := o.tag, sendsUsed := if o.state = .queued then 0 else 3 - o.sendsLeft
                  enqueuedAt := o.enqueuedAt, endedAt := now })
        { v with elements := { v.elements with queue := v.elements.queue.filter fun y => y.number ≠ o.number } }
      (o.state ≠ .queued → new.state = target → after = dispatchTop .plain (ended .done)) ∧
      (o.state ≠ .queued → c = .fault → after = dispatchTop .plain (ended (.failed .elementFault))) ∧
      (∀ e, o.state = .sent → c = .travel → s.elemTopo? n = some e → after =
        { v with elements := { v.elements with queue := v.elements.queue.map fun y =>
            if y.number = o.number then
              { y with state := .moving, ackAt := none, strokeAt := some (now + e.stroke) }
            else y } }) ∧
      (o.state ≠ .queued → new.state ≠ target → c ≠ .fault → ¬(o.state = .sent ∧ c = .travel) → after = v) ∧
      (o.state = .queued → new.state = target → after = ended .already) ∧
      (o.state = .queued → new.state ≠ target → after = v)))

/-- A crew report for a MANUAL element, or a REMOTE one whose station is not REPORTING, with no isolation in hand, writes the
state with source CREW, sends its ELEMENT notice, and where the passability changed increases the basis and makes one
recompute with the incident of an order in flight as its origin; an order whose target it gives then ends, DONE in flight with
a dispatch pass, ALREADY while QUEUED (R127, R129); one with another position is REFUSED with RANGE, and one for a REMOTE
element of a REPORTING station with REMOTE_REPORTED. ELEMENT_CLEAR_FAULT clears a set mark with one increase of the basis and a notice, and changes nothing
where the mark is clear. A crew report handed to the Isolation Register moves the entry of its element by R159's table (R110,
R112, R113, R115, R159). -/
def Obligations.CrewReportsAndFaultClearsWriteTheElement : Prop :=
  (∀ (s : State) (tag : Nat) (a : CrewArgs) (y : ElementState) (img : Image) (e : Element) (r : ElementRec),
    Admits s tag → s.net.active = some img → img.element? a.element = some e → s.element? a.element = some r →
    ((a.position = 1 ∧ y = .opened) ∨ (a.position = 2 ∧ y = .closed)) →
    (¬(e.cls = .remote ∧ ∃ st, s.station? e.station = some st ∧ st.state = .reporting) → Quiet s →
      let origin : Option Nat := match s.orderOf? a.element with
        | none => none
        | some o => if o.state = .queued then none
          else match o.origin with
            | .host => none
            | .isolation i => some i
            | .restoration i => some i
      let changed := (r.state = .closed ∧ y = .opened) ∨ (r.state ≠ .closed ∧ y = .closed)
      let at' := if r.state = y then r.changedAt else s.partTime.toNat
      let basis := if changed then s.net.basis + 1 else s.net.basis
      let told := passNotice
        (.element { element := a.element, oldState := r.state, state := y, direction := none, source := .crew
                    unconfirmed := false, faultMark := r.faultMark, changedAt := at', cause := .crew
                    passChanged := decide changed, origin := if changed then origin else none, basis := basis })
      let u : State :=
        { huntControl s with
          net := { s.net with basis := basis }
          elements := { s.elements with table := s.elements.table.map fun z =>
            if z.number = a.element then
              { r with state := y, direction := none, source := .crew, unconfirmed := false, changedAt := at' }
            else z } }
      let reported := fun (v : State) => if changed then recompute origin a.element id (told v) else told v
      ((∀ o, s.orderOf? a.element = some o →
          ¬(o.action = .close ∧ y = .closed) ∧ ¬(o.action = .opening ∧ y = .opened)) →
        exec (.crewReport tag (.fits a)) s = .next (answered 0x32 tag (.done .nothing)
          (if changed then inEvent reported u else told u))) ∧
      (∀ o, s.orderOf? a.element = some o → (o.action = .close ∧ y = .closed) ∨ (o.action = .opening ∧ y = .opened) →
        let ended := fun (outcome : OrderOutcome) (v : State) => passNotice
          (.order { order := o.number, element := a.element, action := o.action, origin := o.origin
                    override := o.override, outcome := outcome, tag := o.tag
                    sendsUsed := if o.state = .queued then 0 else 3 - o.sendsLeft
                    enqueuedAt := o.enqueuedAt, endedAt := s.partTime.toNat })
          { v with elements := { v.elements with queue := v.elements.queue.filter fun z => z.number ≠ o.number } }
        exec (.crewReport tag (.fits a)) s = .next (answered 0x32 tag (.done .nothing) (inEvent
          (fun v => if o.state = .queued then ended .already (reported v)
            else dispatchTop .plain (ended .done (reported v))) u)))) ∧
    (e.cls = .remote → (∃ st, s.station? e.station = some st ∧ st.state = .reporting) →
      exec (.crewReport tag (.fits a)) s =
        .next (answered 0x32 tag (.refused (.plain .remoteReported)) (huntControl s)))) ∧
  (∀ (s : State) (tag : Nat) (a : CrewArgs) (img : Image) (e : Element) (r : ElementRec), Admits s tag →
    s.net.active = some img → img.element? a.element = some e → s.element? a.element = some r →
    a.position ≠ 1 → a.position ≠ 2 → exec (.crewReport tag (.fits a)) s =
      .next (answered 0x32 tag (.refused (.plain .range)) (huntControl s))) ∧
  (∀ (s : State) (tag n : Nat) (img : Image) (e : Element) (r : ElementRec), Admits s tag →
    s.net.active = some img → img.element? n = some e → s.element? n = some r →
    (r.faultMark = false → exec (.elementClearFault tag (.fits n)) s =
      .next (answered 0x33 tag (.done .nothing) (huntControl s))) ∧
    (r.faultMark = true → exec (.elementClearFault tag (.fits n)) s =
      .next (answered 0x33 tag (.done .nothing) (passNotice
        (.element { element := n, oldState := r.state, state := r.state, direction := r.direction
                    source := r.source, unconfirmed := r.unconfirmed, faultMark := false, changedAt := r.changedAt
                    cause := .clearFault, passChanged := false, origin := none, basis := s.net.basis + 1 })
        { huntControl s with
          net := { s.net with basis := s.net.basis + 1 }
          elements := { s.elements with table := s.elements.table.map fun z =>
            if z.number = n then { r with faultMark := false } else z } })))) ∧
  (∀ (s : State) (element : Nat) (x : Action),
    (s.recordHolding element = none → handCrew element x s = s) ∧
    (∀ k r, s.recordHolding element = some k → s.record? k = some r →
      let moved := fun (y : EntryStep) (l : LastResult) (e : Entry) =>
        { e with step := y, last := some l, stepTime := s.partTime.toNat }
      handCrew element x s = { s with register := { records := s.register.records.set k (some
        { r with entries := r.entries.map fun e =>
            if e.element ≠ element then e
            else if e.step = .crewClose then
              if x = .close then moved .closed .crewClosed e else moved .closeFailed .crewOpen e
            else if e.step = .crewOpen then
              if x = .close then moved .openFailed .crewClosed e else moved .reopened .crewOpen e
            else if e.step = .openFailed ∧ x = .opening then moved .reopened .crewOpen e
            else e }) } }))

/-- At a dispatch pass a CLOSE without override that would lose a protected segment, and an OPEN that would bring a segment
with an uncleared outage entry into reach, are not sent: the order ends FAILED with INTERLOCK and the first such segment
(R121, R122). A pass with no isolation in hand takes the oldest eligible QUEUED order, sends it or ends it so, and goes on with
the rest; it ends where no QUEUED order is eligible, which asks for a free slot of four and for the order's station to be
REPORTING, not LOCAL and without an order in flight (R120, R123). -/
def Obligations.InterlocksFailTheOrderInsteadOfSendingIt : Prop :=
  (∀ (s : State) (o : Order) (st : Station) (n : Nat) (before rest : List Nat), Quiet s →
    s.elements.queue = [o] → o.state = .queued → s.station? (s.stationOf o) = some st → st.state = .reporting →
    st.localFlag = false →
    ((o.action = .close ∧ o.override = false ∧ s.lostBy o.element = before ++ n :: rest ∧
        s.guardedSegment n = true ∧ ∀ m ∈ before, s.guardedSegment m = false) ∨
      (o.action = .opening ∧ s.gaining o.element = before ++ n :: rest ∧
        (∃ y, s.outage? n = some y ∧ y.clearance = none) ∧
        ∀ m ∈ before, ∀ y, s.outage? m = some y → y.clearance ≠ none)) →
    dispatchTop .plain s = passNotice
      (.order { order := o.number, element := o.element, action := o.action, origin := o.origin
                override := o.override, outcome := .failed (.interlock n), tag := o.tag, sendsUsed := 0
                enqueuedAt := o.enqueuedAt, endedAt := s.partTime.toNat })
      { s with elements := { s.elements with queue := [] } }) ∧
  (∀ s : State, Quiet s → (s.elements.queue.map (·.number)).Nodup →
    let eligible := fun (o : Order) => o.state = .queued ∧
      (s.elements.queue.filter fun y => y.state ≠ .queued).length < 4 ∧
      (∃ st, s.station? (s.stationOf o) = some st ∧ st.state = .reporting ∧ st.localFlag = false) ∧
      ∀ y ∈ s.elements.queue, y.state ≠ .queued → s.stationOf y ≠ s.stationOf o
    ((∀ o ∈ s.elements.queue, ¬eligible o) → dispatchTop .plain s = s) ∧
    (∀ (older newer : List Order) (o : Order), s.elements.queue = older ++ o :: newer → (∀ y ∈ older, ¬eligible y) →
      eligible o →
      let barred := fun (m : Nat) =>
        (o.action = .close ∧ o.override = false ∧ m ∈ s.lostBy o.element ∧ s.guardedSegment m = true) ∨
        (o.action = .opening ∧ m ∈ s.gaining o.element ∧ ∃ y, s.outage? m = some y ∧ y.clearance = none)
      let now := s.partTime.toNat
      (∀ e, s.elemTopo? o.element = some e → (∀ m, ¬barred m) → dispatchTop .plain s = dispatchTop .plain
        { s with
          elements := { s.elements with
            queue := older ++ { o with
              state := .sent, tag := s.elements.nextTag, sendsLeft := 2, unavailableAt := none
              ackAt := some (now + 3) } :: newer
            nextTag := if s.elements.nextTag < 255 then s.elements.nextTag + 1 else 1 }
          field := { s.field with out := s.field.out ++
            [{ station := e.station, slot := e.slot, action := o.action, tag := s.elements.nextTag }] } }) ∧
      (∀ (m : Nat) (before rest : List Nat), barred m →
        s.lostBy o.element = before ++ m :: rest ∧ o.action = .close ∨
          s.gaining o.element = before ++ m :: rest ∧ o.action = .opening →
        (∀ x ∈ before, ¬barred x) →
        dispatchTop .plain s = dispatchTop .plain (passNotice
          (.order { order := o.number, element := o.element, action := o.action, origin := o.origin
                    override := o.override, outcome := .failed (.interlock m), tag := o.tag, sendsUsed := 0
                    enqueuedAt := o.enqueuedAt, endedAt := now })
          { s with elements := { s.elements with queue := older ++ newer } }))))

/-- At every step the order queue keeps its bounds: at most 32 orders, no two for one element or of one number, at most four
in flight and no two of them at one station, tags within 1..255 (R116, R120, R123). -/
def Obligations.OrderQueueBoundsAreKeptByEveryStep : Prop :=
  ∀ s t : State, QueueSound s → step s = .next t → QueueSound t

/-! ### Supply -/

/-- A recompute moves each segment by R70's table, opens one entry for each segment that leaves LIVE with the values of R78,
and changes no other entry (R70, R78). It then passes the OUTAGE notice of every move, in ascending segment number, OPENED for
a segment that leaves LIVE and STATE for any other (R82), makes the supply-loss event of the segments that entered CUT only
where there is no origin incident, and hands each move to the Isolation Register (R69, R71), which has nothing to do with no
isolation in hand. -/
def Obligations.RecomputeMovesSegmentsAndOpensEntries : Prop :=
  (∀ (s : State) (img : Image) (origin : Option Nat) (element : Nat), s.net.active = some img → NumbersDistinct img →
    s.supply.segs.map (·.segment) = img.segments.map (·.number) →
    (∀ x ∈ s.supply.segs, x.state = .live → s.outage? x.segment = none) →
    let t := recomputeTables origin element s
    let now := s.partTime.toNat
    t.supply.segs = s.supply.segs.map (fun x =>
      if x.segment ∈ s.reachable then
        if x.state = .cut ∨ x.state = .depressurized then
          { x with state := .recharging, stateTime := now, reconnectedAt := some now, sampled := [], ventAt := none
                   rechargeAt := some (now + s.supply.globals.recharge) }
        else x
      else if x.state = .live ∨ x.state = .recharging then
        { x with state := .cut, stateTime := now, cutTime := some now, sampled := []
                 ventAt := some (now + s.supply.globals.vent), rechargeAt := none }
      else x) ∧
    (∀ seg ∈ img.segments, ∀ x, s.seg? seg.number = some x →
      (x.state = .live → seg.number ∉ s.reachable → t.outage? seg.number = some
        { segment := seg.number, openedAt := now
          cause := match origin with
            | some i => .planned i
            | none => .unplanned element
          customers := seg.customers, minutes := 0, minuteAt := now + 60, clearance := none }) ∧
      (¬(x.state = .live ∧ seg.number ∉ s.reachable) → t.outage? seg.number = s.outage? seg.number)) ∧
    t.net = s.net ∧ t.elements = s.elements ∧ t.points = s.points ∧ t.supply.globals = s.supply.globals ∧
    t.incidents = s.incidents ∧ t.register = s.register ∧ t.control = s.control) ∧
  (∀ (s : State) (origin : Option Nat) (element : Nat),
    let moves : List (Nat × SupplyState × SupplyState) := s.supply.segs.filterMap fun x =>
      if x.segment ∈ s.reachable then
        if x.state = .cut ∨ x.state = .depressurized then some (x.segment, x.state, .recharging) else none
      else if x.state = .live ∨ x.state = .recharging then some (x.segment, x.state, .cut)
      else none
    let t := recomputeTables origin element s
    let told := moves.foldl (fun u m => match t.outage? m.1 with
      | none => u
      | some o => passNotice (.outage
          { segment := o.segment, event := if m.2.1 = .live then .opened else .state, oldState := m.2.1, state := m.2.2
            openedAt := o.openedAt, cause := o.cause, customers := o.customers
            minutes := min (o.customers * ((s.partTime.toNat - o.openedAt) / 60)) 4294967295
            clearance := o.clearance, basis := s.net.basis }) u) t
    let raised := if origin = none then
        supplyLoss ((moves.filter fun m => m.2.2 = .cut).map (·.1)) element told
      else told
    (∀ hook : State → State, recompute origin element hook s = moves.foldl (fun u _ => hook u) raised) ∧
    recompute origin element id s = raised ∧
    (Quiet s → recompute origin element (recordPassTop .plain) s = raised))

/-- At every step a segment is LIVE or RECHARGING exactly when gas reaches it, and has an outage entry exactly when it is not
LIVE, never two (R68, R77). -/
def Obligations.SupplyAgreesWithReachabilityAtEveryStep : Prop :=
  ∀ s t : State, SupplySound s → step s = .next t → SupplySound t

/-- The judgements of a segment: CUT goes to DEPRESSURIZED, with its OUTAGE notice, where no point is GOOD and the vent time has
run, or every GOOD point has been sampled and stands below the dead limit; RECHARGING goes to LIVE, its entry closed with its
figure, where no point is GOOD and the recharge time has run, or every GOOD point has been sampled and stands at NORMAL or
above (R73, R74). A sample joins the sampled set of a CUT or RECHARGING segment and makes that judgement (R72); a timer's
expiry makes it, and a segment it does not move starts the timer again (R75; R171 with log 16 for the line). A minute adds
the entry's customers, saturated (R79). OUTAGE_CLEAR records the first clearance of a CUT or DEPRESSURIZED segment, and is
REFUSED with STATE in LIVE and RECHARGING (R80). -/
def Obligations.SupplyTimersJudgeByTimeWithoutAGoodPoint : Prop :=
  (∀ (s : State) (n : Nat) (x : SegSupply), s.seg? n = some x →
    let now := s.partTime.toNat
    let good := fun (r : PointRec) =>
      (∃ t ∈ s.pointsOf, t.segment = n ∧ s.point? t.number = some r) ∧ r.quality = .good
    let empties := fun (sampled : List Nat) (cutAt : Nat) =>
      ((∀ r, ¬good r) ∧ cutAt + s.supply.globals.vent ≤ now) ∨
        ((∃ r, good r) ∧ ∀ r, good r → r.number ∈ sampled ∧ ∃ f, r.f = some f ∧ f < (s.supply.globals.dead : Int))
    let refills := fun (sampled : List Nat) (backAt : Nat) =>
      ((∀ r, ¬good r) ∧ backAt + s.supply.globals.recharge ≤ now) ∨
        ((∃ r, good r) ∧ ∀ r, good r → r.number ∈ sampled ∧
          (r.band = .normal ∨ r.band = .high ∨ r.band = .highHigh))
    let changed := fun (g : SegSupply → SegSupply) => s.supply.segs.map fun y => if y.segment = n then g y else y
    let told := fun (o : Outage) (event : OutageEvent) (old new : SupplyState) =>
      passNotice (.outage
        { segment := o.segment, event := event, oldState := old, state := new, openedAt := o.openedAt, cause := o.cause
          customers := o.customers, minutes := min (o.customers * ((now - o.openedAt) / 60)) 4294967295
          clearance := o.clearance, basis := s.net.basis }) s
    let emptied := fun (o : Outage) (g : SegSupply → SegSupply) =>
      ({ told o .state .cut .depressurized with supply := { s.supply with
          segs := changed fun y => { g y with state := .depressurized, stateTime := now, ventAt := none } } } : State)
    let refilled := fun (o : Outage) =>
      ({ told o .closed .recharging .live with supply := { s.supply with
          outages := s.supply.outages.filter fun y => y.segment ≠ n
          segs := changed fun y =>
            { y with state := .live, stateTime := now, cutTime := none, reconnectedAt := none, sampled := []
                     rechargeAt := none } } } : State)
    (∀ due cutAt, s.power = .running → x.state = .cut → x.ventAt = some due → due ≤ now → x.cutTime = some cutAt →
      (∀ o, empties x.sampled cutAt → Quiet s → s.outage? n = some o →
        exec (.ventTimerExpiry n) s = .next (startLine (emptied o id))) ∧
      (¬empties x.sampled cutAt → exec (.ventTimerExpiry n) s = .next { s with supply := { s.supply with
        segs := changed fun y => { y with ventAt := some (now + s.supply.globals.vent) } } })) ∧
    (∀ due backAt, s.power = .running → x.state = .recharging → x.rechargeAt = some due → due ≤ now →
      x.reconnectedAt = some backAt →
      (∀ o, refills x.sampled backAt → Quiet s → s.outage? n = some o →
        exec (.rechargeTimerExpiry n) s = .next (startLine (refilled o))) ∧
      (¬refills x.sampled backAt → exec (.rechargeTimerExpiry n) s = .next { s with supply := { s.supply with
        segs := changed fun y => { y with rechargeAt := some (now + s.supply.globals.recharge) } } })) ∧
    (∀ (hook : State → State) (p : Nat), x.state = .live ∨ x.state = .depressurized → sampleEvent hook p n s = s) ∧
    (∀ (hook : State → State) (p : Nat), x.state = .cut ∨ x.state = .recharging →
      (s.supply.segs.map (·.segment)).Nodup →
      ∃ l : List Nat, (∀ m, m ∈ l ↔ m = p ∨ m ∈ x.sampled) ∧
        let joined := ({ s with supply := { s.supply with segs := changed fun y => { y with sampled := l } } } : State)
        (∀ cutAt, x.state = .cut → x.cutTime = some cutAt →
          (∀ o, empties l cutAt → s.outage? n = some o →
            sampleEvent hook p n s = hook (emptied o fun y => { y with sampled := l })) ∧
          (¬empties l cutAt → sampleEvent hook p n s = joined)) ∧
        (∀ backAt, x.state = .recharging → x.reconnectedAt = some backAt →
          (∀ o, refills l backAt → s.outage? n = some o → sampleEvent hook p n s = hook (refilled o)) ∧
          (¬refills l backAt → sampleEvent hook p n s = joined)))) ∧
  (∀ (s : State) (n : Nat) (o : Outage), s.power = .running → s.outage? n = some o →
    o.minuteAt ≤ s.partTime.toNat →
    exec (.customerMinute n) s = .next { s with supply := { s.supply with
      outages := s.supply.outages.map fun y =>
        if y.segment = n then
          { y with minutes := min (y.minutes + y.customers) 4294967295, minuteAt := y.minuteAt + 60 }
        else y } }) ∧
  (∀ (s : State) (tag n : Nat) (img : Image) (seg : Segment) (x : SegSupply), Admits s tag →
    s.net.active = some img → img.segment? n = some seg → s.seg? n = some x →
    let now := s.partTime.toNat
    (∀ o, s.outage? n = some o → Quiet s → x.state = .cut ∨ x.state = .depressurized → o.clearance = none →
      exec (.outageClear tag (.fits n)) s = .next (answered 0x40 tag (.done .nothing) (passNotice
        (.outage { segment := o.segment, event := .cleared, oldState := x.state, state := x.state
                   openedAt := o.openedAt, cause := o.cause, customers := o.customers
                   minutes := min (o.customers * ((now - o.openedAt) / 60)) 4294967295
                   clearance := some now, basis := s.net.basis })
        { huntControl s with supply := { s.supply with outages := s.supply.outages.map fun y =>
          if y.segment = n then { o with clearance := some now } else y } }))) ∧
    (∀ o, s.outage? n = some o → x.state = .cut ∨ x.state = .depressurized → o.clearance ≠ none →
      exec (.outageClear tag (.fits n)) s = .next (answered 0x40 tag (.done .nothing) (huntControl s))) ∧
    (x.state = .live ∨ x.state = .recharging →
      exec (.outageClear tag (.fits n)) s =
        .next (answered 0x40 tag (.refused (.plain .state)) (huntControl s))))

/-! ### Incidents -/

/-- A CALL of number 0 or of a class outside the five is REFUSED with RANGE, and then one whose number stands in the call list
of a non-CLOSED incident with DUPLICATE, and changes nothing (R89, R90). A CALL that finds no incident to join creates one in
the lowest free slot, or in place of the earliest CLOSED incident, with the next number that no other incident holds and the
values of R93, and is REFUSED with FULL where the table has neither (R87, R93); one that does joins it by the six steps of
R94, with cluster escalation (R95) and the deadline by the limits of R96. What the creation notice says (old grade and state
absent, the call's own entry, joined as CALL) is the model's choice of log 10. -/
def Obligations.CallsCreateOrJoinAnIncident : Prop :=
  (attendanceLimit 1 = 1800 ∧ attendanceLimit 2 = 3600 ∧ attendanceLimit 3 = 7200 ∧ attendanceLimit 4 = 43200) ∧
  (∀ (s : State) (tag : Nat) (a : CallArgs) (img : Image) (seg : Segment), Admits s tag → s.net.active = some img →
    img.segment? a.segment = some seg →
    let refused := fun (c : Code) =>
      exec (.call tag (.fits a)) s = .next (answered 0x50 tag (.refused (.plain c)) (huntControl s))
    (a.number = 0 ∨ a.cls = 0 ∨ 5 < a.cls → refused .range) ∧
    (∀ i ∈ s.incidentList, ∀ c ∈ i.calls, a.number ≠ 0 → 1 ≤ a.cls → a.cls ≤ 5 → i.state ≠ .closed →
      c.number = a.number → refused .duplicate)) ∧
  (∀ (s : State) (tag : Nat) (a : CallArgs) (img : Image) (seg : Segment) (cls : CallClass), Admits s tag →
    s.net.active = some img → img.segment? a.segment = some seg → CallClass.ofCode a.cls = some cls → a.number ≠ 0 →
    (∀ i ∈ s.incidentList, i.state ≠ .closed → ∀ c ∈ i.calls, c.number ≠ a.number) →
    let now := s.partTime.toNat
    let c : CallEntry := { number := a.number, cls := cls, time := now - min a.age 3600 }
    let grade : Nat := match cls with
      | .damage => 1
      | .inside => 2
      | .outside => 3
      | .faint => 4
      | .noGas => 3
    let cause : Causes := match cls with
      | .noGas => if (s.seg? a.segment).map (·.state) = some .live then { leak := false, pressure := true, supply := false }
        else { leak := false, pressure := false, supply := true }
      | _ => { leak := true, pressure := false, supply := false }
    let unmet := ∀ i ∈ s.incidentList, i.state ≠ .closed →
      i.segment ≠ a.segment ∧ valveNeighbours img a.segment i.segment = false
    let lowestFree := fun (k : Nat) =>
      s.incidents.slots[k]? = some none ∧ ∀ j, j < k → s.incidents.slots[j]? ≠ some none
    let earliestClosed := fun (k : Nat) => (∀ j : Nat, s.incidents.slots[j]? ≠ some none) ∧
      ∃ i t, s.incidents.slots[k]? = some (some i) ∧ i.state = .closed ∧ i.closedAt = some t ∧
        ∀ (j : Nat) x, j ≠ k → s.incidents.slots[j]? = some (some x) → x.state = .closed →
          ∃ u, x.closedAt = some u ∧ (t < u ∨ (t = u ∧ i.number < x.number))
    let heldBeside := fun (k m : Nat) =>
      ∃ (j : Nat) (x : Incident), j ≠ k ∧ s.incidents.slots[j]? = some (some x) ∧ x.number = m
    let numberAfter := fun (n : Nat) => if n < 65535 then n + 1 else 1
    (unmet → (∀ j : Nat, s.incidents.slots[j]? ≠ some none) → (∀ i ∈ s.incidentList, i.state ≠ .closed) →
      exec (.call tag (.fits a)) s = .next (answered 0x50 tag (.refused (.plain .full)) (huntControl s))) ∧
    (∀ k steps : Nat, unmet → lowestFree k ∨ earliestClosed k → steps ≤ 64 →
      (∀ j, j < steps → heldBeside k (numberAfter^[j] s.incidents.nextNumber)) →
      ¬heldBeside k (numberAfter^[steps] s.incidents.nextNumber) →
      let d := c.time + attendanceLimit grade
      let i : Incident :=
        { number := numberAfter^[steps] s.incidents.nextNumber, causes := cause, segment := a.segment, grade := grade
          state := .opened
          createdAt := now, baseTime := c.time, deadline := some d, overdue := decide (d ≤ now)
          clusterEscalated := false, totalCalls := 1, calls := [c], trigPoint := none, trigElement := none
          isoStatus := .none, isoIndex := none, lastPlan := none, closedAt := none }
      exec (.call tag (.fits a)) s = .next (answered 0x50 tag (.done (.call i.number true grade i.overdue))
        (passNotices (incidentNotice none i false (some .call) (some c)).toList
          { huntControl s with incidents := { s.incidents with
              slots := s.incidents.slots.set k (some i)
              nextNumber := numberAfter i.number } }))) ∧
    (∀ j, correlate img a.segment s = some j →
      let calls := (if 16 ≤ j.calls.length then j.calls.drop 1 else j.calls) ++ [c]
      let base := min j.baseTime c.time
      let escalates := 3 ≤ (calls.filter fun x => now ≤ x.time + 900).length ∧ 1 < min j.grade grade ∧
        j.clusterEscalated = false
      let g := if escalates then min j.grade grade - 1 else min j.grade grade
      let bound := base + attendanceLimit g
      let d := min (j.deadline.getD bound) bound
      let awaits := j.state = .opened ∨ j.state = .dispatched
      let i : Incident :=
        { j with
          causes := { leak := j.causes.leak || cause.leak, pressure := j.causes.pressure || cause.pressure
                      supply := j.causes.supply || cause.supply }
          grade := g
          calls := calls
          totalCalls := min (j.totalCalls + 1) 65535
          baseTime := base
          clusterEscalated := if escalates then true else j.clusterEscalated
          deadline := if awaits then some d else j.deadline
          overdue := if awaits ∧ d ≤ now then true else j.overdue }
      exec (.call tag (.fits a)) s = .next (answered 0x50 tag (.done (.call i.number false i.grade i.overdue))
        (setIncident j i true (some .call) (some c) (huntControl s)))))

/-- The incident a call or an automatic event joins: the lowest-numbered non-CLOSED incident on its segment, else the
lowest-numbered on a valve neighbour of it, else none (R92). The automatic events: the entry of a point into LOWLOW or
HIGHHIGH on a LIVE segment, not EXPECTED, joins with PRESSURE and grade 2, creates, or sets FULL with the NOT_MADE notice
(R98, R101); the setting of FALLING raises a LEAK incident of its own segment to grade 1 (R99), in the same notice where one
sample does both (log 9); a supply loss joins, creates or is not made with SUPPLY, grade 1 where a protected segment was lost
and 2 otherwise (R100). A reading hands its sample on in the order of R64. -/
def Obligations.CorrelationFindsTheLowestIncident : Prop :=
  ∀ (s : State) (img : Image) (n : Nat), (s.incidentList.map (·.number)).Nodup →
    (correlate img n s = none ↔ ∀ i ∈ s.incidentList, i.state ≠ .closed →
      i.segment ≠ n ∧ valveNeighbours img n i.segment = false) ∧
    (∀ j, correlate img n s = some j ↔ j ∈ s.incidentList ∧ j.state ≠ .closed ∧
      ((j.segment = n ∧ ∀ i ∈ s.incidentList, i.state ≠ .closed → i.segment = n → j.number ≤ i.number) ∨
        (valveNeighbours img n j.segment = true ∧ (∀ i ∈ s.incidentList, i.state ≠ .closed → i.segment ≠ n) ∧
          ∀ i ∈ s.incidentList, i.state ≠ .closed → valveNeighbours img n i.segment = true →
            j.number ≤ i.number))) ∧
    (s.net.active = some img →
      let now := s.partTime.toNat
      let aimed := fun (i : Incident) =>
        let bound := i.baseTime + attendanceLimit i.grade
        let d := min (i.deadline.getD bound) bound
        let awaits := i.state = .opened ∨ i.state = .dispatched
        { i with deadline := if awaits then some d else i.deadline
                 overdue := if awaits ∧ d ≤ now then true else i.overdue }
      let made := fun (k grade : Nat) (causes : Causes) (point element : Option Nat) (source : JoinSource) =>
        let i : Incident :=
          { number := s.incidents.nextNumber, causes := causes, segment := n, grade := grade, state := .opened
            createdAt := now, baseTime := now, deadline := some (now + attendanceLimit grade), overdue := false
            clusterEscalated := false, totalCalls := 0, calls := [], trigPoint := point, trigElement := element
            isoStatus := .none, isoIndex := none, lastPlan := none, closedAt := none }
        passNotices (incidentNotice none i false (some source) none).toList
          { s with incidents := { s.incidents with
              slots := s.incidents.slots.set k (some i)
              nextNumber := if i.number < 65535 then i.number + 1 else 1 } }
      let notMade := fun (grade : Nat) (causes : Causes) (point element : Option Nat) =>
        passNotice (.notMade { segment := n, causes := causes, grade := grade, trigPoint := point, trigElement := element })
          { s with incidents := { s.incidents with full := true } }
      let lowestFree := fun (k : Nat) =>
        s.incidents.slots[k]? = some none ∧ (∀ j, j < k → s.incidents.slots[j]? ≠ some none) ∧
          ∀ i ∈ s.incidentList, i.number ≠ s.incidents.nextNumber
      let noSlot := (∀ j : Nat, s.incidents.slots[j]? ≠ some none) ∧ ∀ i ∈ s.incidentList, i.state ≠ .closed
      let pressure : Causes := { leak := false, pressure := true, supply := false }
      let supply : Causes := { leak := false, pressure := false, supply := true }
      (∀ (p : Nat) (old new : Band) (falling expected : Bool),
        let live := ∃ x, s.seg? n = some x ∧ x.state = .live
        let extreme := (new = .lowLow ∧ old ≠ .lowLow) ∨ (new = .highHigh ∧ old ≠ .highHigh)
        let t := sampleIncidents p n old new falling expected s
        (¬live ∨ expected = true → t = s) ∧
        (live → expected = false → extreme →
          (∀ j, correlate img n s = some j →
            t = setIncident j
              (aimed { j with
                causes := { j.causes with pressure := true }
                grade := if falling = true ∧ j.segment = n ∧ j.causes.leak = true then 1 else min j.grade 2
                trigPoint := some p }) true (some (.pressure p)) none s) ∧
          (∀ k, correlate img n s = none → lowestFree k → t = made k 2 pressure (some p) none (.pressure p)) ∧
          (correlate img n s = none → noSlot → t = notMade 2 pressure (some p) none)) ∧
        (live → expected = false → ¬extreme →
          (falling = false → t = s) ∧
          ((∀ i ∈ s.incidentList, ¬(i.state ≠ .closed ∧ i.segment = n ∧ i.causes.leak = true)) → t = s) ∧
          (∀ j ∈ s.incidentList, falling = true → j.state ≠ .closed → j.segment = n → j.causes.leak = true →
            (∀ i ∈ s.incidentList, i.state ≠ .closed → i.segment = n → i = j) →
            (j.grade ≠ 1 → t = setIncident j (aimed { j with grade := 1 }) false (some (.falling p)) none s) ∧
            (j.grade = 1 → t = s)))) ∧
      (∀ (lost : List Nat) (element : Nat),
        let grade := if ∃ m ∈ n :: lost, ∃ seg, img.segment? m = some seg ∧ seg.guarded = true then 1 else 2
        let trig := if element = 0 then none else some element
        let t := supplyLoss (n :: lost) element s
        supplyLoss [] element s = s ∧
        (∀ j, correlate img n s = some j →
          t = setIncident j
            (aimed { j with
              causes := { j.causes with supply := true }
              grade := min j.grade grade
              trigElement := if element = 0 then j.trigElement else some element })
            true (some (.supply element)) none s) ∧
        (∀ k, correlate img n s = none → lowestFree k → t = made k grade supply none trig (.supply element)) ∧
        (correlate img n s = none → noSlot → t = notMade grade supply none trig)) ∧
      (∀ (h : Hooks) (p : Nat) (x : Reading) (seg : Point) (r : PointRec), s.point? p = some r →
        s.pointTopo? p = some seg → seg.segment = n →
        let new := evaluate now x.count x.faulty ((s.seg? n).map (·.state)) r
        (x.faulty = true ∨ x.count < 760 → readingEvent h p x s = setPoint new s) ∧
        (x.faulty = false → 760 ≤ x.count →
          readingEvent h p x s = sampleIncidents p n r.band new.band (decide (r.falling = false ∧ new.falling = true))
            new.expected (sampleEvent h.pass p n (setPoint new s)))))

/-- The five INCIDENT_SET actions, each taken in its states with its effect and its INCIDENT notice and REFUSED with STATE in
every other; GRADE only lowers the number; a number that no incident holds is REFUSED with NOT_FOUND, then an action outside
the five with RANGE (log 13); the expiry of a deadline sets OVERDUE (R97, R102 to R104; R171 with log 16 for the line). A
changed incident's record is the one its number finds, no other's is touched, and its INCIDENT notice is sent exactly where
the change joined it, changed its grade, its state or its isolation status, or set its OVERDUE, with the event set naming each
(R106). The notice of a creation names CREATED and, where set, OVERDUE; that its old grade and old state are absent is the model's
choice of log 10. That of a change of isolation status alone names ISOLATION (R105). -/
def Obligations.IncidentActionsMoveForwardOnly : Prop :=
  (∀ (s : State) (tag n g : Nat) (img : Image) (i : Incident), Admits s tag → s.net.active = some img →
    s.incident? n = some i →
    let done := fun (j : Incident) =>
      answered 0x51 tag (.done .nothing) (setIncident i j false none none (huntControl s))
    let refused := answered 0x51 tag (.refused (.plain .state)) (huntControl s)
    let awaits := i.state = .opened ∨ i.state = .dispatched
    let free := (i.isoStatus = .none ∨ i.isoStatus = .restored) ∧
      ∀ o ∈ s.supply.outages, o.cause ≠ .planned i.number
    (i.state = .opened → exec (.incidentSetDispatch tag n g) s = .next (done { i with state := .dispatched })) ∧
    (i.state ≠ .opened → exec (.incidentSetDispatch tag n g) s = .next refused) ∧
    (awaits → exec (.incidentSetAttend tag n g) s = .next (done { i with state := .attended, deadline := none })) ∧
    (¬awaits → exec (.incidentSetAttend tag n g) s = .next refused) ∧
    (i.state = .attended → exec (.incidentSetSafe tag n g) s = .next (done { i with state := .safe })) ∧
    (i.state ≠ .attended → exec (.incidentSetSafe tag n g) s = .next refused) ∧
    (i.state = .safe → free → exec (.incidentSetClose tag n g) s =
      .next (done { i with state := .closed, closedAt := some s.partTime.toNat })) ∧
    (¬(i.state = .safe ∧ free) → exec (.incidentSetClose tag n g) s = .next refused) ∧
    (i.state = .closed →
      exec (.incidentSetGrade tag (.fits { incident := n, action := 5, grade := g })) s = .next refused) ∧
    (i.state ≠ .closed → ¬(1 ≤ g ∧ g ≤ 4 ∧ g < i.grade) →
      exec (.incidentSetGrade tag (.fits { incident := n, action := 5, grade := g })) s =
        .next (answered 0x51 tag (.refused (.plain .range)) (huntControl s))) ∧
    (i.state ≠ .closed → 1 ≤ g → g ≤ 4 → g < i.grade →
      let bound := i.baseTime + attendanceLimit g
      let d := min (i.deadline.getD bound) bound
      exec (.incidentSetGrade tag (.fits { incident := n, action := 5, grade := g })) s =
        .next (done { i with
          grade := g
          deadline := if awaits then some d else i.deadline
          overdue := if awaits ∧ d ≤ s.partTime.toNat then true else i.overdue }))) ∧
  (∀ (s : State) (n d : Nat) (i : Incident), s.power = .running → s.incident? n = some i → i.deadline = some d →
    d ≤ s.partTime.toNat → (i.state = .opened ∨ i.state = .dispatched) → i.overdue = false →
    exec (.deadlineExpiry n) s = .next (startLine (setIncident i { i with overdue := true } false none none s))) ∧
  (∀ (s : State) (tag n g action : Nat) (img : Image), Admits s tag → s.net.active = some img →
    let refuses := fun (c : Instr) (x : Code) =>
      exec c s = .next (answered 0x51 tag (.refused (.plain x)) (huntControl s))
    let other : Instr := .incidentSetGrade tag (.fits { incident := n, action := action, grade := g })
    (s.incident? n = none → refuses (.incidentSetDispatch tag n g) .notFound ∧
      refuses (.incidentSetAttend tag n g) .notFound ∧ refuses (.incidentSetSafe tag n g) .notFound ∧
      refuses (.incidentSetClose tag n g) .notFound ∧ refuses other .notFound) ∧
    (∀ i, s.incident? n = some i → action = 0 ∨ 5 < action → refuses other .range)) ∧
  (∀ (s : State) (old new : Incident) (joined : Bool) (source : Option JoinSource) (call : Option CallEntry),
    let t := setIncident old new joined source call s
    let written : State :=
      { s with incidents := { s.incidents with slots := (s.incidents.slots.map fun x =>
          x.map fun y => if y.number = old.number then new else y) } }
    let body := fun (events : EventSet) (oldGrade : Option Nat) (oldState : Option IncidentState)
        (call : Option CallEntry) (source : Option JoinSource) => NoticeBody.incident
      { incident := new.number, segment := new.segment, events := events, causes := new.causes, oldGrade := oldGrade
        grade := new.grade, oldState := oldState, state := new.state, baseTime := new.baseTime, deadline := new.deadline
        overdue := new.overdue, clusterEscalated := new.clusterEscalated, totalCalls := new.totalCalls, call := call
        trigPoint := new.trigPoint, trigElement := new.trigElement, isoStatus := new.isoStatus, joined := source }
    let unchanged := joined = false ∧ new.grade = old.grade ∧ ¬(old.overdue = false ∧ new.overdue = true) ∧
      new.state = old.state ∧ new.isoStatus = old.isoStatus
    (unchanged → t = written) ∧
    (¬unchanged → t = passNotice (body
      { created := false, joined := joined, grade := decide (new.grade ≠ old.grade)
        overdue := decide (old.overdue = false ∧ new.overdue = true), state := decide (new.state ≠ old.state)
        isolation := decide (new.isoStatus ≠ old.isoStatus) } (some old.grade) (some old.state) call source) written) ∧
    (s.incident? old.number = some old → new.number = old.number → t.incident? old.number = some new ∧
      ∀ m, m ≠ old.number → t.incident? m = s.incident? m) ∧
    incidentNotice none new false source call = some (body
      { created := true, joined := false, grade := false, overdue := new.overdue, state := false, isolation := false }
      none none call source) ∧
    isolationNotice new = body
      { created := false, joined := false, grade := false, overdue := false, state := false, isolation := true }
      (some new.grade) (some new.state) none none)

/-- At every step the incident table keeps 64 slots, distinct numbers and at most one non-CLOSED incident on a segment, and a
deadline lies no later than the base time plus the attendance limit of the grade (R87, R92, R96). -/
def Obligations.IncidentTableIsKeptSoundByEveryStep : Prop :=
  ∀ s t : State, IncidentsSound s → step s = .next t → IncidentsSound t

/-! ### Plans and isolations -/

/-- PLAN takes the next number, its copy and the incident's last plan number; it is REFUSED with NOT_FOUND, STATE, BUSY or HELD,
in that order of its tests (R136). PLAN_READ with release and PLAN_CANCEL empty the buffer; a PLAN_READ is REFUSED with RANGE
for a section outside the three, then with STATE where no plan is HELD (R147); a PLAN_CANCEL with STATE where the buffer is
EMPTY, then with NOT_FOUND for another plan's number (R148). A completion, at a part time later than the acceptance (R137),
holds the plan, STALE where the basis has moved, and sends PLAN_END (R144; R171 with log 16 for the line); that its command
does nothing before such a part time is log 4. A buffer that leaves COMPUTING is an activating moment of a PENDING image
(R24). -/
def Obligations.PlanBufferGoesFromEmptyThroughComputingToHeld : Prop :=
  (∀ (s : State) (tag n : Nat) (img : Image) (i : Incident), Admits s tag → s.net.active = some img →
    s.incident? n = some i → i.state ≠ .closed → (i.isoStatus = .none ∨ i.isoStatus = .partially) →
    s.planner.buffer = .empty →
    exec (.plan tag (.fits n)) s =
      let k := s.planner.nextPlan
      .next (answered 0x60 tag (.accepted (.planned k))
        { huntControl s with
          planner :=
            { nextPlan := if k < 65535 then k + 1 else 1
              buffer := .computing
                { number := k, incident := n, target := i.segment, startBasis := s.net.basis
                  startTime := s.partTime.toNat, endBasis := none, endTime := none, result := none, failing := none
                  zone := [], close := [], lost := [], customers := 0, guardedCount := 0, crewCount := 0 }
                { elements := img.elements.map fun e =>
                    { number := e.number, state := ((s.element? e.number).map (·.state)).getD .unknown
                      operable := s.operable e }
                  supply := s.supply.segs.map fun x => (x.segment, x.state) } }
          incidents := { s.incidents with slots := (s.incidents.slots.map fun x =>
            x.map fun j => if j.number = n then { j with lastPlan := some k } else j) } })) ∧
  (∀ (s : State) (tag n : Nat) (img : Image), Admits s tag → s.net.active = some img →
    let refused := fun (c : Code) =>
      exec (.plan tag (.fits n)) s = .next (answered 0x60 tag (.refused (.plain c)) (huntControl s))
    (s.incident? n = none → refused .notFound) ∧
    (∀ i, s.incident? n = some i →
      let plannable := i.state ≠ .closed ∧ (i.isoStatus = .none ∨ i.isoStatus = .partially)
      (¬plannable → refused .state) ∧
      (∀ p c, plannable → s.planner.buffer = .computing p c → refused .busy) ∧
      (∀ p, plannable → s.planner.buffer = .held p → refused .held))) ∧
  (∀ (s : State) (tag : Nat) (a : PlanReadArgs) (img : Image), Admits s tag → s.net.active = some img →
    let refused := fun (c : Code) =>
      exec (.planRead tag (.fits a)) s = .next (answered 0x61 tag (.refused (.plain c)) (huntControl s))
    (a.part = 0 ∨ 3 < a.part → refused .range) ∧
    (1 ≤ a.part → a.part ≤ 3 → (∀ p, s.planner.buffer ≠ .held p) → refused .state)) ∧
  (∀ (s : State) (tag n : Nat) (img : Image), Admits s tag → s.net.active = some img →
    let refused := fun (c : Code) =>
      exec (.planCancel tag (.fits n)) s = .next (answered 0x62 tag (.refused (.plain c)) (huntControl s))
    (s.planner.buffer = .empty → refused .state) ∧
    (∀ p, s.planner.buffer = .held p → p.number ≠ n → refused .notFound) ∧
    (∀ p c, s.planner.buffer = .computing p c → p.number ≠ n → refused .notFound)) ∧
  (∀ (s : State) (tag : Nat) (a : PlanReadArgs) (img : Image) (p : Plan), Admits s tag → s.net.active = some img →
    s.planner.buffer = .held p → (a.part = 1 ∨ a.part = 2 ∨ a.part = 3) →
    exec (.planRead tag (.fits a)) s =
      let entries : PlanEntries :=
        if a.part = 1 then .zone ((p.zone.drop a.offset).take (min a.count 48))
        else if a.part = 2 then .close ((p.close.drop a.offset).take (min a.count 48))
        else .lost ((p.lost.drop a.offset).take (min a.count 48))
      .next (answered 0x61 tag (.done (.plan p s.net.basis entries))
        { huntControl s with planner := { s.planner with buffer := if a.release then .empty else .held p } })) ∧
  (∀ (s : State) (tag : Nat) (img : Image) (p : Plan), Admits s tag → s.net.active = some img →
    (s.planner.buffer = .held p ∨ (∃ c, s.planner.buffer = .computing p c) ∧ ∀ j, s.net.standby ≠ .pending j) →
    exec (.planCancel tag (.fits p.number)) s = .next (answered 0x62 tag (.done .nothing)
      { huntControl s with planner := { s.planner with buffer := .empty } })) ∧
  (∀ (s : State) (tag : Nat) (img : Image) (p : Plan) (c : PlanCopy), Admits s tag → s.net.active = some img →
    s.planner.buffer = .computing p c →
    exec (.planCancel tag (.fits p.number)) s = .next (answered 0x62 tag (.done .nothing)
      (inEvent (activateTop .plain) { huntControl s with planner := { s.planner with buffer := .empty } }))) ∧
  (∀ (s : State) (img : Image) (p : Plan) (c : PlanCopy), s.power = .running → s.net.active = some img →
    s.planner.buffer = .computing p c → p.startTime < s.partTime.toNat →
    let q := computePlan img c p
    let h : Plan :=
      { q with endBasis := some s.net.basis, endTime := some s.partTime.toNat
               result := if s.net.basis = p.startBasis then q.result else some .stale }
    let ended := passNotice
      (.planEnd { plan := p.number, incident := p.incident, target := p.target
                  verdict := if h.result = some .ok then .ready else .failed
                  result := h.result, failing := h.failing, startBasis := p.startBasis, endBasis := s.net.basis
                  zoneLength := h.zone.length, closeLength := h.close.length, lostLength := h.lost.length
                  customers := h.customers, guardedCount := h.guardedCount, crewCount := h.crewCount })
    let u : State := { s with planner := { s.planner with buffer := .held h } }
    exec .planCompletion s = .next (startLine (inEvent (fun v => activateTop .plain (ended v)) u)) ∧
    ((∀ j, s.net.standby ≠ .pending j) → exec .planCompletion s = .next (startLine (ended u)))) ∧
  (∀ (s : State) (p : Plan) (c : PlanCopy), s.planner.buffer = .computing p c → s.partTime.toNat ≤ p.startTime →
    exec .planCompletion s = .next s)

/-- The soundness of a plan: where the computation reaches OK, the zone holds the target, and with the elements CLOSED in the
copy and those of the close list CLOSED, gas reaches no segment of the zone (R138, R139, R141, R142). -/
def Obligations.PlanEnclosesItsZone : Prop :=
  ∀ (img : Image) (c : PlanCopy) (p : Plan), NumbersDistinct img → (computePlan img c p).result = some .ok →
    p.target ∈ (computePlan img c p).zone ∧
    ∀ n ∈ (computePlan img c p).zone,
      n ∉ reach img fun m => !c.closed m && !((computePlan img c p).close.any fun x => x.1 = m)

/-- EXECUTE of a plan whose close list is all MANUAL elements that stand passable takes the lowest free record with one
CREW_CLOSE entry each, empties the buffer, and leaves the incident EXECUTING with its ISOLATION notice. RESTORE of a
record whose elements are all CLOSED and MANUAL makes every entry CREW_OPEN and the incident RESTORING. With a REMOTE
element, EXECUTE leaves its entry TO_CLOSE under an order that is sent. RESTORE is REFUSED with NOT_FOUND for a number no
incident holds, then with STATE unless the status is ISOLATED, PROVEN or PARTIAL; it leaves an entry HELD_FOR_CLEARANCE while
a gaining segment lacks its clearance, and OPENING under an order that is sent where none does; with no CLOSED element the
incident is RESTORED at once and the record freed (R154 to R156, R162 to R164). A record pass takes the records in use in
ascending index: each entry is re-examined, the held entries of a restoration are tried in reverse order, and the status is
judged (R160, R161, R163, R164). A closing order or a held opening goes through R117's tests from NOT_REMOTE on
(R119): refused, a closing entry becomes CLOSE_FAILED with the code; placed, the entry takes the order's number, the order
joins the queue and its dispatch pass follows; at an element already CLOSED it ends ALREADY (R156, R163). -/
def Obligations.ExecuteAndRestoreHandCrewsTheirSteps : Prop :=
  (∀ (s : State) (tag k : Nat) (a : ExecuteArgs) (img : Image) (p : Plan) (i : Incident), Admits s tag →
    s.net.active = some img → s.planner.buffer = .held p → p.number = a.plan → p.result = some .ok →
    p.startBasis = s.net.basis → s.incident? p.incident = some i → i.state ≠ .closed → i.isoStatus = .none →
    s.register.records[k]? = some none → (∀ j, j < k → s.register.records[j]? ≠ some none) →
    (∀ x ∈ p.close, s.recordHolding x.1 = none) → (p.guardedCount = 0 ∨ a.override = true) →
    s.elements.queue.length ≤ 32 → p.close ≠ [] → (∀ x ∈ p.close, x.2 = .manual) →
    (∀ x ∈ p.close, ∀ r, s.element? x.1 = some r → r.state ≠ .closed) →
    exec (.execute tag (.fits a)) s =
      let j : Incident := { i with isoStatus := .executing, isoIndex := some (k + 1) }
      .next (answered 0x63 tag (.accepted (.executed (k + 1) 0)) (passNotice (isolationNotice j)
        { huntControl s with
          planner := { s.planner with buffer := .empty }
          register := { records := s.register.records.set k (some
            { incident := p.incident, override := a.override, executions := 1, firstPlan := p.number
              lastPlan := p.number, createdAt := s.partTime.toNat, zone := p.zone
              entries := p.close.map fun x =>
                { element := x.1, cls := x.2, step := .crewClose, order := 0, last := none
                  stepTime := s.partTime.toNat } }) }
          incidents := { s.incidents with slots := (s.incidents.slots.map fun x =>
            x.map fun y => if y.number = p.incident then
              { y with isoStatus := .executing, isoIndex := some (k + 1) } else y) } }))) ∧
  (∀ (s : State) (tag n k : Nat) (img : Image) (r : IsoRecord) (i : Incident), Admits s tag →
    s.net.active = some img → s.incident? n = some i →
    (i.isoStatus = .isolated ∨ i.isoStatus = .proven ∨ i.isoStatus = .partially) → s.recordOf n = some k →
    s.record? k = some r → r.entries ≠ [] →
    (∀ e ∈ r.entries, (∃ x, s.element? e.element = some x ∧ x.state = .closed) ∧
      ∃ t, s.elemTopo? e.element = some t ∧ t.cls = .manual) →
    exec (.restore tag (.fits n)) s =
      .next (answered 0x64 tag (.accepted (.restoring (k + 1)))
        (passNotice (isolationNotice { i with isoStatus := .restoring })
          { huntControl s with
            register := { records := s.register.records.set k (some
              { r with entries := r.entries.map fun e =>
                  { e with step := .crewOpen, stepTime := s.partTime.toNat } }) }
            incidents := { s.incidents with slots := (s.incidents.slots.map fun x =>
              x.map fun y => if y.number = n then { y with isoStatus := .restoring } else y) } }))) ∧
  (∀ (s : State) (tag k m : Nat) (a : ExecuteArgs) (img : Image) (p : Plan) (i : Incident) (e : Element)
      (x : ElementRec) (st : Station), Admits s tag →
    s.net.active = some img → s.planner.buffer = .held p → p.number = a.plan → p.result = some .ok →
    p.startBasis = s.net.basis → s.incident? p.incident = some i → i.state ≠ .closed → i.isoStatus = .none →
    s.register.records[k]? = some none → (∀ j, j < k → s.register.records[j]? ≠ some none) →
    s.recordHolding m = none → (p.guardedCount = 0 ∨ a.override = true) → s.elements.queue = [] →
    p.close = [(m, .remote)] → s.elemTopo? m = some e → e.cls = .remote → s.element? m = some x →
    x.state ≠ .closed → s.station? e.station = some st → st.state = .reporting → st.localFlag = false →
    (a.override = true ∨ ∀ y ∈ s.lostBy m, s.guardedSegment y = false) →
    exec (.execute tag (.fits a)) s =
      let now := s.partTime.toNat
      let order := s.elements.nextOrder
      let orderTag := s.elements.nextTag
      .next (answered 0x63 tag (.accepted (.executed (k + 1) 1))
        (passNotice (isolationNotice { i with isoStatus := .executing, isoIndex := some (k + 1) })
          { huntControl s with
            planner := { s.planner with buffer := .empty }
            register := { records := s.register.records.set k (some
              { incident := p.incident, override := a.override, executions := 1, firstPlan := p.number
                lastPlan := p.number, createdAt := now, zone := p.zone
                entries := [{ element := m, cls := .remote, step := .toClose, order := order, last := none
                              stepTime := now }] }) }
            incidents := { s.incidents with slots := (s.incidents.slots.map fun x =>
              x.map fun y => if y.number = p.incident then
                { y with isoStatus := .executing, isoIndex := some (k + 1) } else y) }
            elements := { s.elements with
              queue := [{ number := order, element := m, action := .close, origin := .isolation p.incident
                          override := a.override, state := .sent, sendsLeft := 2, tag := orderTag
                          enqueuedAt := now, unavailableAt := none, ackAt := some (now + 3), strokeAt := none }]
              nextOrder := if order < 65535 then order + 1 else 1
              nextTag := if orderTag < 255 then orderTag + 1 else 1 }
            field := { s.field with out := s.field.out ++
              [{ station := e.station, slot := e.slot, action := .close, tag := orderTag }] } }))) ∧
  (∀ (s : State) (tag n k : Nat) (img : Image) (r : IsoRecord) (i : Incident), Admits s tag →
    s.net.active = some img → s.incident? n = some i →
    (i.isoStatus = .isolated ∨ i.isoStatus = .proven ∨ i.isoStatus = .partially) → s.recordOf n = some k →
    s.record? k = some r →
    let now := s.partTime.toNat
    let withStatus := fun (g : Incident → Incident) => { s.incidents with slots := (s.incidents.slots.map fun x =>
      x.map fun y => if y.number = n then g y else y) }
    let restoringWith := fun (l : List Entry) =>
      ({ huntControl s with
         register := { records := s.register.records.set k (some { r with entries := l }) }
         incidents := withStatus fun y => { y with isoStatus := .restoring } } : State)
    let answer := fun (x : IsoStatus) (u : State) => exec (.restore tag (.fits n)) s =
      .next (answered 0x64 tag (.accepted (.restoring (k + 1)))
        (passNotice (isolationNotice { i with isoStatus := x }) u))
    (r.entries ≠ [] →
      (∀ e ∈ r.entries, (∃ x, s.element? e.element = some x ∧ x.state = .closed) ∧
        (∃ t, s.elemTopo? e.element = some t ∧ t.cls = .remote) ∧
        ∃ m ∈ s.gaining e.element, ∃ y, s.outage? m = some y ∧ y.clearance = none) →
      answer .restoring (restoringWith (r.entries.map fun e =>
        { e with step := .heldForClearance, stepTime := now }))) ∧
    (∀ e t x st, r.entries = [e] → s.element? e.element = some x → x.state = .closed →
      s.elemTopo? e.element = some t → t.cls = .remote → s.station? t.station = some st → st.state = .reporting →
      st.localFlag = false → s.elements.queue = [] →
      (∀ m ∈ s.gaining e.element, ∀ y, s.outage? m = some y → y.clearance ≠ none) →
      let order := s.elements.nextOrder
      let orderTag := s.elements.nextTag
      answer .restoring
        { restoringWith [{ e with step := .opening, stepTime := now, order := order }] with
          elements := { s.elements with
            queue := [{ number := order, element := e.element, action := .opening, origin := .restoration n
                        override := false, state := .sent, sendsLeft := 2, tag := orderTag, enqueuedAt := now
                        unavailableAt := none, ackAt := some (now + 3), strokeAt := none }]
            nextOrder := if order < 65535 then order + 1 else 1
            nextTag := if orderTag < 255 then orderTag + 1 else 1 }
          field := { s.field with out := s.field.out ++
            [{ station := t.station, slot := t.slot, action := .opening, tag := orderTag }] } }) ∧
    ((∀ e ∈ r.entries, ∀ x, s.element? e.element = some x → x.state ≠ .closed) →
      answer .restored
        { huntControl s with
          register := { records := s.register.records.set k none }
          incidents := withStatus fun y => { y with isoStatus := .restored, isoIndex := none } })) ∧
  (∀ (s : State) (tag n : Nat) (img : Image), Admits s tag → s.net.active = some img →
    let refused := fun (c : Code) =>
      exec (.restore tag (.fits n)) s = .next (answered 0x64 tag (.refused (.plain c)) (huntControl s))
    (s.incident? n = none → refused .notFound) ∧
    (∀ i, s.incident? n = some i → i.isoStatus ≠ .isolated → i.isoStatus ≠ .proven → i.isoStatus ≠ .partially →
      refused .state)) ∧
  (∀ (s : State) (element : Nat) (action : Action) (t : Element) (x : ElementRec), s.elemTopo? element = some t →
    s.element? element = some x →
    let target : ElementState := match action with
      | .close => .closed
      | .opening => .opened
    let test := placeTest element action s
    (t.cls ≠ .remote → test = some .notRemote) ∧
    (t.cls = .remote →
      (∀ o, s.orderOf? element = some o →
        (o.action = action → test = some .duplicate) ∧
        (o.action ≠ action → o.state ≠ .queued → test = some .inFlight) ∧
        (o.action ≠ action → o.state = .queued → test = none)) ∧
      (s.orderOf? element = none →
        (x.state ≠ target → 32 ≤ s.elements.queue.length → test = some .full) ∧
        (x.state = target ∨ s.elements.queue.length < 32 → test = none)))) ∧
  (∀ (h : Hooks) (s : State) (k steps : Nat) (r : IsoRecord) (e : Entry) (t : Element) (x : ElementRec)
      (timer : Option Nat), s.record? k = some r → r.entry? e.element = some e → s.elemTopo? e.element = some t →
    s.element? e.element = some x →
    let now := s.partTime.toNat
    let withEntry := fun (g : Entry → Entry) =>
      ({ records := s.register.records.set k (some { r with entries := (r.entries.map fun y =>
          if y.element = e.element then g y else y) }) } : IsolationRegister)
    let waits := e.step = .toClose ∧ e.order = 0
    let numberAfter := fun (m : Nat) => if m < 65535 then m + 1 else 1
    let n := numberAfter^[steps] s.elements.nextOrder
    let made := fun (action : Action) (origin : Origin) (override : Bool) =>
      ({ number := n, element := e.element, action := action, origin := origin, override := override, state := .queued
         sendsLeft := 3, tag := 0, enqueuedAt := now, unavailableAt := timer, ackAt := none
         strokeAt := none } : Order)
    let available := ∃ st, s.station? t.station = some st ∧ st.state = .reporting ∧ st.localFlag = false
    (¬waits → placeClosing h k e.element s = s) ∧
    (∀ code, waits → placeTest e.element .close s = some code → placeClosing h k e.element s =
      { s with register := withEntry fun y =>
          { y with step := .closeFailed, last := some (.placement code), stepTime := now } }) ∧
    (t.cls = .remote → s.orderOf? e.element = none → steps ≤ 32 →
      (∀ j, j < steps → ∃ y ∈ s.elements.queue, y.number = numberAfter^[j] s.elements.nextOrder) →
      (∀ y ∈ s.elements.queue, y.number ≠ n) →
      (waits → x.state = .closed → s.recordOf r.incident = some k →
        (∀ y ∈ r.entries, y.element = e.element → y = e) → placeClosing h k e.element s =
        { passNotice (.order
            { order := n, element := e.element, action := .close, origin := .isolation r.incident, override := r.override
              outcome := .already, tag := 0, sendsUsed := 0, enqueuedAt := now, endedAt := now })
            { s with elements := { s.elements with nextOrder := numberAfter n } } with
          register := withEntry fun y =>
            { y with step := .closed, last := some (.order .already), order := n, stepTime := now } }) ∧
      (s.elements.queue.length < 32 → (available → timer = none) → (¬available → timer = some (now + 120)) →
        (waits → x.state ≠ .closed → placeClosing h k e.element s = h.dispatch
          { s with
            register := withEntry fun y => { y with order := n }
            elements := { s.elements with
              queue := s.elements.queue ++ [made .close (.isolation r.incident) r.override]
              nextOrder := numberAfter n } }) ∧
        (e.step = .heldForClearance → x.state ≠ .opened →
          (∀ m ∈ s.gaining e.element, ∀ y, s.outage? m = some y → y.clearance ≠ none) →
          retryEntry h k e.element s = h.dispatch
            { s with
              register := withEntry fun y => { y with step := .opening, order := n, stepTime := now }
              elements := { s.elements with
                queue := s.elements.queue ++ [made .opening (.restoration r.incident) false]
                nextOrder := numberAfter n } })))) ∧
  (∀ (c : Ctx) (h : Hooks) (s : State),
    recordPass c h s = [0, 1, 2, 3, 4, 5, 6, 7].foldl (fun u k => passRecord c h k u) s) ∧
  (∀ (c : Ctx) (h : Hooks) (s : State) (k : Nat) (r : IsoRecord), s.record? k = some r →
    let now := s.partTime.toNat
    let withEntries := fun (l : List Entry) =>
      ({ s with register := { records := s.register.records.set k (some { r with entries := l }) } } : State)
    let u := withEntries (r.entries.map (reexamineEntry c s))
    (passRecord c h k s = judgeStatus k
      (if ∃ i, s.incident? r.incident = some i ∧ i.isoStatus = .restoring then
        ((r.entries.map (·.element)).reverse).foldl (fun v e => retryEntry h k e v) u
      else u)) ∧
    (∀ e x t, c.skip ≠ some e.element → s.element? e.element = some x → s.elemTopo? e.element = some t →
      let y := reexamineEntry c s e
      let moved := fun (z : EntryStep) => { e with step := z, stepTime := now }
      (e.step = .crewClose → x.state = .closed → y = moved .closed) ∧
      (e.step = .crewClose → x.state ≠ .closed → y = e) ∧
      (e.step = .crewOpen ∨ e.step = .heldForClearance ∨ e.step = .openFailed → x.state ≠ .closed →
        y = moved .reopened) ∧
      (e.step = .crewOpen → x.state = .closed → y = if t.cls = .remote then moved .heldForClearance else e) ∧
      (e.step = .heldForClearance → x.state = .closed → y = if t.cls = .manual then moved .crewOpen else e) ∧
      (e.step = .openFailed → x.state = .closed → y = e) ∧
      (e.step = .toClose ∨ e.step = .closed ∨ e.step = .closeFailed ∨ e.step = .opening ∨ e.step = .reopened →
        y = e)) ∧
    (∀ e, c.skip = some e.element → reexamineEntry c s e = e) ∧
    (∀ e, r.entry? e.element = some e →
      let passes := (∀ m ∈ s.gaining e.element, ∀ y, s.outage? m = some y → y.clearance ≠ none) ∧
        s.elements.queue.length < 32
      (e.step ≠ .heldForClearance ∨ ¬passes → retryEntry h k e.element s = s) ∧
      (∀ code, e.step = .heldForClearance → passes → placeTest e.element .opening s = some code →
        retryEntry h k e.element s = withEntries (r.entries.map fun y =>
          if y.element = e.element then { y with last := some (.placement code) } else y)))) ∧
  (∀ (s : State) (k : Nat) (r : IsoRecord) (i : Incident), s.record? k = some r → s.incident? r.incident = some i →
    let judged := judgeStatus k s
    let proven := ∀ n ∈ r.zone, ∀ t, s.segTopo? n = some t → ∃ x, s.seg? n = some x ∧ x.state = .depressurized
    let becomes := fun (x : IsoStatus) => judged = passNotice (isolationNotice { i with isoStatus := x })
      { s with incidents := { s.incidents with slots := (s.incidents.slots.map fun z =>
          z.map fun y => if y.number = r.incident then { y with isoStatus := x } else y) } }
    (i.isoStatus = .executing →
      ((∀ e ∈ r.entries, e.step = .closed) → (proven → becomes .proven) ∧ (¬proven → becomes .isolated)) ∧
      ((∀ e ∈ r.entries, e.step ≠ .toClose ∧ e.step ≠ .crewClose) → (∃ e ∈ r.entries, e.step = .closeFailed) →
        becomes .partially) ∧
      ((∃ e ∈ r.entries, e.step = .toClose ∨ e.step = .crewClose) → judged = s)) ∧
    (i.isoStatus = .isolated → (proven → becomes .proven) ∧ (¬proven → judged = s)) ∧
    (i.isoStatus = .restoring →
      let open' := ∃ e ∈ r.entries,
        e.step = .heldForClearance ∨ e.step = .opening ∨ e.step = .crewOpen ∨ e.step = .openFailed
      (open' → judged = s) ∧
      (¬open' → judged = passNotice (isolationNotice { i with isoStatus := .restored })
        { s with
          register := { records := s.register.records.set k none }
          incidents := { s.incidents with slots := (s.incidents.slots.map fun z =>
            z.map fun y => if y.number = r.incident then
              { y with isoStatus := .restored, isoIndex := none } else y) } })) ∧
    (i.isoStatus = .none ∨ i.isoStatus = .partially ∨ i.isoStatus = .proven ∨ i.isoStatus = .restored →
      judged = s))

/-- An EXECUTE that is carried out meets every test of R154 and takes its record: the lowest free one with the entries of R155
for an incident of status NONE, its own with the plan merged in (R157) for PARTIAL, of at most 24 zone segments and 48 entries.
One that fails a test is REFUSED with the code of the first test it fails and changes nothing. One carried out takes the steps
of R155 in order: the record, the incident EXECUTING with its index, the buffer EMPTY, the closing orders in list order, a pass
over the record, and the ISOLATION notice of the incident as that pass leaves it. The class of a retried entry is the model's
choice of log 36. -/
def Obligations.ExecuteIsCarriedOutOnlyPastItsTests : Prop :=
  (∀ (s : State) (k : Nat) (r : IsoRecord), k < s.register.records.length →
    let taken : State :=
      { s with
        planner := { s.planner with buffer := .empty }
        register := { records := s.register.records.set k (some r) }
        incidents := { s.incidents with slots := (s.incidents.slots.map fun x =>
          x.map fun y => if y.number = r.incident then
            { y with isoStatus := .executing, isoIndex := some (k + 1) } else y) } }
    let placed := (r.entries.map (·.element)).foldl (fun u e => placeClosing (hooksTop .plain) k e u) taken
    let passed := passRecord .plain ⟨dispatchInPass, id, activateInPass⟩ k placed
    (∀ i, passed.incident? r.incident = some i → runExecute k r s = passNotice (isolationNotice i) passed) ∧
    (passed.incident? r.incident = none → runExecute k r s = passed)) ∧
  ∀ (s : State) (tag : Nat) (a : ExecuteArgs) (img : Image), Admits s tag → s.net.active = some img →
    let fresh := fun (x : Nat × OpClass) => ({ element := x.1, cls := x.2
                                               step := if x.2 = .remote then .toClose else .crewClose
                                               order := 0, last := none, stepTime := s.partTime.toNat } : Entry)
    let first := fun (p : Plan) => ({ incident := p.incident, override := a.override, executions := 1
                                      firstPlan := p.number, lastPlan := p.number, createdAt := s.partTime.toNat
                                      zone := p.zone, entries := p.close.map fresh } : IsoRecord)
    let merged := fun (p : Plan) (q : IsoRecord) =>
      { q with
        override := a.override
        executions := min (q.executions + 1) 65535
        lastPlan := p.number
        zone := q.zone ++ p.zone.filter fun n => n ∉ q.zone
        entries :=
          (q.entries.filterMap fun e =>
            match p.close.find? fun x => x.1 = e.element with
            | some x => some (fresh x)
            | none => if e.step = .closeFailed then none else some e)
          ++ (p.close.filter fun x => ∀ e ∈ q.entries, e.element ≠ x.1).map fresh }
    let orders := fun (r : IsoRecord) => (r.entries.filter fun e => e.step = .toClose ∧ e.order = 0).length
    let overlaps := fun (p : Plan) =>
      ∃ x ∈ p.close, ∃ j q, s.recordHolding x.1 = some j ∧ s.record? j = some q ∧ q.incident ≠ p.incident
    let taken := fun (p : Plan) (i : Incident) (k : Nat) (r : IsoRecord) =>
      (i.isoStatus = .none ∧ s.register.records[k]? = some none ∧
        (∀ j, j < k → s.register.records[j]? ≠ some none) ∧ r = first p) ∨
      (i.isoStatus = .partially ∧ s.recordOf p.incident = some k ∧
        ∃ q, s.record? k = some q ∧ r = merged p q ∧ r.zone.length ≤ 24 ∧ r.entries.length ≤ 48)
    let refused := fun (c : Code) => exec (.execute tag (.fits a)) s =
      .next (answered 0x63 tag (.refused (.plain c)) (huntControl s))
    (∀ p k r, executeTests a s = .ok (p, k, r) →
      s.planner.buffer = .held p ∧ p.number = a.plan ∧ p.result = some .ok ∧ p.startBasis = s.net.basis ∧
      (∃ i, s.incident? p.incident = some i ∧ i.state ≠ .closed ∧
        (i.isoStatus = .none ∨ i.isoStatus = .partially) ∧ taken p i k r) ∧
      (∀ x ∈ p.close, ∀ j q, s.recordHolding x.1 = some j → s.record? j = some q → q.incident = p.incident) ∧
      (p.guardedCount = 0 ∨ a.override = true) ∧
      s.elements.queue.length + orders r ≤ 32 ∧
      exec (.execute tag (.fits a)) s = .next (answered 0x63 tag (.accepted (.executed (k + 1) (orders r)))
        (inEvent (runExecute k r) (huntControl s)))) ∧
    (∀ c, executeTests a s = .error c → refused c) ∧
    ((∀ p, s.planner.buffer ≠ .held p) → refused .state) ∧
    (∀ p, s.planner.buffer = .held p →
      (p.number ≠ a.plan ∨ p.result ≠ some .ok → refused .state) ∧
      (p.number = a.plan → p.result = some .ok →
        (p.startBasis ≠ s.net.basis → refused .stalePlan) ∧
        (p.startBasis = s.net.basis →
          ((∀ i, s.incident? p.incident = some i →
              i.state = .closed ∨ (i.isoStatus ≠ .none ∧ i.isoStatus ≠ .partially)) → refused .state) ∧
          (∀ i, s.incident? p.incident = some i → i.state ≠ .closed →
            (i.isoStatus = .none → (∀ q ∈ s.register.records, q ≠ none) → refused .noSlot) ∧
            (∀ k q, i.isoStatus = .partially → s.recordOf p.incident = some k → s.record? k = some q →
              24 < (merged p q).zone.length ∨ 48 < (merged p q).entries.length → refused .elementLimit) ∧
            (∀ k r, taken p i k r →
              (overlaps p → refused .overlap) ∧
              (¬overlaps p → p.guardedCount ≠ 0 → a.override = false → refused .guarded) ∧
              (¬overlaps p → p.guardedCount = 0 ∨ a.override = true → 32 < s.elements.queue.length + orders r →
                refused .full) ∧
              (¬overlaps p → p.guardedCount = 0 ∨ a.override = true → s.elements.queue.length + orders r ≤ 32 →
                executeTests a s = .ok (p, k, r)))))))

/-! ### Reads -/

/-- The reads of points, stations, elements, orders, segments, outages, incidents and isolation records are answered DONE
with what the tables hold, and change nothing; INCIDENT_READ of a number no incident holds is NOT_FOUND; ISOLATION_READ of
index 0 is the summary, of a free record NOT_FOUND, above 8 RANGE; an element is operable by the conditions of R114 (R41,
R66, R83, R84, R107, R132, R133, R166; log 19 for records that cannot be absent). -/
def Obligations.ReadsAnswerFromTheTablesAndChangeNothing : Prop :=
  (∀ (s : State) (e : Element) (r : ElementRec), s.element? e.number = some r → (s.operable e = true ↔
    e.defective = false ∧ r.faultMark = false ∧ (e.cls = .manual ∨
      (e.cls = .remote ∧ (∃ st, s.station? e.station = some st ∧ st.state = .reporting) ∧
        r.state ≠ .unknown ∧ r.state ≠ .fault ∧ r.unconfirmed = false)))) ∧
  ∀ (s : State) (tag : Nat) (img : Image), Admits s tag → s.net.active = some img →
    (∀ n t r, img.point? n = some t → s.point? n = some r → exec (.pointRead tag (.fits n)) s =
      .next (answered 0x22 tag (.done (.point t r)) (huntControl s))) ∧
    (∀ a x st, img.station? a = some x → s.station? a = some st → exec (.stationRead tag (.fits a)) s =
      .next (answered 0x24 tag (.done (.station
        { address := a, mode := x.mode, limit := x.limit, state := st.state, localFlag := st.localFlag
          lastAccepted := st.lastAccepted, lastApplied := st.lastApplied, silenceAt := st.silenceAt
          elements := (img.elements.filter fun e => e.cls = .remote ∧ e.station = a).length
          points := (img.points.filter fun p => p.station = a).length
          tag := match s.flightOf? a with
            | some o => o.tag
            | none => 0 })) (huntControl s))) ∧
    exec (.orderRead tag (.fits ())) s = .next (answered 0x34 tag (.done (.orders
      (s.elements.queue.map fun o => match img.element? o.element with
        | some e => (o, e.station, e.slot)
        | none => (o, 0, 0)))) (huntControl s)) ∧
    (∀ n e r, img.element? n = some e → s.element? n = some r → exec (.elementRead tag (.fits n)) s =
      .next (answered 0x35 tag (.done (.element
        { topo := e, record := r, passable := decide (r.state ≠ .closed), operable := s.operable e
          order := match s.orderOf? n with
            | some o => o.number
            | none => 0
          orderState := (s.orderOf? n).map (·.state)
          isoIndex := (s.recordHolding n).map (· + 1) })) (huntControl s))) ∧
    (∀ n t x, img.segment? n = some t → s.seg? n = some x → exec (.segmentRead tag (.fits n)) s =
      .next (answered 0x41 tag (.done (.segment
        { topo := t, supply := x
          points := (img.points.filter fun p => p.segment = n).filterMap fun p =>
            (s.point? p.number).map fun r => (p.number, r.quality)
          hasOutage := (s.outage? n).isSome })) (huntControl s))) ∧
    (∀ a : WindowArgs, exec (.outageRead tag (.fits a)) s =
      .next (answered 0x42 tag (.done (.outages s.supply.outages.length
        (((s.supply.outages.drop a.offset).take (min a.count 32)).map fun o =>
          (o, ((s.seg? o.segment).map (·.state)).getD .cut,
            min (o.customers * ((s.partTime.toNat - o.openedAt) / 60)) 4294967295)))) (huntControl s))) ∧
    (∀ n i, n ≠ 0 → s.incident? n = some i → exec (.incidentRead tag (.fits n)) s =
      .next (answered 0x52 tag (.done (.incident i)) (huntControl s))) ∧
    (∀ n, n ≠ 0 → s.incident? n = none → exec (.incidentRead tag (.fits n)) s =
      .next (answered 0x52 tag (.refused (.plain .notFound)) (huntControl s))) ∧
    (∃ l : List IncidentLine, l.Perm (s.incidentList.map fun i =>
        { number := i.number, segment := i.segment, state := i.state, grade := i.grade, overdue := i.overdue
          isoStatus := i.isoStatus }) ∧
      (l.map (·.number)).Pairwise (· ≤ ·) ∧
      exec (.incidentRead tag (.fits 0)) s = .next (answered 0x52 tag (.done (.incidents l)) (huntControl s))) ∧
    (∀ n r, 1 ≤ n → n ≤ 8 → s.record? (n - 1) = some r → exec (.isolationRead tag (.fits n)) s =
      .next (answered 0x65 tag (.done (.isoRecord n r
        (r.entries.map fun e => ((s.element? e.element).map (·.state)).getD .unknown)
        (r.zone.map fun m => (s.seg? m).map (·.state)))) (huntControl s))) ∧
    (∀ n, 1 ≤ n → n ≤ 8 → s.record? (n - 1) = none → exec (.isolationRead tag (.fits n)) s =
      .next (answered 0x65 tag (.refused (.plain .notFound)) (huntControl s))) ∧
    (∀ n, 8 < n → exec (.isolationRead tag (.fits n)) s =
      .next (answered 0x65 tag (.refused (.plain .range)) (huntControl s))) ∧
    exec (.isolationRead tag (.fits 0)) s = .next (answered 0x65 tag (.done (.isoSummary
      (s.register.records.map fun x => x.map fun r =>
        { incident := r.incident
          status := match s.incident? r.incident with
            | some i => i.isoStatus
            | none => .none
          entries := r.entries.length
          zone := r.zone.length
          steps := [.toClose, .crewClose, .closed, .closeFailed, .heldForClearance, .opening, .crewOpen, .reopened,
            .openFailed].map fun y => (r.entries.filter fun e => e.step = y).length }))) (huntControl s))

/-! ### Encoding and invariants at reset -/

/-- Every request, REPORT and ORDER_ACK that the lines can deliver is read back whole from the frame that carries it, with
every field at every value its width admits (R180, 11.2, 11.3). -/
def Obligations.DecodeOfEncodeIsTheCommand : Prop :=
  ∀ (c : Instr) (f : Frame), c.wf = true → encode c = some f →
    (c.request? ≠ none → decodeControl f = c) ∧ (c.request? = none → decodeField f = some c)

/-- The state right after reset meets every invariant that the steps keep. -/
def Obligations.ResetMeetsEveryInvariant : Prop :=
  PortBounded State.reset ∧ QueueSound State.reset ∧ SupplySound State.reset ∧ IncidentsSound State.reset ∧
    PressuresSound State.reset
end

