-- ==== Sys2Proof/Laws/Bytes.lean ====
section
/-! SUPPORT. Byte order, fields read back from the bytes that hold them, and the receiver's bound. -/

namespace Sys2Proof

@[simp] theorem leBytes_length (w n : Nat) : (leBytes w n).length = w := by
  induction w generalizing n with
  | zero => rfl
  | succ w ih => simp [leBytes, ih]

theorem leNat_lt (bs : List Byte) : leNat bs < 256 ^ bs.length := by
  induction bs with
  | nil => simp [leNat]
  | cons b bs ih =>
    have := b.isLt
    simp only [leNat, List.length_cons, Nat.pow_succ]
    omega

/-- A number that fits its field is read back from it (R180). -/
theorem leNat_leBytes (w n : Nat) (h : n < 256 ^ w) : leNat (leBytes w n) = n := by
  induction w generalizing n with
  | zero =>
    have : n = 0 := by simpa using h
    simp [leBytes, leNat, this]
  | succ w ih =>
    have h' : n / 256 < 256 ^ w := by
      rw [Nat.div_lt_iff_lt_mul (by decide)]
      rwa [Nat.pow_succ] at h
    simp only [leBytes, leNat, ih _ h', BitVec.toNat_ofNat]
    omega

/-- A signed number that fits its field is read back from it (R180). -/
theorem leInt_signedBytes (w : Nat) (i : Int) (hlo : -(256 ^ w : Nat) ≤ 2 * i) (hhi : 2 * i < (256 ^ w : Nat)) :
    leInt (signedBytes w i) = i := by
  have hpos : (0 : Int) < (256 ^ w : Nat) := by exact_mod_cast Nat.pow_pos (n := w) (by decide : 0 < 256)
  have hm0 : 0 ≤ i % (256 ^ w : Nat) := Int.emod_nonneg _ (by omega)
  have hm1 : i % (256 ^ w : Nat) < (256 ^ w : Nat) := Int.emod_lt_of_pos _ hpos
  have hb : (i % (256 ^ w : Nat)).toNat < 256 ^ w := by omega
  have hv : leNat (signedBytes w i) = (i % (256 ^ w : Nat)).toNat := leNat_leBytes w _ hb
  have hl : (signedBytes w i).length = w := leBytes_length _ _
  unfold leInt
  rw [hv, hl]
  by_cases hi : 0 ≤ i
  · rw [Int.emod_eq_of_lt hi (by omega)]
    split
    · omega
    · omega
  · have hn : i % (256 ^ w : Nat) = i + (256 ^ w : Nat) := by
      rw [← Int.add_emod_right, Int.emod_eq_of_lt (by omega) (by omega)]
    rw [hn]
    split <;> omega

@[simp] theorem signedBytes_length (w : Nat) (i : Int) : (signedBytes w i).length = w := leBytes_length _ _

@[simp] theorem flagBytes_length (b : Bool) : (flagBytes b).length = 1 := rfl

theorem fieldOk_iff (w n : Nat) : fieldOk w n = true ↔ n < 256 ^ w := by simp [fieldOk]

/-- A field is read from between what precedes and what follows it (11.3). -/
theorem Layout.num_mid (off w n : Nat) (a c : List Byte) (ha : a.length = off) (h : n < 256 ^ w) :
    Layout.num off w (a ++ (leBytes w n ++ c)) = n := by
  subst ha
  simp [Layout.num, leNat_leBytes w n h]

theorem Layout.int_mid (off w : Nat) (i : Int) (a c : List Byte) (ha : a.length = off) (hlo : -(256 ^ w : Nat) ≤ 2 * i)
    (hhi : 2 * i < (256 ^ w : Nat)) : Layout.int off w (a ++ (signedBytes w i ++ c)) = i := by
  subst ha
  have h : (signedBytes w i ++ c).take w = signedBytes w i := by
    rw [List.take_append_of_le_length (by simp), List.take_of_length_le (by simp)]
  simp [Layout.int, h, leInt_signedBytes w i hlo hhi]

theorem Layout.flag_mid (off : Nat) (b : Bool) (a c : List Byte) (ha : a.length = off) :
    Layout.flag off (a ++ (flagBytes b ++ c)) = b := by
  subst ha
  cases b <;> simp [Layout.flag, Layout.num, flagBytes, leNat]

/-- A body of the length its layout has is read; any other does not fit (11.3.1). -/
theorem Layout.exact_fits {α : Type} (len : Nat) (read : List Byte → α) (b : List Byte) (h : b.length = len) :
    Layout.exact len read b = .fits (read b) := by simp [Layout.exact, h]

theorem Layout.exact_misfit {α : Type} (len : Nat) (read : List Byte → α) (b : List Byte) (h : b.length ≠ len) :
    Layout.exact len read b = .misfit b := by simp [Layout.exact, h]

/-- Once the receiver may look at every byte, a larger bound changes nothing (R28, R167). -/
theorem receiveLoop_bound (n m : Nat) (bs : List Byte) (hn : bs.length < n) (hm : bs.length < m) :
    receiveLoop n bs = receiveLoop m bs := by
  induction n generalizing m bs with
  | zero => omega
  | succ n ih =>
    cases m with
    | zero => omega
    | succ m =>
      cases bs with
      | nil => rfl
      | cons b rest =>
        have hr : receiveLoop n rest = receiveLoop m rest :=
          ih m rest (by simp at hn; omega) (by simp at hm; omega)
        have hd : ∀ k, receiveLoop n (rest.drop k) = receiveLoop m (rest.drop k) := fun k =>
          ih m _ (by simp at hn ⊢; omega) (by simp at hm ⊢; omega)
        simp only [receiveLoop, hr, hd]

end Sys2Proof
end

