-- ==== Sys2Proof/Laws/State.lean ====
section
/-! SUPPORT. What each update of the state does to each field: one lemma per field per update, true by unfolding. -/

namespace Sys2Proof.Machine

/-! ### `State.updStation` -/

@[simp] theorem State.updStation_partTime (a : Nat) (g : Station → Station) (s : State) : (s.updStation a g).partTime =
    s.partTime := rfl
@[simp] theorem State.updStation_power (a : Nat) (g : Station → Station) (s : State) : (s.updStation a g).power =
    s.power := rfl
@[simp] theorem State.updStation_resetPin (a : Nat) (g : Station → Station) (s : State) : (s.updStation a g).resetPin =
    s.resetPin := rfl
@[simp] theorem State.updStation_control (a : Nat) (g : Station → Station) (s : State) : (s.updStation a g).control =
    s.control := rfl
@[simp] theorem State.updStation_field (a : Nat) (g : Station → Station) (s : State) : (s.updStation a g).field =
    { s.field with stations := s.field.stations.map fun r => if r.address = a then g r else r } := rfl
@[simp] theorem State.updStation_net (a : Nat) (g : Station → Station) (s : State) : (s.updStation a g).net =
    s.net := rfl
@[simp] theorem State.updStation_points (a : Nat) (g : Station → Station) (s : State) : (s.updStation a g).points =
    s.points := rfl
@[simp] theorem State.updStation_elements (a : Nat) (g : Station → Station) (s : State) : (s.updStation a g).elements =
    s.elements := rfl
@[simp] theorem State.updStation_supply (a : Nat) (g : Station → Station) (s : State) : (s.updStation a g).supply =
    s.supply := rfl
@[simp] theorem State.updStation_incidents (a : Nat) (g : Station → Station) (s : State) : (s.updStation a g).incidents =
    s.incidents := rfl
@[simp] theorem State.updStation_planner (a : Nat) (g : Station → Station) (s : State) : (s.updStation a g).planner =
    s.planner := rfl
@[simp] theorem State.updStation_register (a : Nat) (g : Station → Station) (s : State) : (s.updStation a g).register =
    s.register := rfl
@[simp] theorem State.updStation_store (a : Nat) (g : Station → Station) (s : State) : (s.updStation a g).store =
    s.store := rfl
@[simp] theorem State.updStation_drawn (a : Nat) (g : Station → Station) (s : State) : (s.updStation a g).drawn =
    s.drawn := rfl
@[simp] theorem State.updStation_pending (a : Nat) (g : Station → Station) (s : State) : (s.updStation a g).pending =
    s.pending := rfl

/-! ### `State.updPoint` -/

@[simp] theorem State.updPoint_partTime (n : Nat) (g : PointRec → PointRec) (s : State) : (s.updPoint n g).partTime =
    s.partTime := rfl
@[simp] theorem State.updPoint_power (n : Nat) (g : PointRec → PointRec) (s : State) : (s.updPoint n g).power =
    s.power := rfl
@[simp] theorem State.updPoint_resetPin (n : Nat) (g : PointRec → PointRec) (s : State) : (s.updPoint n g).resetPin =
    s.resetPin := rfl
@[simp] theorem State.updPoint_control (n : Nat) (g : PointRec → PointRec) (s : State) : (s.updPoint n g).control =
    s.control := rfl
@[simp] theorem State.updPoint_field (n : Nat) (g : PointRec → PointRec) (s : State) : (s.updPoint n g).field =
    s.field := rfl
@[simp] theorem State.updPoint_net (n : Nat) (g : PointRec → PointRec) (s : State) : (s.updPoint n g).net =
    s.net := rfl
@[simp] theorem State.updPoint_points (n : Nat) (g : PointRec → PointRec) (s : State) : (s.updPoint n g).points =
    s.points.map fun r => if r.number = n then g r else r := rfl
@[simp] theorem State.updPoint_elements (n : Nat) (g : PointRec → PointRec) (s : State) : (s.updPoint n g).elements =
    s.elements := rfl
@[simp] theorem State.updPoint_supply (n : Nat) (g : PointRec → PointRec) (s : State) : (s.updPoint n g).supply =
    s.supply := rfl
@[simp] theorem State.updPoint_incidents (n : Nat) (g : PointRec → PointRec) (s : State) : (s.updPoint n g).incidents =
    s.incidents := rfl
@[simp] theorem State.updPoint_planner (n : Nat) (g : PointRec → PointRec) (s : State) : (s.updPoint n g).planner =
    s.planner := rfl
@[simp] theorem State.updPoint_register (n : Nat) (g : PointRec → PointRec) (s : State) : (s.updPoint n g).register =
    s.register := rfl
@[simp] theorem State.updPoint_store (n : Nat) (g : PointRec → PointRec) (s : State) : (s.updPoint n g).store =
    s.store := rfl
@[simp] theorem State.updPoint_drawn (n : Nat) (g : PointRec → PointRec) (s : State) : (s.updPoint n g).drawn =
    s.drawn := rfl
@[simp] theorem State.updPoint_pending (n : Nat) (g : PointRec → PointRec) (s : State) : (s.updPoint n g).pending =
    s.pending := rfl

/-! ### `State.updElement` -/

@[simp] theorem State.updElement_partTime (n : Nat) (g : ElementRec → ElementRec) (s : State) : (s.updElement n g).partTime =
    s.partTime := rfl
@[simp] theorem State.updElement_power (n : Nat) (g : ElementRec → ElementRec) (s : State) : (s.updElement n g).power =
    s.power := rfl
@[simp] theorem State.updElement_resetPin (n : Nat) (g : ElementRec → ElementRec) (s : State) : (s.updElement n g).resetPin =
    s.resetPin := rfl
@[simp] theorem State.updElement_control (n : Nat) (g : ElementRec → ElementRec) (s : State) : (s.updElement n g).control =
    s.control := rfl
@[simp] theorem State.updElement_field (n : Nat) (g : ElementRec → ElementRec) (s : State) : (s.updElement n g).field =
    s.field := rfl
@[simp] theorem State.updElement_net (n : Nat) (g : ElementRec → ElementRec) (s : State) : (s.updElement n g).net =
    s.net := rfl
@[simp] theorem State.updElement_points (n : Nat) (g : ElementRec → ElementRec) (s : State) : (s.updElement n g).points =
    s.points := rfl
@[simp] theorem State.updElement_elements (n : Nat) (g : ElementRec → ElementRec) (s : State) : (s.updElement n g).elements =
    { s.elements with table := s.elements.table.map fun r => if r.number = n then g r else r } := rfl
@[simp] theorem State.updElement_supply (n : Nat) (g : ElementRec → ElementRec) (s : State) : (s.updElement n g).supply =
    s.supply := rfl
@[simp] theorem State.updElement_incidents (n : Nat) (g : ElementRec → ElementRec) (s : State) : (s.updElement n g).incidents =
    s.incidents := rfl
@[simp] theorem State.updElement_planner (n : Nat) (g : ElementRec → ElementRec) (s : State) : (s.updElement n g).planner =
    s.planner := rfl
@[simp] theorem State.updElement_register (n : Nat) (g : ElementRec → ElementRec) (s : State) : (s.updElement n g).register =
    s.register := rfl
@[simp] theorem State.updElement_store (n : Nat) (g : ElementRec → ElementRec) (s : State) : (s.updElement n g).store =
    s.store := rfl
@[simp] theorem State.updElement_drawn (n : Nat) (g : ElementRec → ElementRec) (s : State) : (s.updElement n g).drawn =
    s.drawn := rfl
@[simp] theorem State.updElement_pending (n : Nat) (g : ElementRec → ElementRec) (s : State) : (s.updElement n g).pending =
    s.pending := rfl

/-! ### `State.updSeg` -/

@[simp] theorem State.updSeg_partTime (n : Nat) (g : SegSupply → SegSupply) (s : State) : (s.updSeg n g).partTime =
    s.partTime := rfl
@[simp] theorem State.updSeg_power (n : Nat) (g : SegSupply → SegSupply) (s : State) : (s.updSeg n g).power =
    s.power := rfl
@[simp] theorem State.updSeg_resetPin (n : Nat) (g : SegSupply → SegSupply) (s : State) : (s.updSeg n g).resetPin =
    s.resetPin := rfl
@[simp] theorem State.updSeg_control (n : Nat) (g : SegSupply → SegSupply) (s : State) : (s.updSeg n g).control =
    s.control := rfl
@[simp] theorem State.updSeg_field (n : Nat) (g : SegSupply → SegSupply) (s : State) : (s.updSeg n g).field =
    s.field := rfl
@[simp] theorem State.updSeg_net (n : Nat) (g : SegSupply → SegSupply) (s : State) : (s.updSeg n g).net = s.net := rfl
@[simp] theorem State.updSeg_points (n : Nat) (g : SegSupply → SegSupply) (s : State) : (s.updSeg n g).points =
    s.points := rfl
@[simp] theorem State.updSeg_elements (n : Nat) (g : SegSupply → SegSupply) (s : State) : (s.updSeg n g).elements =
    s.elements := rfl
@[simp] theorem State.updSeg_supply (n : Nat) (g : SegSupply → SegSupply) (s : State) : (s.updSeg n g).supply =
    { s.supply with segs := s.supply.segs.map fun r => if r.segment = n then g r else r } := rfl
@[simp] theorem State.updSeg_incidents (n : Nat) (g : SegSupply → SegSupply) (s : State) : (s.updSeg n g).incidents =
    s.incidents := rfl
@[simp] theorem State.updSeg_planner (n : Nat) (g : SegSupply → SegSupply) (s : State) : (s.updSeg n g).planner =
    s.planner := rfl
@[simp] theorem State.updSeg_register (n : Nat) (g : SegSupply → SegSupply) (s : State) : (s.updSeg n g).register =
    s.register := rfl
@[simp] theorem State.updSeg_store (n : Nat) (g : SegSupply → SegSupply) (s : State) : (s.updSeg n g).store =
    s.store := rfl
@[simp] theorem State.updSeg_drawn (n : Nat) (g : SegSupply → SegSupply) (s : State) : (s.updSeg n g).drawn =
    s.drawn := rfl
@[simp] theorem State.updSeg_pending (n : Nat) (g : SegSupply → SegSupply) (s : State) : (s.updSeg n g).pending =
    s.pending := rfl

/-! ### `State.updOutage` -/

@[simp] theorem State.updOutage_partTime (n : Nat) (g : Outage → Outage) (s : State) : (s.updOutage n g).partTime =
    s.partTime := rfl
@[simp] theorem State.updOutage_power (n : Nat) (g : Outage → Outage) (s : State) : (s.updOutage n g).power =
    s.power := rfl
@[simp] theorem State.updOutage_resetPin (n : Nat) (g : Outage → Outage) (s : State) : (s.updOutage n g).resetPin =
    s.resetPin := rfl
@[simp] theorem State.updOutage_control (n : Nat) (g : Outage → Outage) (s : State) : (s.updOutage n g).control =
    s.control := rfl
@[simp] theorem State.updOutage_field (n : Nat) (g : Outage → Outage) (s : State) : (s.updOutage n g).field =
    s.field := rfl
@[simp] theorem State.updOutage_net (n : Nat) (g : Outage → Outage) (s : State) : (s.updOutage n g).net = s.net := rfl
@[simp] theorem State.updOutage_points (n : Nat) (g : Outage → Outage) (s : State) : (s.updOutage n g).points =
    s.points := rfl
@[simp] theorem State.updOutage_elements (n : Nat) (g : Outage → Outage) (s : State) : (s.updOutage n g).elements =
    s.elements := rfl
@[simp] theorem State.updOutage_supply (n : Nat) (g : Outage → Outage) (s : State) : (s.updOutage n g).supply =
    { s.supply with outages := s.supply.outages.map fun r => if r.segment = n then g r else r } := rfl
@[simp] theorem State.updOutage_incidents (n : Nat) (g : Outage → Outage) (s : State) : (s.updOutage n g).incidents =
    s.incidents := rfl
@[simp] theorem State.updOutage_planner (n : Nat) (g : Outage → Outage) (s : State) : (s.updOutage n g).planner =
    s.planner := rfl
@[simp] theorem State.updOutage_register (n : Nat) (g : Outage → Outage) (s : State) : (s.updOutage n g).register =
    s.register := rfl
@[simp] theorem State.updOutage_store (n : Nat) (g : Outage → Outage) (s : State) : (s.updOutage n g).store =
    s.store := rfl
@[simp] theorem State.updOutage_drawn (n : Nat) (g : Outage → Outage) (s : State) : (s.updOutage n g).drawn =
    s.drawn := rfl
@[simp] theorem State.updOutage_pending (n : Nat) (g : Outage → Outage) (s : State) : (s.updOutage n g).pending =
    s.pending := rfl

/-! ### `State.updOrder` -/

@[simp] theorem State.updOrder_partTime (n : Nat) (g : Order → Order) (s : State) : (s.updOrder n g).partTime =
    s.partTime := rfl
@[simp] theorem State.updOrder_power (n : Nat) (g : Order → Order) (s : State) : (s.updOrder n g).power =
    s.power := rfl
@[simp] theorem State.updOrder_resetPin (n : Nat) (g : Order → Order) (s : State) : (s.updOrder n g).resetPin =
    s.resetPin := rfl
@[simp] theorem State.updOrder_control (n : Nat) (g : Order → Order) (s : State) : (s.updOrder n g).control =
    s.control := rfl
@[simp] theorem State.updOrder_field (n : Nat) (g : Order → Order) (s : State) : (s.updOrder n g).field =
    s.field := rfl
@[simp] theorem State.updOrder_net (n : Nat) (g : Order → Order) (s : State) : (s.updOrder n g).net = s.net := rfl
@[simp] theorem State.updOrder_points (n : Nat) (g : Order → Order) (s : State) : (s.updOrder n g).points =
    s.points := rfl
@[simp] theorem State.updOrder_elements (n : Nat) (g : Order → Order) (s : State) : (s.updOrder n g).elements =
    { s.elements with queue := s.elements.queue.map fun r => if r.number = n then g r else r } := rfl
@[simp] theorem State.updOrder_supply (n : Nat) (g : Order → Order) (s : State) : (s.updOrder n g).supply =
    s.supply := rfl
@[simp] theorem State.updOrder_incidents (n : Nat) (g : Order → Order) (s : State) : (s.updOrder n g).incidents =
    s.incidents := rfl
@[simp] theorem State.updOrder_planner (n : Nat) (g : Order → Order) (s : State) : (s.updOrder n g).planner =
    s.planner := rfl
@[simp] theorem State.updOrder_register (n : Nat) (g : Order → Order) (s : State) : (s.updOrder n g).register =
    s.register := rfl
@[simp] theorem State.updOrder_store (n : Nat) (g : Order → Order) (s : State) : (s.updOrder n g).store =
    s.store := rfl
@[simp] theorem State.updOrder_drawn (n : Nat) (g : Order → Order) (s : State) : (s.updOrder n g).drawn =
    s.drawn := rfl
@[simp] theorem State.updOrder_pending (n : Nat) (g : Order → Order) (s : State) : (s.updOrder n g).pending =
    s.pending := rfl

/-! ### `State.updIncident` -/

@[simp] theorem State.updIncident_partTime (n : Nat) (g : Incident → Incident) (s : State) : (s.updIncident n g).partTime =
    s.partTime := rfl
@[simp] theorem State.updIncident_power (n : Nat) (g : Incident → Incident) (s : State) : (s.updIncident n g).power =
    s.power := rfl
@[simp] theorem State.updIncident_resetPin (n : Nat) (g : Incident → Incident) (s : State) : (s.updIncident n g).resetPin =
    s.resetPin := rfl
@[simp] theorem State.updIncident_control (n : Nat) (g : Incident → Incident) (s : State) : (s.updIncident n g).control =
    s.control := rfl
@[simp] theorem State.updIncident_field (n : Nat) (g : Incident → Incident) (s : State) : (s.updIncident n g).field =
    s.field := rfl
@[simp] theorem State.updIncident_net (n : Nat) (g : Incident → Incident) (s : State) : (s.updIncident n g).net =
    s.net := rfl
@[simp] theorem State.updIncident_points (n : Nat) (g : Incident → Incident) (s : State) : (s.updIncident n g).points =
    s.points := rfl
@[simp] theorem State.updIncident_elements (n : Nat) (g : Incident → Incident) (s : State) : (s.updIncident n g).elements =
    s.elements := rfl
@[simp] theorem State.updIncident_supply (n : Nat) (g : Incident → Incident) (s : State) : (s.updIncident n g).supply =
    s.supply := rfl
@[simp] theorem State.updIncident_incidents (n : Nat) (g : Incident → Incident) (s : State) : (s.updIncident n g).incidents =
    { s.incidents with slots := s.incidents.slots.map fun x => x.map fun i => if i.number = n then g i else i } := rfl
@[simp] theorem State.updIncident_planner (n : Nat) (g : Incident → Incident) (s : State) : (s.updIncident n g).planner =
    s.planner := rfl
@[simp] theorem State.updIncident_register (n : Nat) (g : Incident → Incident) (s : State) : (s.updIncident n g).register =
    s.register := rfl
@[simp] theorem State.updIncident_store (n : Nat) (g : Incident → Incident) (s : State) : (s.updIncident n g).store =
    s.store := rfl
@[simp] theorem State.updIncident_drawn (n : Nat) (g : Incident → Incident) (s : State) : (s.updIncident n g).drawn =
    s.drawn := rfl
@[simp] theorem State.updIncident_pending (n : Nat) (g : Incident → Incident) (s : State) : (s.updIncident n g).pending =
    s.pending := rfl

/-! ### `State.updRecord` -/

@[simp] theorem State.updRecord_partTime (k : Nat) (g : IsoRecord → IsoRecord) (s : State) : (s.updRecord k g).partTime =
    s.partTime := rfl
@[simp] theorem State.updRecord_power (k : Nat) (g : IsoRecord → IsoRecord) (s : State) : (s.updRecord k g).power =
    s.power := rfl
@[simp] theorem State.updRecord_resetPin (k : Nat) (g : IsoRecord → IsoRecord) (s : State) : (s.updRecord k g).resetPin =
    s.resetPin := rfl
@[simp] theorem State.updRecord_control (k : Nat) (g : IsoRecord → IsoRecord) (s : State) : (s.updRecord k g).control =
    s.control := rfl
@[simp] theorem State.updRecord_field (k : Nat) (g : IsoRecord → IsoRecord) (s : State) : (s.updRecord k g).field =
    s.field := rfl
@[simp] theorem State.updRecord_net (k : Nat) (g : IsoRecord → IsoRecord) (s : State) : (s.updRecord k g).net =
    s.net := rfl
@[simp] theorem State.updRecord_points (k : Nat) (g : IsoRecord → IsoRecord) (s : State) : (s.updRecord k g).points =
    s.points := rfl
@[simp] theorem State.updRecord_elements (k : Nat) (g : IsoRecord → IsoRecord) (s : State) : (s.updRecord k g).elements =
    s.elements := rfl
@[simp] theorem State.updRecord_supply (k : Nat) (g : IsoRecord → IsoRecord) (s : State) : (s.updRecord k g).supply =
    s.supply := rfl
@[simp] theorem State.updRecord_incidents (k : Nat) (g : IsoRecord → IsoRecord) (s : State) : (s.updRecord k g).incidents =
    s.incidents := rfl
@[simp] theorem State.updRecord_planner (k : Nat) (g : IsoRecord → IsoRecord) (s : State) : (s.updRecord k g).planner =
    s.planner := rfl
@[simp] theorem State.updRecord_register (k : Nat) (g : IsoRecord → IsoRecord) (s : State) : (s.updRecord k g).register =
    { records := s.register.records.modify k (Option.map g) } := rfl
@[simp] theorem State.updRecord_store (k : Nat) (g : IsoRecord → IsoRecord) (s : State) : (s.updRecord k g).store =
    s.store := rfl
@[simp] theorem State.updRecord_drawn (k : Nat) (g : IsoRecord → IsoRecord) (s : State) : (s.updRecord k g).drawn =
    s.drawn := rfl
@[simp] theorem State.updRecord_pending (k : Nat) (g : IsoRecord → IsoRecord) (s : State) : (s.updRecord k g).pending =
    s.pending := rfl

/-! ### `State.setStandby` -/

@[simp] theorem State.setStandby_partTime (s : State) (x : Standby) : (s.setStandby x).partTime = s.partTime := rfl
@[simp] theorem State.setStandby_power (s : State) (x : Standby) : (s.setStandby x).power = s.power := rfl
@[simp] theorem State.setStandby_resetPin (s : State) (x : Standby) : (s.setStandby x).resetPin = s.resetPin := rfl
@[simp] theorem State.setStandby_control (s : State) (x : Standby) : (s.setStandby x).control = s.control := rfl
@[simp] theorem State.setStandby_field (s : State) (x : Standby) : (s.setStandby x).field = s.field := rfl
@[simp] theorem State.setStandby_net (s : State) (x : Standby) : (s.setStandby x).net =
    { s.net with standby := x } := rfl
@[simp] theorem State.setStandby_points (s : State) (x : Standby) : (s.setStandby x).points = s.points := rfl
@[simp] theorem State.setStandby_elements (s : State) (x : Standby) : (s.setStandby x).elements = s.elements := rfl
@[simp] theorem State.setStandby_supply (s : State) (x : Standby) : (s.setStandby x).supply = s.supply := rfl
@[simp] theorem State.setStandby_incidents (s : State) (x : Standby) : (s.setStandby x).incidents = s.incidents := rfl
@[simp] theorem State.setStandby_planner (s : State) (x : Standby) : (s.setStandby x).planner = s.planner := rfl
@[simp] theorem State.setStandby_register (s : State) (x : Standby) : (s.setStandby x).register = s.register := rfl
@[simp] theorem State.setStandby_store (s : State) (x : Standby) : (s.setStandby x).store = s.store := rfl
@[simp] theorem State.setStandby_drawn (s : State) (x : Standby) : (s.setStandby x).drawn = s.drawn := rfl
@[simp] theorem State.setStandby_pending (s : State) (x : Standby) : (s.setStandby x).pending = s.pending := rfl

/-! ### `bumpBasis` -/

@[simp] theorem bumpBasis_partTime (s : State) : (bumpBasis s).partTime = s.partTime := rfl
@[simp] theorem bumpBasis_power (s : State) : (bumpBasis s).power = s.power := rfl
@[simp] theorem bumpBasis_resetPin (s : State) : (bumpBasis s).resetPin = s.resetPin := rfl
@[simp] theorem bumpBasis_control (s : State) : (bumpBasis s).control = s.control := rfl
@[simp] theorem bumpBasis_field (s : State) : (bumpBasis s).field = s.field := rfl
@[simp] theorem bumpBasis_net (s : State) : (bumpBasis s).net = { s.net with basis := s.net.basis + 1 } := rfl
@[simp] theorem bumpBasis_points (s : State) : (bumpBasis s).points = s.points := rfl
@[simp] theorem bumpBasis_elements (s : State) : (bumpBasis s).elements = s.elements := rfl
@[simp] theorem bumpBasis_supply (s : State) : (bumpBasis s).supply = s.supply := rfl
@[simp] theorem bumpBasis_incidents (s : State) : (bumpBasis s).incidents = s.incidents := rfl
@[simp] theorem bumpBasis_planner (s : State) : (bumpBasis s).planner = s.planner := rfl
@[simp] theorem bumpBasis_register (s : State) : (bumpBasis s).register = s.register := rfl
@[simp] theorem bumpBasis_store (s : State) : (bumpBasis s).store = s.store := rfl
@[simp] theorem bumpBasis_drawn (s : State) : (bumpBasis s).drawn = s.drawn := rfl
@[simp] theorem bumpBasis_pending (s : State) : (bumpBasis s).pending = s.pending := rfl

/-! ### `huntControl` -/

@[simp] theorem huntControl_partTime (s : State) : (huntControl s).partTime = s.partTime := rfl
@[simp] theorem huntControl_power (s : State) : (huntControl s).power = s.power := rfl
@[simp] theorem huntControl_resetPin (s : State) : (huntControl s).resetPin = s.resetPin := rfl
@[simp] theorem huntControl_control (s : State) : (huntControl s).control = { s.control with rx := [] } := rfl
@[simp] theorem huntControl_field (s : State) : (huntControl s).field = s.field := rfl
@[simp] theorem huntControl_net (s : State) : (huntControl s).net = s.net := rfl
@[simp] theorem huntControl_points (s : State) : (huntControl s).points = s.points := rfl
@[simp] theorem huntControl_elements (s : State) : (huntControl s).elements = s.elements := rfl
@[simp] theorem huntControl_supply (s : State) : (huntControl s).supply = s.supply := rfl
@[simp] theorem huntControl_incidents (s : State) : (huntControl s).incidents = s.incidents := rfl
@[simp] theorem huntControl_planner (s : State) : (huntControl s).planner = s.planner := rfl
@[simp] theorem huntControl_register (s : State) : (huntControl s).register = s.register := rfl
@[simp] theorem huntControl_store (s : State) : (huntControl s).store = s.store := rfl
@[simp] theorem huntControl_drawn (s : State) : (huntControl s).drawn = s.drawn := rfl
@[simp] theorem huntControl_pending (s : State) : (huntControl s).pending = s.pending := rfl

/-! ### `huntField` -/

@[simp] theorem huntField_partTime (s : State) : (huntField s).partTime = s.partTime := rfl
@[simp] theorem huntField_power (s : State) : (huntField s).power = s.power := rfl
@[simp] theorem huntField_resetPin (s : State) : (huntField s).resetPin = s.resetPin := rfl
@[simp] theorem huntField_control (s : State) : (huntField s).control = s.control := rfl
@[simp] theorem huntField_field (s : State) : (huntField s).field = { s.field with rx := [] } := rfl
@[simp] theorem huntField_net (s : State) : (huntField s).net = s.net := rfl
@[simp] theorem huntField_points (s : State) : (huntField s).points = s.points := rfl
@[simp] theorem huntField_elements (s : State) : (huntField s).elements = s.elements := rfl
@[simp] theorem huntField_supply (s : State) : (huntField s).supply = s.supply := rfl
@[simp] theorem huntField_incidents (s : State) : (huntField s).incidents = s.incidents := rfl
@[simp] theorem huntField_planner (s : State) : (huntField s).planner = s.planner := rfl
@[simp] theorem huntField_register (s : State) : (huntField s).register = s.register := rfl
@[simp] theorem huntField_store (s : State) : (huntField s).store = s.store := rfl
@[simp] theorem huntField_drawn (s : State) : (huntField s).drawn = s.drawn := rfl
@[simp] theorem huntField_pending (s : State) : (huntField s).pending = s.pending := rfl

/-! ### `draw` -/

@[simp] theorem draw_partTime (s : State) : (draw s).partTime = s.partTime := rfl
@[simp] theorem draw_power (s : State) : (draw s).power = s.power := rfl
@[simp] theorem draw_resetPin (s : State) : (draw s).resetPin = s.resetPin := rfl
@[simp] theorem draw_control (s : State) : (draw s).control = s.control := rfl
@[simp] theorem draw_field (s : State) : (draw s).field = s.field := rfl
@[simp] theorem draw_net (s : State) : (draw s).net = s.net := rfl
@[simp] theorem draw_points (s : State) : (draw s).points = s.points := rfl
@[simp] theorem draw_elements (s : State) : (draw s).elements = s.elements := rfl
@[simp] theorem draw_supply (s : State) : (draw s).supply = s.supply := rfl
@[simp] theorem draw_incidents (s : State) : (draw s).incidents = s.incidents := rfl
@[simp] theorem draw_planner (s : State) : (draw s).planner = s.planner := rfl
@[simp] theorem draw_register (s : State) : (draw s).register = s.register := rfl
@[simp] theorem draw_store (s : State) : (draw s).store = s.store := rfl
@[simp] theorem draw_drawn (s : State) : (draw s).drawn = s.drawn + 1 := rfl
@[simp] theorem draw_pending (s : State) : (draw s).pending = s.pending := rfl

/-! ### `emptyBuffer` -/

@[simp] theorem emptyBuffer_partTime (s : State) : (emptyBuffer s).partTime = s.partTime := rfl
@[simp] theorem emptyBuffer_power (s : State) : (emptyBuffer s).power = s.power := rfl
@[simp] theorem emptyBuffer_resetPin (s : State) : (emptyBuffer s).resetPin = s.resetPin := rfl
@[simp] theorem emptyBuffer_control (s : State) : (emptyBuffer s).control = s.control := rfl
@[simp] theorem emptyBuffer_field (s : State) : (emptyBuffer s).field = s.field := rfl
@[simp] theorem emptyBuffer_net (s : State) : (emptyBuffer s).net = s.net := rfl
@[simp] theorem emptyBuffer_points (s : State) : (emptyBuffer s).points = s.points := rfl
@[simp] theorem emptyBuffer_elements (s : State) : (emptyBuffer s).elements = s.elements := rfl
@[simp] theorem emptyBuffer_supply (s : State) : (emptyBuffer s).supply = s.supply := rfl
@[simp] theorem emptyBuffer_incidents (s : State) : (emptyBuffer s).incidents = s.incidents := rfl
@[simp] theorem emptyBuffer_planner (s : State) : (emptyBuffer s).planner = { s.planner with buffer := .empty } := rfl
@[simp] theorem emptyBuffer_register (s : State) : (emptyBuffer s).register = s.register := rfl
@[simp] theorem emptyBuffer_store (s : State) : (emptyBuffer s).store = s.store := rfl
@[simp] theorem emptyBuffer_drawn (s : State) : (emptyBuffer s).drawn = s.drawn := rfl
@[simp] theorem emptyBuffer_pending (s : State) : (emptyBuffer s).pending = s.pending := rfl

/-! ### `leaveQueue` -/

@[simp] theorem leaveQueue_partTime (n : Nat) (s : State) : (leaveQueue n s).partTime = s.partTime := rfl
@[simp] theorem leaveQueue_power (n : Nat) (s : State) : (leaveQueue n s).power = s.power := rfl
@[simp] theorem leaveQueue_resetPin (n : Nat) (s : State) : (leaveQueue n s).resetPin = s.resetPin := rfl
@[simp] theorem leaveQueue_control (n : Nat) (s : State) : (leaveQueue n s).control = s.control := rfl
@[simp] theorem leaveQueue_field (n : Nat) (s : State) : (leaveQueue n s).field = s.field := rfl
@[simp] theorem leaveQueue_net (n : Nat) (s : State) : (leaveQueue n s).net = s.net := rfl
@[simp] theorem leaveQueue_points (n : Nat) (s : State) : (leaveQueue n s).points = s.points := rfl
@[simp] theorem leaveQueue_elements (n : Nat) (s : State) : (leaveQueue n s).elements =
    { s.elements with queue := s.elements.queue.filter fun o => o.number ≠ n } := rfl
@[simp] theorem leaveQueue_supply (n : Nat) (s : State) : (leaveQueue n s).supply = s.supply := rfl
@[simp] theorem leaveQueue_incidents (n : Nat) (s : State) : (leaveQueue n s).incidents = s.incidents := rfl
@[simp] theorem leaveQueue_planner (n : Nat) (s : State) : (leaveQueue n s).planner = s.planner := rfl
@[simp] theorem leaveQueue_register (n : Nat) (s : State) : (leaveQueue n s).register = s.register := rfl
@[simp] theorem leaveQueue_store (n : Nat) (s : State) : (leaveQueue n s).store = s.store := rfl
@[simp] theorem leaveQueue_drawn (n : Nat) (s : State) : (leaveQueue n s).drawn = s.drawn := rfl
@[simp] theorem leaveQueue_pending (n : Nat) (s : State) : (leaveQueue n s).pending = s.pending := rfl

/-! ### `setStation` -/

@[simp] theorem setStation_partTime (t : Station) (s : State) : (setStation t s).partTime = s.partTime := rfl
@[simp] theorem setStation_power (t : Station) (s : State) : (setStation t s).power = s.power := rfl
@[simp] theorem setStation_resetPin (t : Station) (s : State) : (setStation t s).resetPin = s.resetPin := rfl
@[simp] theorem setStation_control (t : Station) (s : State) : (setStation t s).control = s.control := rfl
@[simp] theorem setStation_field (t : Station) (s : State) : (setStation t s).field =
    { s.field with stations := s.field.stations.map fun r => if r.address = t.address then t else r } := rfl
@[simp] theorem setStation_net (t : Station) (s : State) : (setStation t s).net = s.net := rfl
@[simp] theorem setStation_points (t : Station) (s : State) : (setStation t s).points = s.points := rfl
@[simp] theorem setStation_elements (t : Station) (s : State) : (setStation t s).elements = s.elements := rfl
@[simp] theorem setStation_supply (t : Station) (s : State) : (setStation t s).supply = s.supply := rfl
@[simp] theorem setStation_incidents (t : Station) (s : State) : (setStation t s).incidents = s.incidents := rfl
@[simp] theorem setStation_planner (t : Station) (s : State) : (setStation t s).planner = s.planner := rfl
@[simp] theorem setStation_register (t : Station) (s : State) : (setStation t s).register = s.register := rfl
@[simp] theorem setStation_store (t : Station) (s : State) : (setStation t s).store = s.store := rfl
@[simp] theorem setStation_drawn (t : Station) (s : State) : (setStation t s).drawn = s.drawn := rfl
@[simp] theorem setStation_pending (t : Station) (s : State) : (setStation t s).pending = s.pending := rfl

/-! ### `setRecord` -/

@[simp] theorem setRecord_partTime (k : Nat) (r : IsoRecord) (s : State) : (setRecord k r s).partTime =
    s.partTime := rfl
@[simp] theorem setRecord_power (k : Nat) (r : IsoRecord) (s : State) : (setRecord k r s).power = s.power := rfl
@[simp] theorem setRecord_resetPin (k : Nat) (r : IsoRecord) (s : State) : (setRecord k r s).resetPin =
    s.resetPin := rfl
@[simp] theorem setRecord_control (k : Nat) (r : IsoRecord) (s : State) : (setRecord k r s).control = s.control := rfl
@[simp] theorem setRecord_field (k : Nat) (r : IsoRecord) (s : State) : (setRecord k r s).field = s.field := rfl
@[simp] theorem setRecord_net (k : Nat) (r : IsoRecord) (s : State) : (setRecord k r s).net = s.net := rfl
@[simp] theorem setRecord_points (k : Nat) (r : IsoRecord) (s : State) : (setRecord k r s).points = s.points := rfl
@[simp] theorem setRecord_elements (k : Nat) (r : IsoRecord) (s : State) : (setRecord k r s).elements =
    s.elements := rfl
@[simp] theorem setRecord_supply (k : Nat) (r : IsoRecord) (s : State) : (setRecord k r s).supply = s.supply := rfl
@[simp] theorem setRecord_incidents (k : Nat) (r : IsoRecord) (s : State) : (setRecord k r s).incidents =
    s.incidents := rfl
@[simp] theorem setRecord_planner (k : Nat) (r : IsoRecord) (s : State) : (setRecord k r s).planner = s.planner := rfl
@[simp] theorem setRecord_register (k : Nat) (r : IsoRecord) (s : State) : (setRecord k r s).register =
    { records := s.register.records.set k (some r) } := rfl
@[simp] theorem setRecord_store (k : Nat) (r : IsoRecord) (s : State) : (setRecord k r s).store = s.store := rfl
@[simp] theorem setRecord_drawn (k : Nat) (r : IsoRecord) (s : State) : (setRecord k r s).drawn = s.drawn := rfl
@[simp] theorem setRecord_pending (k : Nat) (r : IsoRecord) (s : State) : (setRecord k r s).pending = s.pending := rfl

/-! ### `freeRecord` -/

@[simp] theorem freeRecord_partTime (k : Nat) (s : State) : (freeRecord k s).partTime = s.partTime := rfl
@[simp] theorem freeRecord_power (k : Nat) (s : State) : (freeRecord k s).power = s.power := rfl
@[simp] theorem freeRecord_resetPin (k : Nat) (s : State) : (freeRecord k s).resetPin = s.resetPin := rfl
@[simp] theorem freeRecord_control (k : Nat) (s : State) : (freeRecord k s).control = s.control := rfl
@[simp] theorem freeRecord_field (k : Nat) (s : State) : (freeRecord k s).field = s.field := rfl
@[simp] theorem freeRecord_net (k : Nat) (s : State) : (freeRecord k s).net = s.net := rfl
@[simp] theorem freeRecord_points (k : Nat) (s : State) : (freeRecord k s).points = s.points := rfl
@[simp] theorem freeRecord_elements (k : Nat) (s : State) : (freeRecord k s).elements = s.elements := rfl
@[simp] theorem freeRecord_supply (k : Nat) (s : State) : (freeRecord k s).supply = s.supply := rfl
@[simp] theorem freeRecord_incidents (k : Nat) (s : State) : (freeRecord k s).incidents = s.incidents := rfl
@[simp] theorem freeRecord_planner (k : Nat) (s : State) : (freeRecord k s).planner = s.planner := rfl
@[simp] theorem freeRecord_register (k : Nat) (s : State) : (freeRecord k s).register =
    { records := s.register.records.set k none } := rfl
@[simp] theorem freeRecord_store (k : Nat) (s : State) : (freeRecord k s).store = s.store := rfl
@[simp] theorem freeRecord_drawn (k : Nat) (s : State) : (freeRecord k s).drawn = s.drawn := rfl
@[simp] theorem freeRecord_pending (k : Nat) (s : State) : (freeRecord k s).pending = s.pending := rfl

end Sys2Proof.Machine
end

