-- ==== Sys2Proof/Laws/Tables.lean ====
section
/-! SUPPORT. Lists kept by number, and what a table reads after one of its records is updated. -/

namespace Sys2Proof.Machine

/-! ### Ascending insertion and sorting -/

theorem insertBy_perm {α : Type} (key : α → Nat) (x : α) (l : List α) : (insertBy key x l).Perm (x :: l) := by
  induction l with
  | nil => exact List.Perm.refl _
  | cons y ys ih =>
    unfold insertBy
    split
    · exact List.Perm.refl _
    · exact (ih.cons y).trans (List.Perm.swap x y ys)

@[simp] theorem mem_insertBy {α : Type} (key : α → Nat) (x z : α) (l : List α) :
    z ∈ insertBy key x l ↔ z = x ∨ z ∈ l := by
  simp [(insertBy_perm key x l).mem_iff]

theorem insertBy_ascending {α : Type} (key : α → Nat) (x : α) (l : List α)
    (h : l.Pairwise fun a b => key a ≤ key b) : (insertBy key x l).Pairwise fun a b => key a ≤ key b := by
  induction l with
  | nil => simp [insertBy]
  | cons y ys ih =>
    unfold insertBy
    obtain ⟨hy, hys⟩ := List.pairwise_cons.mp h
    split
    · next hxy =>
      refine List.pairwise_cons.mpr ⟨?_, h⟩
      intro z hz
      rcases List.mem_cons.mp hz with rfl | hz
      · exact hxy
      · exact le_trans hxy (hy z hz)
    · next hxy =>
      refine List.pairwise_cons.mpr ⟨?_, ih hys⟩
      intro z hz
      rcases (mem_insertBy key x z ys).mp hz with rfl | hz
      · omega
      · exact hy z hz

theorem sortBy_perm {α : Type} (key : α → Nat) (l : List α) : (sortBy key l).Perm l := by
  induction l with
  | nil => exact List.Perm.refl _
  | cons x xs ih => exact (insertBy_perm key x _).trans (ih.cons x)

@[simp] theorem mem_sortBy {α : Type} (key : α → Nat) (x : α) (l : List α) : x ∈ sortBy key l ↔ x ∈ l :=
  (sortBy_perm key l).mem_iff

theorem sortBy_ascending {α : Type} (key : α → Nat) (l : List α) :
    (sortBy key l).Pairwise fun a b => key a ≤ key b := by
  induction l with
  | nil => exact List.Pairwise.nil
  | cons x xs ih => exact insertBy_ascending key x _ ih

/-! ### The lowest number and a free number -/

theorem foldl_min_le (ns : List Nat) (n : Nat) : ns.foldl min n ≤ n ∧ (∀ m ∈ ns, ns.foldl min n ≤ m) ∧
    (ns.foldl min n = n ∨ ns.foldl min n ∈ ns) := by
  induction ns generalizing n with
  | nil => simp
  | cons a as ih =>
    obtain ⟨h1, h2, h3⟩ := ih (min n a)
    refine ⟨le_trans h1 (Nat.min_le_left _ _), ?_, ?_⟩
    · intro m hm
      rcases List.mem_cons.mp hm with rfl | hm
      · exact le_trans h1 (Nat.min_le_right _ _)
      · exact h2 m hm
    · rcases h3 with h3 | h3
      · rcases Nat.le_total n a with h | h
        · left
          simpa [Nat.min_eq_left h] using h3
        · right
          rw [Nat.min_eq_right h] at h3
          simp [List.foldl_cons, Nat.min_eq_right h, h3]
      · right
        exact List.mem_cons_of_mem _ h3

/-- The lowest member is a member, and no member is below it; there is none of no numbers. -/
theorem lowest_eq_some_iff (l : List Nat) (n : Nat) : lowest l = some n ↔ n ∈ l ∧ ∀ m ∈ l, n ≤ m := by
  cases l with
  | nil => simp [lowest]
  | cons a as =>
    obtain ⟨h1, h2, h3⟩ := foldl_min_le as a
    simp only [lowest, Option.some.injEq]
    constructor
    · rintro rfl
      refine ⟨?_, ?_⟩
      · rcases h3 with h3 | h3
        · rw [h3]; exact List.mem_cons_self
        · exact List.mem_cons_of_mem _ h3
      · intro m hm
        rcases List.mem_cons.mp hm with rfl | hm
        · exact h1
        · exact h2 m hm
    · rintro ⟨hm, hle⟩
      apply le_antisymm
      · rcases List.mem_cons.mp hm with rfl | hm
        · exact h1
        · exact h2 n hm
      · rcases h3 with h3 | h3
        · rw [h3]; exact hle a List.mem_cons_self
        · exact hle _ (List.mem_cons_of_mem _ h3)

@[simp] theorem lowest_eq_none_iff (l : List Nat) : lowest l = none ↔ l = [] := by
  cases l <;> simp [lowest]

/-- A number that no one holds is taken as it stands (R87, R116). -/
theorem freeNumber_of_free (top : Nat) (held : List Nat) (fuel n : Nat) (h : n ∉ held) :
    freeNumber top held (fuel + 1) n = n := by
  simp [freeNumber, h]

theorem after_range (top n : Nat) (h : 1 ≤ top) : 1 ≤ after top n ∧ after top n ≤ top := by
  unfold after
  split <;> omega

/-- The number found stays in 1..`top` (R87, R116). -/
theorem freeNumber_range (top : Nat) (held : List Nat) (fuel n : Nat) (h : 1 ≤ n ∧ n ≤ top) :
    1 ≤ freeNumber top held fuel n ∧ freeNumber top held fuel n ≤ top := by
  induction fuel generalizing n with
  | zero => exact h
  | succ k ih =>
    unfold freeNumber
    split
    · exact ih _ (after_range top n (le_trans h.1 h.2))
    · exact h

/-! ### A table with one record updated -/

theorem find?_upd {α : Type} (key : α → Nat) (n m : Nat) (g : α → α) (hg : ∀ r, key r = n → key (g r) = n)
    (l : List α) :
    (l.map fun r => if key r = n then g r else r).find? (fun r => decide (key r = m)) =
      (l.find? fun r => decide (key r = m)).map fun r => if key r = n then g r else r := by
  induction l with
  | nil => rfl
  | cons a as ih =>
    by_cases han : key a = n
    · by_cases hnm : n = m
      · subst hnm; simp [han, hg a han]
      · simp [han, hg a han, hnm, ih]
    · by_cases ham : key a = m
      · have : ¬ m = n := fun h => han (ham.trans h)
        simp [ham, this]
      · simp [han, ham, ih]

/-- A record found under a number bears it. -/
theorem key_of_find? {α : Type} (key : α → Nat) (n : Nat) (l : List α) (r : α)
    (h : (l.find? fun r => decide (key r = n)) = some r) : key r = n ∧ r ∈ l :=
  ⟨by simpa using List.find?_some h, List.mem_of_find?_eq_some h⟩

theorem map_key_upd {α : Type} (key : α → Nat) (n : Nat) (g : α → α) (hg : ∀ r, key r = n → key (g r) = n)
    (l : List α) : (l.map fun r => if key r = n then g r else r).map key = l.map key := by
  induction l with
  | nil => rfl
  | cons a as ih =>
    by_cases h : key a = n
    · rw [List.map_cons, List.map_cons, ih, if_pos h, hg a h, List.map_cons, h]
    · simp only [List.map_cons, if_neg h, ih]

theorem station?_updStation (s : State) (a b : Nat) (g : Station → Station) (hg : ∀ r, r.address = a → (g r).address = a) :
    (s.updStation a g).station? b = (s.station? b).map fun r => if r.address = a then g r else r :=
  find?_upd Station.address a b g hg s.field.stations

theorem point?_updPoint (s : State) (n m : Nat) (g : PointRec → PointRec) (hg : ∀ r, r.number = n → (g r).number = n) :
    (s.updPoint n g).point? m = (s.point? m).map fun r => if r.number = n then g r else r :=
  find?_upd PointRec.number n m g hg s.points

theorem element?_updElement (s : State) (n m : Nat) (g : ElementRec → ElementRec)
    (hg : ∀ r, r.number = n → (g r).number = n) :
    (s.updElement n g).element? m = (s.element? m).map fun r => if r.number = n then g r else r :=
  find?_upd ElementRec.number n m g hg s.elements.table

theorem seg?_updSeg (s : State) (n m : Nat) (g : SegSupply → SegSupply) (hg : ∀ r, r.segment = n → (g r).segment = n) :
    (s.updSeg n g).seg? m = (s.seg? m).map fun r => if r.segment = n then g r else r :=
  find?_upd SegSupply.segment n m g hg s.supply.segs

theorem outage?_updOutage (s : State) (n m : Nat) (g : Outage → Outage) (hg : ∀ r, r.segment = n → (g r).segment = n) :
    (s.updOutage n g).outage? m = (s.outage? m).map fun r => if r.segment = n then g r else r :=
  find?_upd Outage.segment n m g hg s.supply.outages

theorem order?_updOrder (s : State) (n m : Nat) (g : Order → Order) (hg : ∀ r, r.number = n → (g r).number = n) :
    (s.updOrder n g).order? m = (s.order? m).map fun r => if r.number = n then g r else r :=
  find?_upd Order.number n m g hg s.elements.queue

theorem incidentList_updIncident (s : State) (n : Nat) (g : Incident → Incident) :
    (s.updIncident n g).incidentList = s.incidentList.map fun i => if i.number = n then g i else i := by
  simp only [State.incidentList, State.updIncident_incidents, List.filterMap_map]
  induction s.incidents.slots with
  | nil => rfl
  | cons x xs ih => cases x <;> simp_all

theorem incident?_updIncident (s : State) (n m : Nat) (g : Incident → Incident)
    (hg : ∀ i, i.number = n → (g i).number = n) :
    (s.updIncident n g).incident? m = (s.incident? m).map fun i => if i.number = n then g i else i := by
  simp only [State.incident?, incidentList_updIncident]
  exact find?_upd Incident.number n m g hg s.incidentList

/-- An update of one table leaves the reads of the others as they were. -/
@[simp] theorem State.station?_updPoint (s : State) (n m : Nat) (g : PointRec → PointRec) :
    (s.updPoint n g).station? m = s.station? m := rfl
@[simp] theorem State.station?_updElement (s : State) (n m : Nat) (g : ElementRec → ElementRec) :
    (s.updElement n g).station? m = s.station? m := rfl
@[simp] theorem State.station?_updOrder (s : State) (n m : Nat) (g : Order → Order) :
    (s.updOrder n g).station? m = s.station? m := rfl
@[simp] theorem State.element?_updStation (s : State) (n m : Nat) (g : Station → Station) :
    (s.updStation n g).element? m = s.element? m := rfl
@[simp] theorem State.element?_updPoint (s : State) (n m : Nat) (g : PointRec → PointRec) :
    (s.updPoint n g).element? m = s.element? m := rfl
@[simp] theorem State.element?_updOrder (s : State) (n m : Nat) (g : Order → Order) :
    (s.updOrder n g).element? m = s.element? m := rfl
@[simp] theorem State.element?_updSeg (s : State) (n m : Nat) (g : SegSupply → SegSupply) :
    (s.updSeg n g).element? m = s.element? m := rfl
@[simp] theorem State.point?_updStation (s : State) (n m : Nat) (g : Station → Station) :
    (s.updStation n g).point? m = s.point? m := rfl
@[simp] theorem State.point?_updElement (s : State) (n m : Nat) (g : ElementRec → ElementRec) :
    (s.updElement n g).point? m = s.point? m := rfl
@[simp] theorem State.point?_updSeg (s : State) (n m : Nat) (g : SegSupply → SegSupply) :
    (s.updSeg n g).point? m = s.point? m := rfl
@[simp] theorem State.seg?_updOutage (s : State) (n m : Nat) (g : Outage → Outage) :
    (s.updOutage n g).seg? m = s.seg? m := rfl
@[simp] theorem State.outage?_updSeg (s : State) (n m : Nat) (g : SegSupply → SegSupply) :
    (s.updSeg n g).outage? m = s.outage? m := rfl
@[simp] theorem State.order?_updElement (s : State) (n m : Nat) (g : ElementRec → ElementRec) :
    (s.updElement n g).order? m = s.order? m := rfl

end Sys2Proof.Machine
end

