-- ==== Sys2Proof/Laws/Network.lean ====
section
/-! SUPPORT. Records of an image found by number, one round of the closure, and passability. -/

namespace Sys2Proof.Machine

theorem find?_of_mem_nodup {α : Type} (key : α → Nat) (l : List α) (h : (l.map key).Nodup) (a : α) (ha : a ∈ l) :
    (l.find? fun r => decide (key r = key a)) = some a := by
  induction l with
  | nil => cases ha
  | cons b l ih =>
    obtain ⟨hb, hl⟩ := List.nodup_cons.mp h
    rcases List.mem_cons.mp ha with rfl | ha
    · simp
    · have : ¬ key b = key a := fun e => hb (e ▸ List.mem_map_of_mem ha)
      simp [this, ih hl ha]

theorem NumbersDistinct.element? {img : Image} (h : NumbersDistinct img) {e : Element} (he : e ∈ img.elements) :
    img.element? e.number = some e := find?_of_mem_nodup Element.number _ h.elements e he

theorem NumbersDistinct.segment? {img : Image} (h : NumbersDistinct img) {x : Segment} (hx : x ∈ img.segments) :
    img.segment? x.number = some x := find?_of_mem_nodup Segment.number _ h.segments x hx

theorem Image.element?_mem {img : Image} {n : Nat} {e : Element} (h : img.element? n = some e) :
    e ∈ img.elements ∧ e.number = n :=
  ⟨List.mem_of_find?_eq_some h, by simpa using List.find?_some h⟩

theorem Image.segment?_mem {img : Image} {n : Nat} {x : Segment} (h : img.segment? n = some x) :
    x ∈ img.segments ∧ x.number = n :=
  ⟨List.mem_of_find?_eq_some h, by simpa using List.find?_some h⟩

/-- An image holds a segment exactly when a lookup finds it (R14). -/
theorem Image.segment?_isSome (img : Image) (n : Nat) : (img.segment? n).isSome = true ↔ img.holds .segment n := by
  simp [Image.segment?, Image.holds]

theorem Image.element?_isSome (img : Image) (n : Nat) : (img.element? n).isSome = true ↔ img.holds .element n := by
  simp [Image.element?, Image.holds]

theorem Image.point?_isSome (img : Image) (n : Nat) : (img.point? n).isSome = true ↔ img.holds .point n := by
  simp [Image.point?, Image.holds]

theorem Image.station?_isSome (img : Image) (n : Nat) : (img.station? n).isSome = true ↔ img.holds .station n := by
  simp [Image.station?, Image.holds]

/-- One round of the closure keeps what it has and adds every segment that a passable element carries gas into (R10). -/
theorem mem_reachRound (img : Image) (pass : Nat → Bool) (set : List Nat) (n : Nat) :
    n ∈ reachRound img pass set ↔ img.holds .segment n ∧
      (n ∈ set ∨ ∃ e ∈ img.elements, pass e.number = true ∧ carriesInto e set n = true) := by
  simp only [reachRound, List.mem_filter, List.mem_map, Image.holds, Bool.or_eq_true, List.contains_iff_mem,
    List.any_eq_true, Bool.and_eq_true]

/-- An element with a record passes gas unless it is CLOSED (R9). -/
theorem State.passable_of_record {s : State} {n : Nat} {r : ElementRec} (h : s.element? n = some r) :
    s.passable n = r.state.passes := by
  simp [State.passable, h]

@[simp] theorem ElementState.passes_eq_false (x : ElementState) : x.passes = false ↔ x = .closed := by
  cases x <;> simp [ElementState.passes]

/-- Reachability reads the active image and the element table alone (R10). -/
theorem State.reachable_congr {s t : State} (hn : t.net.active = s.net.active) (he : t.elements.table = s.elements.table) :
    t.reachable = s.reachable := by
  have hp : t.passable = s.passable := by
    funext n
    simp only [State.passable, State.element?, he]
  simp only [State.reachable, hn, hp]

end Sys2Proof.Machine
end

