-- ==== Sys2Proof/Laws/Ops.lean ====
section
/-! SUPPORT. What each shared operation can do: notices, replies, the transmitter, admission, the tests of R13 and R14, the
basis, and the small updates of orders and incidents. A `_frame` lemma says that an operation changes the named blocks
alone. -/

namespace Sys2Proof.Machine

/-! ### Notices -/

/-- A notice passed changes the Control Port alone. -/
theorem passNotice_frame (b : NoticeBody) (s : State) : passNotice b s = { s with control := (passNotice b s).control } := by
  unfold passNotice queueNotice
  split
  · split
    · rfl
    · dsimp only
      split <;> rfl
  · rfl

/-- Of the Control Port it can change the queue, the next number, OVERRUN and the event's notices alone. -/
theorem passNotice_control (b : NoticeBody) (s : State) :
    ∃ l n o g, (passNotice b s).control =
      { s.control with notices := l, nextNotice := n, overrun := o, gathered := g } := by
  unfold passNotice queueNotice
  split
  · split
    · exact ⟨_, _, _, _, rfl⟩
    · dsimp only
      split
      · exact ⟨_, _, _, _, rfl⟩
      · exact ⟨_, _, _, _, rfl⟩
  · exact ⟨_, _, _, _, rfl⟩

/-- A notice passed inside an event joins the event's notices; the queue, the numbers and OVERRUN wait for its end. -/
theorem passNotice_gathered {b : NoticeBody} {s : State} {l : List NoticeBody} (hs : b.cls ∈ s.control.subscribed)
    (h : s.control.gathered = some l) :
    passNotice b s = { s with control := { s.control with gathered := some (gather b l) } } := by
  simp only [passNotice, if_pos hs, h]

/-- Outside an event a subscribed notice is numbered and queued at once. -/
theorem passNotice_queued {b : NoticeBody} {s : State} (hs : b.cls ∈ s.control.subscribed)
    (h : s.control.gathered = none) : passNotice b s = queueNotice b s := by
  simp only [passNotice, if_pos hs, h]

/-- A notice of a class that is not subscribed is dropped, inside an event or outside. -/
theorem passNotice_dropped {b : NoticeBody} {s : State} (hs : b.cls ∉ s.control.subscribed) : passNotice b s = s := by
  rw [passNotice, if_neg hs]

/-- Whether an event is in hand is not changed by a notice passed. -/
theorem passNotice_gathered_none (b : NoticeBody) (s : State) :
    (passNotice b s).control.gathered = none ↔ s.control.gathered = none := by
  unfold passNotice queueNotice
  split
  · split
    · next h => simp [h]
    · next h =>
      dsimp only
      split <;> simp [h]
  · exact Iff.rfl

/-- What a notice does to the Control Port depends on the Control Port and the part time alone. -/
theorem passNotice_congr (b : NoticeBody) (s t : State) (hc : s.control = t.control) (ht : s.partTime = t.partTime) :
    (passNotice b s).control = (passNotice b t).control := by
  simp only [passNotice, queueNotice, State.now, hc, ht]
  split
  · split
    · rfl
    · split <;> rfl
  · exact hc

/-- Notices passed one after another change the Control Port alone. -/
theorem passNotices_frame (l : List NoticeBody) (s : State) :
    passNotices l s = { s with control := (passNotices l s).control } := by
  obtain ⟨c, h⟩ : ∃ c, passNotices l s = { s with control := c } := by
    induction l generalizing s with
    | nil => exact ⟨_, rfl⟩
    | cons b l ih =>
      obtain ⟨c, h⟩ := ih (passNotice b s)
      refine ⟨c, ?_⟩
      show passNotices l (passNotice b s) = _
      rw [h, passNotice_frame b s]
  rw [h]

theorem passNotices_nil (s : State) : passNotices [] s = s := rfl

theorem passNotices_cons (b : NoticeBody) (l : List NoticeBody) (s : State) :
    passNotices (b :: l) s = passNotices l (passNotice b s) := rfl

theorem passNotices_control (l : List NoticeBody) (s : State) :
    ∃ q n o g, (passNotices l s).control =
      { s.control with notices := q, nextNotice := n, overrun := o, gathered := g } := by
  induction l generalizing s with
  | nil => exact ⟨_, _, _, _, rfl⟩
  | cons b l ih =>
    obtain ⟨q, n, o, g, h⟩ := ih (passNotice b s)
    obtain ⟨q', n', o', g', h'⟩ := passNotice_control b s
    exact ⟨q, n, o, g, by rw [passNotices_cons, h, h']⟩

theorem passNotices_gathered_none (l : List NoticeBody) (s : State) :
    (passNotices l s).control.gathered = none ↔ s.control.gathered = none := by
  induction l generalizing s with
  | nil => exact Iff.rfl
  | cons b l ih => rw [passNotices_cons, ih, passNotice_gathered_none]

@[simp] theorem passNotice_partTime (b : NoticeBody) (s : State) : (passNotice b s).partTime = s.partTime := by rw [passNotice_frame b s]
@[simp] theorem passNotice_power (b : NoticeBody) (s : State) : (passNotice b s).power = s.power := by rw [passNotice_frame b s]
@[simp] theorem passNotice_resetPin (b : NoticeBody) (s : State) : (passNotice b s).resetPin = s.resetPin := by rw [passNotice_frame b s]
@[simp] theorem passNotice_field (b : NoticeBody) (s : State) : (passNotice b s).field = s.field := by rw [passNotice_frame b s]
@[simp] theorem passNotice_net (b : NoticeBody) (s : State) : (passNotice b s).net = s.net := by rw [passNotice_frame b s]
@[simp] theorem passNotice_points (b : NoticeBody) (s : State) : (passNotice b s).points = s.points := by rw [passNotice_frame b s]
@[simp] theorem passNotice_elements (b : NoticeBody) (s : State) : (passNotice b s).elements = s.elements := by rw [passNotice_frame b s]
@[simp] theorem passNotice_supply (b : NoticeBody) (s : State) : (passNotice b s).supply = s.supply := by rw [passNotice_frame b s]
@[simp] theorem passNotice_incidents (b : NoticeBody) (s : State) : (passNotice b s).incidents = s.incidents := by rw [passNotice_frame b s]
@[simp] theorem passNotice_planner (b : NoticeBody) (s : State) : (passNotice b s).planner = s.planner := by rw [passNotice_frame b s]
@[simp] theorem passNotice_register (b : NoticeBody) (s : State) : (passNotice b s).register = s.register := by rw [passNotice_frame b s]
@[simp] theorem passNotice_store (b : NoticeBody) (s : State) : (passNotice b s).store = s.store := by rw [passNotice_frame b s]
@[simp] theorem passNotice_drawn (b : NoticeBody) (s : State) : (passNotice b s).drawn = s.drawn := by rw [passNotice_frame b s]
@[simp] theorem passNotice_pending (b : NoticeBody) (s : State) : (passNotice b s).pending = s.pending := by rw [passNotice_frame b s]
@[simp] theorem passNotice_rx (b : NoticeBody) (s : State) : (passNotice b s).control.rx = s.control.rx := by
  obtain ⟨_, _, _, _, h⟩ := passNotice_control b s
  rw [h]
@[simp] theorem passNotice_rxAt (b : NoticeBody) (s : State) : (passNotice b s).control.rxAt = s.control.rxAt := by
  obtain ⟨_, _, _, _, h⟩ := passNotice_control b s
  rw [h]
@[simp] theorem passNotice_replies (b : NoticeBody) (s : State) : (passNotice b s).control.replies = s.control.replies := by
  obtain ⟨_, _, _, _, h⟩ := passNotice_control b s
  rw [h]
@[simp] theorem passNotice_line (b : NoticeBody) (s : State) : (passNotice b s).control.line = s.control.line := by
  obtain ⟨_, _, _, _, h⟩ := passNotice_control b s
  rw [h]
@[simp] theorem passNotice_subscribed (b : NoticeBody) (s : State) : (passNotice b s).control.subscribed = s.control.subscribed := by
  obtain ⟨_, _, _, _, h⟩ := passNotice_control b s
  rw [h]

@[simp] theorem passNotices_partTime (l : List NoticeBody) (s : State) : (passNotices l s).partTime = s.partTime := by rw [passNotices_frame l s]
@[simp] theorem passNotices_power (l : List NoticeBody) (s : State) : (passNotices l s).power = s.power := by rw [passNotices_frame l s]
@[simp] theorem passNotices_resetPin (l : List NoticeBody) (s : State) : (passNotices l s).resetPin = s.resetPin := by rw [passNotices_frame l s]
@[simp] theorem passNotices_field (l : List NoticeBody) (s : State) : (passNotices l s).field = s.field := by rw [passNotices_frame l s]
@[simp] theorem passNotices_net (l : List NoticeBody) (s : State) : (passNotices l s).net = s.net := by rw [passNotices_frame l s]
@[simp] theorem passNotices_points (l : List NoticeBody) (s : State) : (passNotices l s).points = s.points := by rw [passNotices_frame l s]
@[simp] theorem passNotices_elements (l : List NoticeBody) (s : State) : (passNotices l s).elements = s.elements := by rw [passNotices_frame l s]
@[simp] theorem passNotices_supply (l : List NoticeBody) (s : State) : (passNotices l s).supply = s.supply := by rw [passNotices_frame l s]
@[simp] theorem passNotices_incidents (l : List NoticeBody) (s : State) : (passNotices l s).incidents = s.incidents := by rw [passNotices_frame l s]
@[simp] theorem passNotices_planner (l : List NoticeBody) (s : State) : (passNotices l s).planner = s.planner := by rw [passNotices_frame l s]
@[simp] theorem passNotices_register (l : List NoticeBody) (s : State) : (passNotices l s).register = s.register := by rw [passNotices_frame l s]
@[simp] theorem passNotices_store (l : List NoticeBody) (s : State) : (passNotices l s).store = s.store := by rw [passNotices_frame l s]
@[simp] theorem passNotices_drawn (l : List NoticeBody) (s : State) : (passNotices l s).drawn = s.drawn := by rw [passNotices_frame l s]
@[simp] theorem passNotices_pending (l : List NoticeBody) (s : State) : (passNotices l s).pending = s.pending := by rw [passNotices_frame l s]
@[simp] theorem passNotices_rx (l : List NoticeBody) (s : State) : (passNotices l s).control.rx = s.control.rx := by
  obtain ⟨_, _, _, _, h⟩ := passNotices_control l s
  rw [h]
@[simp] theorem passNotices_rxAt (l : List NoticeBody) (s : State) : (passNotices l s).control.rxAt = s.control.rxAt := by
  obtain ⟨_, _, _, _, h⟩ := passNotices_control l s
  rw [h]
@[simp] theorem passNotices_replies (l : List NoticeBody) (s : State) : (passNotices l s).control.replies = s.control.replies := by
  obtain ⟨_, _, _, _, h⟩ := passNotices_control l s
  rw [h]
@[simp] theorem passNotices_line (l : List NoticeBody) (s : State) : (passNotices l s).control.line = s.control.line := by
  obtain ⟨_, _, _, _, h⟩ := passNotices_control l s
  rw [h]
@[simp] theorem passNotices_subscribed (l : List NoticeBody) (s : State) : (passNotices l s).control.subscribed = s.control.subscribed := by
  obtain ⟨_, _, _, _, h⟩ := passNotices_control l s
  rw [h]

/-! ### Events (R65, R106) -/

/-- Two notices merge exactly where an event sends one for both. -/
theorem merge?_eq_none (a b : NoticeBody) : a.merge? b = none ↔ ¬a.sameSubject b := by
  cases a <;> cases b <;> simp [NoticeBody.merge?, NoticeBody.sameSubject]

/-- A notice of a subject that its event has not told of stands behind the others. -/
theorem gather_append {b : NoticeBody} {l : List NoticeBody} (h : ∀ a ∈ l, ¬a.sameSubject b) : gather b l = l ++ [b] := by
  induction l with
  | nil => rfl
  | cons a l ih =>
    rw [gather, (merge?_eq_none a b).mpr (h a List.mem_cons_self)]
    exact congrArg (a :: ·) (ih fun x hx => h x (List.mem_cons_of_mem _ hx))

@[simp] theorem openEvent_gathered (s : State) : (openEvent s).control.gathered = some [] := rfl

/-- An event in which nothing is passed leaves the Control Port as it was. -/
theorem closeEvent_openEvent {s : State} (h : s.control.gathered = none) : closeEvent (openEvent s) = s := by
  rcases s with ⟨_, _, _, ⟨_, _, _, _, _, _, _, _, _⟩, _, _, _, _, _, _, _, _, _, _, _⟩
  dsimp only at h
  subst h
  rfl

theorem inEvent_id {f : State → State} {s : State} (h : f s = s) (ho : f (openEvent s) = openEvent s) :
    inEvent f s = s := by
  unfold inEvent
  split
  · exact h
  · next hg => rw [ho, closeEvent_openEvent hg]

/-- Between events none is in hand, whatever an event does. -/
theorem inEvent_gathered {f : State → State} {s : State} (h : s.control.gathered = none) :
    (inEvent f s).control.gathered = none := by
  simp only [inEvent, h, closeEvent]
  split
  · exact (passNotices_gathered_none _ _).mpr rfl
  · next hg => exact hg

/-- A property of everything but the Control Port, kept by what an event does, is kept by the event. -/
theorem inEvent_keeps {P : State → Prop} {f : State → State} (hc : ∀ s c, P s → P { s with control := c })
    (hf : ∀ s, P s → P (f s)) {s : State} (h : P s) : P (inEvent f s) := by
  unfold inEvent
  split
  · exact hf s h
  · unfold closeEvent
    have h1 : P (f (openEvent s)) := hf _ (hc s _ h)
    split
    · rw [passNotices_frame]
      exact hc _ _ (hc _ _ h1)
    · exact h1

theorem passNotices_append (l m : List NoticeBody) (s : State) :
    passNotices (l ++ m) s = passNotices m (passNotices l s) := List.foldl_append ..

/-- Notices of classes that are not subscribed may be left out beforehand. -/
theorem passNotices_filter (l : List NoticeBody) (s : State) :
    passNotices (l.filter fun b => decide (b.cls ∈ s.control.subscribed)) s = passNotices l s := by
  induction l generalizing s with
  | nil => rfl
  | cons b l ih =>
    by_cases h : b.cls ∈ s.control.subscribed
    · rw [List.filter_cons_of_pos (by simpa using h), passNotices_cons, passNotices_cons, ← ih (passNotice b s),
        passNotice_subscribed]
    · rw [List.filter_cons_of_neg (by simpa using h), passNotices_cons, passNotice_dropped h, ih]

/-- Notices of different subjects passed inside an event stand behind those of the event, the unsubscribed ones dropped. -/
theorem passNotices_gathered {l held : List NoticeBody} {s : State} (h : s.control.gathered = some held)
    (hl : (held ++ l).Pairwise fun a b => ¬a.sameSubject b) :
    passNotices l s = { s with control := { s.control with
      gathered := some (held ++ l.filter fun b => decide (b.cls ∈ s.control.subscribed)) } } := by
  induction l generalizing s held with
  | nil =>
    rcases s with ⟨_, _, _, ⟨_, _, _, _, _, _, _, _, _⟩, _, _, _, _, _, _, _, _, _, _, _⟩
    dsimp only at h
    subst h
    simp [passNotices_nil]
  | cons b l ih =>
    rw [passNotices_cons]
    by_cases hs : b.cls ∈ s.control.subscribed
    · have hb : ∀ a ∈ held, ¬a.sameSubject b := fun a ha =>
        (List.pairwise_append.mp hl).2.2 a ha b List.mem_cons_self
      rw [passNotice_gathered hs h, gather_append hb, ih (held := held ++ [b]) rfl (by simpa using hl),
        List.filter_cons_of_pos (by simpa using hs)]
      simp
    · rw [passNotice_dropped hs, List.filter_cons_of_neg (by simpa using hs)]
      refine ih h (hl.sublist ?_)
      exact List.Sublist.append (List.Sublist.refl _) (List.sublist_cons_self b l)

/-- An event whose notices are of different subjects passes them as they are: `t` is the part as the event leaves it, and
`hf` says that what the event does is that, with those notices, whatever the Control Port holds. -/
theorem inEvent_notices {f : State → State} {s t : State} {l : List NoticeBody}
    (hf : ∀ c, f { s with control := c } = passNotices l { t with control := c })
    (hl : l.Pairwise fun a b => ¬a.sameSubject b) : inEvent f s = passNotices l { t with control := s.control } := by
  unfold inEvent
  split
  · exact hf s.control
  · next hg =>
    have ho : f (openEvent s) = passNotices l { t with control := { s.control with gathered := some [] } } := hf _
    rw [ho, passNotices_gathered (held := []) rfl (by simpa using hl)]
    have hc : ({ s.control with gathered := none } : ControlPort) = s.control := by
      rcases hs : s.control with ⟨_, _, _, _, _, _, _, _, _⟩
      rw [hs] at hg
      dsimp only at hg
      rw [hg]
    simp only [closeEvent, List.nil_append, hc]
    exact passNotices_filter l { t with control := s.control }

/-- An event that passes one notice passes it as it is. -/
theorem inEvent_notice (b : NoticeBody) (s : State) : inEvent (passNotice b) s = passNotice b s :=
  inEvent_notices (t := s) (l := [b]) (fun _ => rfl) (List.pairwise_singleton _ _)

/-! ### Replies and the transmitter -/

/-- The transmitter taking the next frame changes the line and the notice queue alone. -/
theorem takeNext_frame (s : State) :
    ∃ line notices, takeNext s = { s with control := { s.control with line := line, notices := notices } } := by
  unfold takeNext
  split
  · exact ⟨_, _, rfl⟩
  · split
    · exact ⟨_, _, rfl⟩
    · exact ⟨_, _, rfl⟩

/-- A line that begins to transmit changes the line and the notice queue alone. -/
theorem startLine_frame (s : State) :
    ∃ line notices, startLine s = { s with control := { s.control with line := line, notices := notices } } := by
  unfold startLine
  split
  · exact takeNext_frame s
  · exact ⟨_, _, rfl⟩

/-- A frame once begun goes on. -/
theorem startLine_of_busy (s : State) (h : s.control.line ≠ .free) : startLine s = s := if_neg h

/-- A free line with nothing waiting stays free. -/
theorem startLine_of_idle (s : State) (h : s.control.replies = []) (h' : s.control.notices = []) : startLine s = s := by
  rcases s with ⟨_, _, _, ⟨_, _, _, _, _, _, _, _, _⟩, _, _, _, _, _, _, _, _, _, _, _⟩
  simp_all only [startLine, takeNext]
  split
  · simp_all
  · rfl

/-- After the transmitter has had its turn a free line has nothing waiting, and a reply on it is the oldest of the order. -/
theorem takeNext_settled (s : State) :
    ((takeNext s).control.line = .free → (takeNext s).control.replies = [] ∧ (takeNext s).control.notices = []) ∧
    (∀ b, (takeNext s).control.line = .reply b →
      ∃ w rest, (takeNext s).control.replies = w :: rest ∧ b = Wire.replyFrame w) := by
  unfold takeNext
  split
  · rename_i w rest h
    simp [h]
  · split
    · simp
    · simp [*]

@[simp] theorem startLine_partTime (s : State) : (startLine s).partTime = s.partTime := by
  obtain ⟨_, _, h⟩ := startLine_frame s
  rw [h]
@[simp] theorem startLine_power (s : State) : (startLine s).power = s.power := by
  obtain ⟨_, _, h⟩ := startLine_frame s
  rw [h]
@[simp] theorem startLine_resetPin (s : State) : (startLine s).resetPin = s.resetPin := by
  obtain ⟨_, _, h⟩ := startLine_frame s
  rw [h]
@[simp] theorem startLine_field (s : State) : (startLine s).field = s.field := by
  obtain ⟨_, _, h⟩ := startLine_frame s
  rw [h]
@[simp] theorem startLine_net (s : State) : (startLine s).net = s.net := by
  obtain ⟨_, _, h⟩ := startLine_frame s
  rw [h]
@[simp] theorem startLine_points (s : State) : (startLine s).points = s.points := by
  obtain ⟨_, _, h⟩ := startLine_frame s
  rw [h]
@[simp] theorem startLine_elements (s : State) : (startLine s).elements = s.elements := by
  obtain ⟨_, _, h⟩ := startLine_frame s
  rw [h]
@[simp] theorem startLine_supply (s : State) : (startLine s).supply = s.supply := by
  obtain ⟨_, _, h⟩ := startLine_frame s
  rw [h]
@[simp] theorem startLine_incidents (s : State) : (startLine s).incidents = s.incidents := by
  obtain ⟨_, _, h⟩ := startLine_frame s
  rw [h]
@[simp] theorem startLine_planner (s : State) : (startLine s).planner = s.planner := by
  obtain ⟨_, _, h⟩ := startLine_frame s
  rw [h]
@[simp] theorem startLine_register (s : State) : (startLine s).register = s.register := by
  obtain ⟨_, _, h⟩ := startLine_frame s
  rw [h]
@[simp] theorem startLine_store (s : State) : (startLine s).store = s.store := by
  obtain ⟨_, _, h⟩ := startLine_frame s
  rw [h]
@[simp] theorem startLine_drawn (s : State) : (startLine s).drawn = s.drawn := by
  obtain ⟨_, _, h⟩ := startLine_frame s
  rw [h]
@[simp] theorem startLine_pending (s : State) : (startLine s).pending = s.pending := by
  obtain ⟨_, _, h⟩ := startLine_frame s
  rw [h]
@[simp] theorem startLine_rx (s : State) : (startLine s).control.rx = s.control.rx := by
  obtain ⟨_, _, h⟩ := startLine_frame s
  rw [h]
@[simp] theorem startLine_rxAt (s : State) : (startLine s).control.rxAt = s.control.rxAt := by
  obtain ⟨_, _, h⟩ := startLine_frame s
  rw [h]
@[simp] theorem startLine_replies (s : State) : (startLine s).control.replies = s.control.replies := by
  obtain ⟨_, _, h⟩ := startLine_frame s
  rw [h]
@[simp] theorem startLine_nextNotice (s : State) : (startLine s).control.nextNotice = s.control.nextNotice := by
  obtain ⟨_, _, h⟩ := startLine_frame s
  rw [h]
@[simp] theorem startLine_subscribed (s : State) : (startLine s).control.subscribed = s.control.subscribed := by
  obtain ⟨_, _, h⟩ := startLine_frame s
  rw [h]
@[simp] theorem startLine_overrun (s : State) : (startLine s).control.overrun = s.control.overrun := by
  obtain ⟨_, _, h⟩ := startLine_frame s
  rw [h]

/-- A reply joins the reply order as its newest; beside it the line and the notice queue may change. -/
theorem pushReply_frame (w : Waiting) (s : State) :
    ∃ line notices, pushReply w s =
      { s with control := { s.control with
          replies := s.control.replies ++ [w], line := line, notices := notices } } :=
  startLine_frame { s with control := { s.control with replies := s.control.replies ++ [w] } }

/-- With the line taken, a reply only joins the reply order. -/
theorem pushReply_of_busy (w : Waiting) (s : State) (h : s.control.line ≠ .free) :
    pushReply w s = { s with control := { s.control with replies := s.control.replies ++ [w] } } :=
  startLine_of_busy _ h

@[simp] theorem pushReply_partTime (w : Waiting) (s : State) : (pushReply w s).partTime = s.partTime := by
  obtain ⟨_, _, h⟩ := pushReply_frame w s
  rw [h]
@[simp] theorem pushReply_power (w : Waiting) (s : State) : (pushReply w s).power = s.power := by
  obtain ⟨_, _, h⟩ := pushReply_frame w s
  rw [h]
@[simp] theorem pushReply_resetPin (w : Waiting) (s : State) : (pushReply w s).resetPin = s.resetPin := by
  obtain ⟨_, _, h⟩ := pushReply_frame w s
  rw [h]
@[simp] theorem pushReply_field (w : Waiting) (s : State) : (pushReply w s).field = s.field := by
  obtain ⟨_, _, h⟩ := pushReply_frame w s
  rw [h]
@[simp] theorem pushReply_net (w : Waiting) (s : State) : (pushReply w s).net = s.net := by
  obtain ⟨_, _, h⟩ := pushReply_frame w s
  rw [h]
@[simp] theorem pushReply_points (w : Waiting) (s : State) : (pushReply w s).points = s.points := by
  obtain ⟨_, _, h⟩ := pushReply_frame w s
  rw [h]
@[simp] theorem pushReply_elements (w : Waiting) (s : State) : (pushReply w s).elements = s.elements := by
  obtain ⟨_, _, h⟩ := pushReply_frame w s
  rw [h]
@[simp] theorem pushReply_supply (w : Waiting) (s : State) : (pushReply w s).supply = s.supply := by
  obtain ⟨_, _, h⟩ := pushReply_frame w s
  rw [h]
@[simp] theorem pushReply_incidents (w : Waiting) (s : State) : (pushReply w s).incidents = s.incidents := by
  obtain ⟨_, _, h⟩ := pushReply_frame w s
  rw [h]
@[simp] theorem pushReply_planner (w : Waiting) (s : State) : (pushReply w s).planner = s.planner := by
  obtain ⟨_, _, h⟩ := pushReply_frame w s
  rw [h]
@[simp] theorem pushReply_register (w : Waiting) (s : State) : (pushReply w s).register = s.register := by
  obtain ⟨_, _, h⟩ := pushReply_frame w s
  rw [h]
@[simp] theorem pushReply_store (w : Waiting) (s : State) : (pushReply w s).store = s.store := by
  obtain ⟨_, _, h⟩ := pushReply_frame w s
  rw [h]
@[simp] theorem pushReply_drawn (w : Waiting) (s : State) : (pushReply w s).drawn = s.drawn := by
  obtain ⟨_, _, h⟩ := pushReply_frame w s
  rw [h]
@[simp] theorem pushReply_pending (w : Waiting) (s : State) : (pushReply w s).pending = s.pending := by
  obtain ⟨_, _, h⟩ := pushReply_frame w s
  rw [h]
@[simp] theorem pushReply_replies (w : Waiting) (s : State) :
    (pushReply w s).control.replies = s.control.replies ++ [w] := by
  obtain ⟨_, _, h⟩ := pushReply_frame w s
  rw [h]

/-! ### Admission (R168, R169, R171, R178) -/

theorem takeRequest_of_not_running {α : Type} (kind tag : Nat) (body : Body α) (serve : α → State → Served) (s : State)
    (h : s.power ≠ .running) : takeRequest kind tag body serve s = s := by
  simp [takeRequest, State.running, h]

theorem takeRequest_of_restarting {α : Type} (kind tag : Nat) (body : Body α) (serve : α → State → Served) (s : State)
    (h : s.power = .running) (hr : s.control.restarting = true) : takeRequest kind tag body serve s = huntControl s := by
  simp [takeRequest, State.running, h, hr]

/-- A request that reaches its own rules leaves the part as their event leaves it, with its reply in the reply order. -/
theorem takeRequest_fits {α : Type} (kind tag : Nat) (a : α) (serve : α → State → Served) (s : State) (h : Admits s tag) :
    takeRequest kind tag (.fits a) serve s =
      answered kind tag (serve a (huntControl s)).2 (inEvent (fun u => (serve a u).1) (huntControl s)) := by
  obtain ⟨h1, h2, h3, h4⟩ := h
  have h3' : ¬ Config.pendingLimit ≤ s.control.listed.length := by
    have : Config.pendingLimit = 4 := rfl
    omega
  simp [takeRequest, answered, State.running, h1, h2, h3', h4]

/-- Everything an admission can come to. -/
theorem takeRequest_cases {α : Type} (kind tag : Nat) (body : Body α) (serve : α → State → Served) (s : State) :
    takeRequest kind tag body serve s = s ∨ takeRequest kind tag body serve s = huntControl s ∨
    (s.control.busyWaiting.length < 4 ∧ takeRequest kind tag body serve s =
      pushReply { tag := tag, kind := kind, reply := .refused (.plain .busy), listed := false } (huntControl s)) ∨
    (s.control.listed.length < 4 ∧ takeRequest kind tag body serve s =
      answered kind tag (.refused (.plain .malformed)) (huntControl s)) ∨
    (s.control.listed.length < 4 ∧ ∃ a, body = .fits a ∧ takeRequest kind tag body serve s =
      answered kind tag (serve a (huntControl s)).2 (inEvent (fun u => (serve a u).1) (huntControl s))) := by
  have h4 : Config.pendingLimit = 4 := rfl
  have h5 : Config.busyLimit = 4 := rfl
  unfold takeRequest
  split
  · exact .inl rfl
  split
  · exact .inr (.inl rfl)
  split
  · split
    · exact .inr (.inr (.inl ⟨by omega, rfl⟩))
    · exact .inr (.inl rfl)
  split
  · exact .inr (.inr (.inr (.inl ⟨by omega, rfl⟩)))
  split
  · exact .inr (.inr (.inr (.inl ⟨by omega, rfl⟩)))
  · exact .inr (.inr (.inr (.inr ⟨by omega, _, rfl, rfl⟩)))

/-! ### The tests of R13 and R14 -/

theorem needImage_none (serve : Image → State → Served) (s : State) (h : s.net.active = none) :
    needImage serve s = refuse .noTopology s := by
  simp [needImage, h]

theorem needImage_some (serve : Image → State → Served) (s : State) (img : Image) (h : s.net.active = some img) :
    needImage serve s = serve img s := by
  simp [needImage, h]

theorem withPoint_some (serve : Point → PointRec → State → Served) (s : State) (img : Image) (n : Nat) (t : Point)
    (r : PointRec) (h : s.net.active = some img) (ht : img.point? n = some t) (hr : s.point? n = some r) :
    withPoint n serve s = serve t r s := by
  simp [withPoint, needImage, h, ht, hr]

theorem withStation_some (serve : StationTopo → Station → State → Served) (s : State) (img : Image) (a : Nat)
    (x : StationTopo) (t : Station) (h : s.net.active = some img) (hx : img.station? a = some x)
    (ht : s.station? a = some t) : withStation a serve s = serve x t s := by
  simp [withStation, needImage, h, hx, ht]

theorem withElement_some (serve : Element → ElementRec → State → Served) (s : State) (img : Image) (n : Nat)
    (e : Element) (r : ElementRec) (h : s.net.active = some img) (he : img.element? n = some e)
    (hr : s.element? n = some r) : withElement n serve s = serve e r s := by
  simp [withElement, needImage, h, he, hr]

theorem withSegment_some (serve : Segment → SegSupply → State → Served) (s : State) (img : Image) (n : Nat)
    (t : Segment) (x : SegSupply) (h : s.net.active = some img) (ht : img.segment? n = some t)
    (hx : s.seg? n = some x) : withSegment n serve s = serve t x s := by
  simp [withSegment, needImage, h, ht, hx]

theorem withIncident_some (serve : Incident → State → Served) (s : State) (img : Image) (n : Nat) (i : Incident)
    (h : s.net.active = some img) (hi : s.incident? n = some i) : withIncident n serve s = serve i s := by
  simp [withIncident, needImage, h, hi]

/-! ### The basis -/

theorem bumpBasisIf_eq (c : Bool) (s : State) :
    bumpBasisIf c s = { s with net := { s.net with basis := if c then s.net.basis + 1 else s.net.basis } } := by
  cases c <;> rfl

/-! ### Incidents -/

/-- An incident replaced changes the incident table and the Control Port alone. -/
theorem setIncident_frame (old new : Incident) (joined : Bool) (source : Option JoinSource) (call : Option CallEntry)
    (s : State) :
    setIncident old new joined source call s =
      { s with
        incidents := (s.updIncident old.number fun _ => new).incidents
        control := (setIncident old new joined source call s).control } := by
  unfold setIncident
  rw [passNotices_frame]
  rfl

/-- A new incident changes the incident table alone. -/
theorem createIncident_frame (make : Nat → Incident) (s t : State) (i : Incident) (h : createIncident make s = some (t, i)) :
    t = { s with incidents := t.incidents } := by
  unfold createIncident at h
  split at h
  · cases h
  · simp only [Option.some.injEq, Prod.mk.injEq] at h
    rw [← h.1]

/-- An automatic event changes the incident table and the Control Port alone. -/
theorem autoEvent_frame (e : AutoEvent) (also : Incident → Incident) (s : State) :
    autoEvent e also s =
      { s with incidents := (autoEvent e also s).incidents, control := (autoEvent e also s).control } := by
  unfold autoEvent
  split
  · rfl
  · split
    · rw [setIncident_frame]
    · split
      · next t i h =>
        rw [passNotices_frame, createIncident_frame _ _ _ _ h]
      · rw [passNotice_frame]

/-- A supply-loss event changes the incident table and the Control Port alone. -/
theorem supplyLoss_frame (l : List Nat) (element : Nat) (s : State) :
    supplyLoss l element s =
      { s with incidents := (supplyLoss l element s).incidents, control := (supplyLoss l element s).control } := by
  cases l with
  | nil => rfl
  | cons n l => exact autoEvent_frame _ _ s

/-- What a sample hands to the incident table changes that table and the Control Port alone. -/
theorem sampleIncidents_frame (point segment : Nat) (old new : Band) (fallingSet expected : Bool) (s : State) :
    sampleIncidents point segment old new fallingSet expected s =
      { s with
        incidents := (sampleIncidents point segment old new fallingSet expected s).incidents
        control := (sampleIncidents point segment old new fallingSet expected s).control } := by
  unfold sampleIncidents
  split
  · rfl
  split
  · exact autoEvent_frame _ _ s
  split
  · unfold fallingEvent
    split
    · rfl
    · rw [setIncident_frame]
  · rfl

/-! ### Points and outages -/

/-- A point record replaced changes the point table and the Control Port alone. -/
theorem setPoint_frame (new : PointRec) (s : State) :
    setPoint new s = { s with points := (setPoint new s).points, control := (setPoint new s).control } := by
  unfold setPoint
  split
  · rfl
  · rw [passNotices_frame]
    rfl

/-- An OUTAGE notice changes the Control Port alone. -/
theorem outageNotice_frame (event : OutageEvent) (old new : SupplyState) (o : Outage) (s : State) :
    outageNotice event old new o s = { s with control := (outageNotice event old new o s).control } :=
  passNotice_frame _ s

/-- The notice of a move of a recompute changes the Control Port alone. -/
theorem moveNotice_frame (s : State) (m : Nat × SupplyState × SupplyState) :
    moveNotice s m = { s with control := (moveNotice s m).control } := by
  unfold moveNotice
  split
  · exact outageNotice_frame _ _ _ _ s
  · rfl

/-- The tables of a recompute change the Supply Tracker alone, and not the globals. -/
theorem recomputeTables_frame (origin : Option Nat) (element : Nat) (s : State) :
    recomputeTables origin element s =
      { s with supply :=
          { s.supply with
            segs := (recomputeTables origin element s).supply.segs
            outages := (recomputeTables origin element s).supply.outages } } := rfl

/-! ### Orders -/

/-- An order joining the queue changes the queue alone. -/
theorem joinQueue_frame (o : Order) (s : State) :
    ∃ x, joinQueue o s =
      { s with elements := { s.elements with queue := s.elements.queue ++ [{ o with unavailableAt := x }] } } :=
  ⟨_, rfl⟩

/-- An outcome handed to the register changes the register alone. -/
theorem handOutcome_frame (o : Order) (x : OrderOutcome) (s : State) :
    handOutcome o x s = { s with register := (handOutcome o x s).register } := by
  unfold handOutcome
  split <;> rfl

/-- Steps 1 to 3 of an order's end change the queue, the register and the Control Port alone: the order leaves the queue. -/
theorem finishOrder_frame (o : Order) (x : OrderOutcome) (s : State) :
    finishOrder o x s =
      { s with
        elements := (leaveQueue o.number s).elements
        register := (finishOrder o x s).register
        control := (finishOrder o x s).control } := by
  unfold finishOrder
  rw [handOutcome_frame]
  unfold orderNotice
  rw [passNotice_frame]
  rfl

/-- An ORDER frame handed over changes the Field Port's output alone. -/
theorem handFrame_frame (o : Order) (tag : Nat) (s : State) :
    handFrame o tag s = { s with field := { s.field with out := (handFrame o tag s).field.out } } := by
  unfold handFrame
  split <;> rfl

/-- A first send changes the order, the next tag and the Field Port's output alone. -/
theorem sendOrder_frame (o : Order) (s : State) :
    sendOrder o s =
      { s with
        elements :=
          { s.elements with
            queue := s.elements.queue.map fun r => if r.number = o.number then
                { r with tag := s.elements.nextTag, state := .sent, unavailableAt := none, sendsLeft := 2
                         ackAt := some (s.now + 3) }
              else r
            nextTag := after 255 s.elements.nextTag }
        field := { s.field with out := (sendOrder o s).field.out } } := by
  unfold sendOrder
  dsimp only
  rw [handFrame_frame]
  rfl

end Sys2Proof.Machine
end

