-- ==== Sys2Proof/Laws/Passes.lean ====
section
/-! SUPPORT. Dispatch passes, record passes, recomputes and activating moments: what they come to when nothing waits for
them, and how a property that their parts keep is kept by the whole. -/

namespace Sys2Proof.Machine

/-! ### Nothing in hand -/

/-- Whether anything is in hand in the register and the Network Model depends on these two blocks alone. -/
theorem Quiet.congr {s t : State} (h : Quiet s) (hr : t.register = s.register) (hn : t.net.standby = s.net.standby) :
    Quiet t :=
  ⟨by rw [hr]; exact h.records, by rw [hn]; exact h.standby⟩

theorem Quiet.record? {s : State} (h : Quiet s) (k : Nat) : s.record? k = none := by
  unfold State.record?
  cases hk : s.register.records[k]? with
  | none => rfl
  | some r =>
    have := h.records r (List.mem_of_getElem? hk)
    subst this
    rfl

theorem Quiet.recordHolding {s : State} (h : Quiet s) (e : Nat) : s.recordHolding e = none := by
  simp [State.recordHolding, h.record?]

theorem Quiet.recordOf {s : State} (h : Quiet s) (n : Nat) : s.recordOf n = none := by
  simp [State.recordOf, h.record?]

theorem passRecord_quiet (c : Ctx) (h : Hooks) (k : Nat) {s : State} (hq : Quiet s) : passRecord c h k s = s := by
  simp [passRecord, hq.record?]

/-- With no record in use a record pass changes nothing. -/
theorem recordPass_quiet (c : Ctx) (h : Hooks) {s : State} (hq : Quiet s) : recordPass c h s = s := by
  have : ∀ l : List Nat, l.foldl (fun s k => passRecord c h k s) s = s := by
    intro l
    induction l with
    | nil => rfl
    | cons k l ih => rw [List.foldl_cons, passRecord_quiet c h k hq, ih]
  exact this _

/-- With no image PENDING no event is an activating moment. -/
theorem activateIfDue_quiet (pass : State → State) {s : State} (hq : Quiet s) : activateIfDue pass s = s := by
  unfold activateIfDue
  split
  · next img h => exact absurd h (hq.standby img)
  all_goals rfl

theorem recordPassTop_quiet (c : Ctx) {s : State} (hq : Quiet s) : recordPassTop c s = s := recordPass_quiet c _ hq

theorem activateTop_quiet (c : Ctx) {s : State} (hq : Quiet s) : activateTop c s = s := activateIfDue_quiet _ hq

/-- With no record in use an outcome reaches no entry. -/
theorem handOutcome_quiet (o : Order) (x : OrderOutcome) {s : State} (hq : Quiet s) : handOutcome o x s = s := by
  unfold handOutcome
  cases o.origin.incident with
  | none => rfl
  | some n => simp [hq.recordOf n]

/-- With no record in use an order's end is its departure and its notice. -/
theorem finishOrder_quiet (o : Order) (x : OrderOutcome) {s : State} (hq : Quiet s) :
    finishOrder o x s = orderNotice o x (leaveQueue o.number s) := by
  have : Quiet (orderNotice o x (leaveQueue o.number s)) := by
    refine hq.congr ?_ ?_
    · simp [orderNotice]
    · simp [orderNotice]
  exact handOutcome_quiet o x this

theorem Quiet.finishOrder {s : State} (hq : Quiet s) (o : Order) (x : OrderOutcome) : Quiet (finishOrder o x s) := by
  rw [finishOrder_quiet o x hq]
  exact hq.congr (by simp [orderNotice]) (by simp [orderNotice])

/-! ### Dispatch passes -/

/-- A dispatch pass with no QUEUED order that it has not reached ends where it stands. -/
theorem dispatchLoop_done (depart : State → State) (fuel : Nat) (seen : List Nat) (s : State)
    (h : ∀ o ∈ s.elements.queue, o.state = .queued → o.number ∈ seen) : dispatchLoop depart fuel seen s = s := by
  cases fuel with
  | zero => rfl
  | succ n =>
    have : s.elements.queue.find? (fun o => o.state = .queued && !seen.contains o.number) = none := by
      rw [List.find?_eq_none]
      intro o ho
      by_cases hq : o.state = .queued
      · simp [hq, h o ho hq]
      · simp [hq]
    rw [dispatchLoop, this]

/-- A dispatch pass over an empty queue changes nothing. -/
theorem dispatchPass_empty (depart : State → State) (s : State) (h : s.elements.queue = []) : dispatchPass depart s = s :=
  dispatchLoop_done depart _ _ s (by simp [h])

/-- A property that a first send, an order failed by its interlock and what follows its end all keep is kept by a dispatch
pass. -/
theorem dispatchLoop_keeps {P : State → Prop} (depart : State → State) (hd : ∀ s, P s → P (depart s))
    (hf : ∀ s o n, P s → o ∈ s.elements.queue → o.state = .queued → interlock s o = some n →
      P (finishOrder o (.failed (.interlock n)) s))
    (hs : ∀ s o, P s → o ∈ s.elements.queue → o.state = .queued → eligible s o = true → interlock s o = none →
      P (sendOrder o s)) :
    ∀ (fuel : Nat) (seen : List Nat) (s : State), P s → P (dispatchLoop depart fuel seen s) := by
  intro fuel
  induction fuel with
  | zero => exact fun _ _ h => h
  | succ k ih =>
    intro seen s h
    unfold dispatchLoop
    split
    · exact h
    · next o ho =>
      have hm := List.mem_of_find?_eq_some ho
      have hq : o.state = .queued := by
        have := List.find?_some ho
        simp only [Bool.and_eq_true, decide_eq_true_eq] at this
        exact this.1
      split
      · next he =>
        split
        · next n hn => exact ih _ _ (hd _ (hf _ _ _ h hm hq hn))
        · next hn => exact ih _ _ (hs _ _ h hm hq he hn)
      · exact ih _ _ h

theorem dispatchPass_keeps {P : State → Prop} (depart : State → State) (hd : ∀ s, P s → P (depart s))
    (hf : ∀ s o n, P s → o ∈ s.elements.queue → o.state = .queued → interlock s o = some n →
      P (finishOrder o (.failed (.interlock n)) s))
    (hs : ∀ s o, P s → o ∈ s.elements.queue → o.state = .queued → eligible s o = true → interlock s o = none →
      P (sendOrder o s))
    (s : State) (h : P s) : P (dispatchPass depart s) :=
  dispatchLoop_keeps depart hd hf hs _ _ s h

/-! ### Record passes -/

/-- A property that the elements of a list keep one after another is kept by the list. -/
theorem foldl_keeps {α : Type} {P : State → Prop} (f : State → α → State) (l : List α)
    (hf : ∀ s a, a ∈ l → P s → P (f s a)) (s : State) (h : P s) : P (l.foldl f s) := by
  induction l generalizing s with
  | nil => exact h
  | cons a l ih =>
    exact ih (fun s b hb hs => hf s b (List.mem_cons_of_mem _ hb) hs) _ (hf s a List.mem_cons_self h)

/-- A property is kept by a record pass where it is kept by any change of the register, by a status written to an incident,
and by the placement of a held entry that has passed its tests. -/
theorem recordPass_keeps {P : State → Prop} (c : Ctx) (h : Hooks)
    (hr : ∀ s (r : IsolationRegister), P s → P { s with register := r })
    (hst : ∀ s n x, P s → P (setStatus n x s))
    (hp : ∀ s k e n, P s → heldPasses s e = true → placeTest e .opening s = none →
      P (place h (fun m s => s.updRecord k fun r => r.updEntry e fun x => { x.toStep s.now .opening with order := m })
        e .opening (.restoration n) false s))
    (s : State) (hP : P s) : P (recordPass c h s) := by
  refine foldl_keeps _ _ ?_ s hP
  intro s k _ hs
  have held : ∀ s e, P s → P (retryEntry h k e s) := by
    intro s e hs
    unfold retryEntry
    split
    · exact hs
    split
    · split
      · next hh =>
        split
        · exact hr s _ hs
        · next ht => exact hp s k e _ hs hh ht
      · exact hs
    · exact hs
  have judged : ∀ s, P s → P (judgeStatus k s) := by
    intro s hs
    unfold judgeStatus
    split
    · exact hs
    split
    · exact hs
    split
    · split
      · exact hst _ _ _ (hr s _ hs)
      · exact hs
    · dsimp only
      split
      · exact hs
      · exact hst _ _ _ hs
  unfold passRecord
  split
  · exact hs
  · refine judged _ ?_
    have h1 : P (reexamine c k s) := hr s _ hs
    split
    · unfold retryHeld
      split
      · exact h1
      · exact foldl_keeps _ _ (fun s e _ hs => held s e hs) _ h1
    · exact h1

/-! ### Recomputes -/

/-- A property is kept by a recompute where its tables, its notices, a supply-loss event and a record pass keep it. -/
theorem recompute_keeps {P : State → Prop} (origin : Option Nat) (element : Nat) (hook : State → State)
    (hh : ∀ s, P s → P (hook s)) (hn : ∀ s m, P s → P (moveNotice s m)) (hl : ∀ s l, P s → P (supplyLoss l element s))
    (s : State) (ht : P (recomputeTables origin element s)) : P (recompute origin element hook s) := by
  unfold recompute
  dsimp only
  refine foldl_keeps _ _ (fun s _ _ hs => hh s hs) _ ?_
  have h1 := foldl_keeps moveNotice (recomputeMoves s) (fun s m _ hs => hn s m hs) _ ht
  split
  · exact hl _ _ h1
  · exact h1

/-- A recompute that moves no segment changes nothing. -/
theorem recompute_still (origin : Option Nat) (element : Nat) (hook : State → State) (s : State)
    (h : ∀ x ∈ s.supply.segs, supplyMove x.state (s.reachable.contains x.segment) = none) :
    recompute origin element hook s = s := by
  have hm : recomputeMoves s = [] := by
    simp only [recomputeMoves, List.filterMap_eq_nil_iff]
    intro x hx
    rw [h x hx]
    rfl
  have ht : recomputeTables origin element s = s := by
    have hs : s.supply.segs.map (fun x =>
        recomputeSeg s.now s.supply.globals (s.reachable.contains x.segment) x) = s.supply.segs := by
      conv_rhs => rw [← List.map_id s.supply.segs]
      refine List.map_congr_left ?_
      intro x hx
      simp only [recomputeSeg, h x hx, id]
    unfold recomputeTables
    simp only [hm, hs, List.filter_nil, List.filterMap_nil, List.foldl_nil]
  unfold recompute
  simp only [hm, ht, List.filter_nil, List.map_nil, List.foldl_nil, supplyLoss, ite_self]

end Sys2Proof.Machine
end

