-- ==== Sys2Proof/Laws/PerInstr.lean ====
section
/-! SUPPORT. The per-command family `Rows`: a command that a line carries is the frame of its row's kind, with its tag. -/

namespace Sys2Proof.Laws.Rows

/-- The frame that carries a command is a request of the command's own kind and tag, or a frame of the field line (11.2.1). -/
def Statement (c : Instr) : Prop :=
  ∀ f, encode c = some f →
    c.request? = some (f.kind, f.tag) ∨ c.request? = none ∧ (f.kind = 0xA0 ∨ f.kind = 0xA1)

theorem status (tag : Nat) (body : Body Unit) : Statement (.status tag body) := by
  intro f h
  cases h
  exact .inl rfl

theorem subscribe (tag : Nat) (body : Body (List Nat)) : Statement (.subscribe tag body) := by
  intro f h
  cases h
  exact .inl rfl

theorem setGlobals (tag : Nat) (body : Body GlobalsArgs) : Statement (.setGlobals tag body) := by
  intro f h
  cases h
  exact .inl rfl

theorem restart (tag : Nat) (body : Body Unit) : Statement (.restart tag body) := by
  intro f h
  cases h
  exact .inl rfl

theorem save (tag : Nat) (body : Body Unit) : Statement (.save tag body) := by
  intro f h
  cases h
  exact .inl rfl

theorem topoBegin (tag : Nat) (body : Body BeginArgs) : Statement (.topoBegin tag body) := by
  intro f h
  cases h
  exact .inl rfl

theorem topoPart (tag : Nat) (body : Body PartArgs) : Statement (.topoPart tag body) := by
  intro f h
  cases h
  exact .inl rfl

theorem topoCommit (tag : Nat) (body : Body Nat) : Statement (.topoCommit tag body) := by
  intro f h
  cases h
  exact .inl rfl

theorem topoAbandon (tag : Nat) (body : Body Unit) : Statement (.topoAbandon tag body) := by
  intro f h
  cases h
  exact .inl rfl

theorem pointTune (tag : Nat) (body : Body TuneArgs) : Statement (.pointTune tag body) := by
  intro f h
  cases h
  exact .inl rfl

theorem pointLimits (tag : Nat) (body : Body LimitsArgs) : Statement (.pointLimits tag body) := by
  intro f h
  cases h
  exact .inl rfl

theorem pointRead (tag : Nat) (body : Body Nat) : Statement (.pointRead tag body) := by
  intro f h
  cases h
  exact .inl rfl

theorem stationClear (tag : Nat) (body : Body Nat) : Statement (.stationClear tag body) := by
  intro f h
  cases h
  exact .inl rfl

theorem stationRead (tag : Nat) (body : Body Nat) : Statement (.stationRead tag body) := by
  intro f h
  cases h
  exact .inl rfl

theorem order (tag : Nat) (body : Body OrderArgs) : Statement (.order tag body) := by
  intro f h
  cases h
  exact .inl rfl

theorem orderCancel (tag : Nat) (body : Body Nat) : Statement (.orderCancel tag body) := by
  intro f h
  cases h
  exact .inl rfl

theorem crewReport (tag : Nat) (body : Body CrewArgs) : Statement (.crewReport tag body) := by
  intro f h
  cases h
  exact .inl rfl

theorem elementClearFault (tag : Nat) (body : Body Nat) : Statement (.elementClearFault tag body) := by
  intro f h
  cases h
  exact .inl rfl

theorem orderRead (tag : Nat) (body : Body Unit) : Statement (.orderRead tag body) := by
  intro f h
  cases h
  exact .inl rfl

theorem elementRead (tag : Nat) (body : Body Nat) : Statement (.elementRead tag body) := by
  intro f h
  cases h
  exact .inl rfl

theorem outageClear (tag : Nat) (body : Body Nat) : Statement (.outageClear tag body) := by
  intro f h
  cases h
  exact .inl rfl

theorem segmentRead (tag : Nat) (body : Body Nat) : Statement (.segmentRead tag body) := by
  intro f h
  cases h
  exact .inl rfl

theorem outageRead (tag : Nat) (body : Body WindowArgs) : Statement (.outageRead tag body) := by
  intro f h
  cases h
  exact .inl rfl

theorem call (tag : Nat) (body : Body CallArgs) : Statement (.call tag body) := by
  intro f h
  cases h
  exact .inl rfl

theorem incidentSetDispatch (tag incident grade : Nat) : Statement (.incidentSetDispatch tag incident grade) := by
  intro f h
  cases h
  exact .inl rfl

theorem incidentSetAttend (tag incident grade : Nat) : Statement (.incidentSetAttend tag incident grade) := by
  intro f h
  cases h
  exact .inl rfl

theorem incidentSetSafe (tag incident grade : Nat) : Statement (.incidentSetSafe tag incident grade) := by
  intro f h
  cases h
  exact .inl rfl

theorem incidentSetClose (tag incident grade : Nat) : Statement (.incidentSetClose tag incident grade) := by
  intro f h
  cases h
  exact .inl rfl

theorem incidentSetGrade (tag : Nat) (body : Body GradeArgs) : Statement (.incidentSetGrade tag body) := by
  intro f h
  cases h
  exact .inl rfl

theorem incidentRead (tag : Nat) (body : Body Nat) : Statement (.incidentRead tag body) := by
  intro f h
  cases h
  exact .inl rfl

theorem plan (tag : Nat) (body : Body Nat) : Statement (.plan tag body) := by
  intro f h
  cases h
  exact .inl rfl

theorem planRead (tag : Nat) (body : Body PlanReadArgs) : Statement (.planRead tag body) := by
  intro f h
  cases h
  exact .inl rfl

theorem planCancel (tag : Nat) (body : Body Nat) : Statement (.planCancel tag body) := by
  intro f h
  cases h
  exact .inl rfl

theorem execute (tag : Nat) (body : Body ExecuteArgs) : Statement (.execute tag body) := by
  intro f h
  cases h
  exact .inl rfl

theorem restore (tag : Nat) (body : Body Nat) : Statement (.restore tag body) := by
  intro f h
  cases h
  exact .inl rfl

theorem isolationRead (tag : Nat) (body : Body Nat) : Statement (.isolationRead tag body) := by
  intro f h
  cases h
  exact .inl rfl

theorem unknownKind (kind tag : Nat) : Statement (.unknownKind kind tag) := by
  intro f h
  cases h
  exact .inl rfl

theorem controlFrameDiscarded (bytes : List Byte) : Statement (.controlFrameDiscarded bytes) := by
  intro f h
  cases h

theorem controlFrameGapTimeout : Statement .controlFrameGapTimeout := by
  intro f h
  cases h

theorem replyTransmitted : Statement .replyTransmitted := by
  intro f h
  cases h

theorem noticeTransmitted : Statement .noticeTransmitted := by
  intro f h
  cases h

theorem report (tag address : Nat) (body : Body ReportArgs) : Statement (.report tag address body) := by
  intro f h
  cases h
  exact .inr ⟨rfl, by simp⟩

theorem orderAck (tag address : Nat) (body : Body AckArgs) : Statement (.orderAck tag address body) := by
  intro f h
  cases h
  exact .inr ⟨rfl, by simp⟩

theorem fieldFrameDiscarded (bytes : List Byte) : Statement (.fieldFrameDiscarded bytes) := by
  intro f h
  cases h

theorem fieldFrameGapTimeout : Statement .fieldFrameGapTimeout := by
  intro f h
  cases h

theorem fieldOrderFrameSent : Statement .fieldOrderFrameSent := by
  intro f h
  cases h

theorem powerOn : Statement .powerOn := by
  intro f h
  cases h

theorem resetAssert : Statement .resetAssert := by
  intro f h
  cases h

theorem resetRelease : Statement .resetRelease := by
  intro f h
  cases h

theorem gapTimerExpiry : Statement .gapTimerExpiry := by
  intro f h
  cases h

theorem silenceExpiry (station : Nat) : Statement (.silenceExpiry station) := by
  intro f h
  cases h

theorem ventTimerExpiry (segment : Nat) : Statement (.ventTimerExpiry segment) := by
  intro f h
  cases h

theorem rechargeTimerExpiry (segment : Nat) : Statement (.rechargeTimerExpiry segment) := by
  intro f h
  cases h

theorem customerMinute (segment : Nat) : Statement (.customerMinute segment) := by
  intro f h
  cases h

theorem deadlineExpiry (incident : Nat) : Statement (.deadlineExpiry incident) := by
  intro f h
  cases h

theorem stationUnavailableExpiry (order : Nat) : Statement (.stationUnavailableExpiry order) := by
  intro f h
  cases h

theorem acknowledgementExpiry (order : Nat) : Statement (.acknowledgementExpiry order) := by
  intro f h
  cases h

theorem strokeExpiry (order : Nat) : Statement (.strokeExpiry order) := by
  intro f h
  cases h

theorem planCompletion : Statement .planCompletion := by
  intro f h
  cases h

theorem saveCompletion (good : Bool) : Statement (.saveCompletion good) := by
  intro f h
  cases h

theorem boardSupplyFailure : Statement .boardSupplyFailure := by
  intro f h
  cases h

end Sys2Proof.Laws.Rows
end

