-- ==== Sys2Proof/Tests/Slice0.lean ====
section
/-! SUPPORT. Tests: the commands that WellFormed refuses, the worked values of the spec, and for each statement with hypotheses
a witness that meets them, clause by clause. A witness `witness_<statement>_<clause>` gives concrete operands and states. -/

namespace Sys2Proof.Tests

open Sys2Proof.Machine

set_option maxRecDepth 20000

/-! ### A small network

Three segments in a row, a REMOTE source, a REMOTE and a MANUAL valve; segment 2 is protected. -/

def img : Image :=
  { number := 7
    segments := [⟨1, 100, false⟩, ⟨2, 200, true⟩, ⟨3, 50, false⟩]
    elements :=
      [⟨1, .source, 0, 1, .remote, 1, 0, 60, false⟩, ⟨2, .valve, 1, 2, .remote, 1, 1, 60, false⟩,
       ⟨3, .valve, 2, 3, .manual, 0, 0, 900, false⟩]
    points := [⟨1, 2, 1, 0, 0, 10000⟩]
    stations := [⟨1, 60, .reportOnly⟩, ⟨2, 60, .latched⟩] }

/-- The same records as received. -/
def raw : List RawRecord := img.raw

def elem (n : Nat) (x : ElementState) : ElementRec :=
  { number := n, state := x, direction := none, source := .station, unconfirmed := false, faultMark := false
    changedAt := 500 }

def good : PointRec :=
  { PointRec.fresh ⟨1, 2, 1, 0, 0, 10000⟩ with
    quality := .good, p := some 5000, f := some 5000, history := [(940, 5000)], lastSample := some 940 }

def st1 : Station := ⟨1, .reporting, some 1060, false, some 1000, some 1000⟩
def st2 : Station := ⟨2, .silent, none, false, some 900, some 900⟩

/-- A running part at time 1000 with the network live, the transmitter busy with a notice. -/
def live : State :=
  { State.reset with
    partTime := 1000
    control := { State.reset.control with notices := [], line := .notice [] }
    net := { active := some img, standby := .empty, basis := 5 }
    field := { rx := [], rxAt := 0, out := [], line := [], stations := [st1, st2] }
    points := [good]
    elements := { table := [elem 1 .opened, elem 2 .opened, elem 3 .opened], queue := [], nextOrder := 1, nextTag := 1 }
    supply := { State.reset.supply with segs := [liveSegment 0 1, liveSegment 0 2, liveSegment 0 3] } }

def withTime (n : Nat) (s : State) : State := { s with partTime := BitVec.ofNat 32 n }
def withStandby (x : Standby) (s : State) : State := { s with net := { s.net with standby := x } }
def withQueue (l : List Order) (s : State) : State := { s with elements := { s.elements with queue := l } }
def atStation (t : Station) (s : State) : State := { s with field := { s.field with stations := [t] } }
def withElements (l : List ElementRec) (s : State) : State := { s with elements := { s.elements with table := l } }
def withBuffer (b : PlanBuffer) (s : State) : State := { s with planner := { s.planner with buffer := b } }
def withReplies (l : List Waiting) (x : Line) (s : State) : State :=
  { s with control := { s.control with replies := l, line := x } }
def withIncidents (l : List Incident) (s : State) : State :=
  { s with incidents := { s.incidents with slots := l.map some ++ List.replicate (64 - l.length) none } }
def withSegs (l : List SegSupply) (o : List Outage) (s : State) : State :=
  { s with supply := { s.supply with segs := l, outages := o } }

/-- The state that a command leads to. -/
def run (c : Instr) (s : State) : State :=
  match exec c s with
  | .next t => t
  | .fault f => nomatch f
  | .refused _ => s

/-- The newest reply in the reply order. -/
def replied (c : Instr) (s : State) : Option ReplyBody := (run c s).control.replies.getLast?.map (·.reply)

def listed (n : Nat) : List Waiting := List.replicate n ⟨1, 1, .done .nothing, true⟩
def busy (n : Nat) : List Waiting := List.replicate n ⟨1, 1, .refused (.plain .busy), false⟩

def contents : StoreContents := { image := img, settings := [], globals := Globals.default }

def saving : State := { live with store := { live.store with save := some ⟨contents, 990⟩ } }

def order : Order :=
  { number := 5, element := 2, action := .close, origin := .host, override := false, state := .queued, sendsLeft := 3
    tag := 0, enqueuedAt := 900, unavailableAt := none, ackAt := none, strokeAt := none }

def sent : Order := { order with state := .sent, sendsLeft := 2, tag := 9, ackAt := some 1000 }
def moving : Order := { order with state := .moving, sendsLeft := 2, tag := 9, strokeAt := some 1000 }

def incident : Incident :=
  { newIncident 800 2 3 causeLeak 4 with deadline := some 8000, totalCalls := 1, calls := [⟨77, .outside, 800⟩] }

def plan : Plan :=
  { number := 3, incident := 4, target := 3, startBasis := 5, startTime := 990, endBasis := some 5, endTime := some 991
    result := some .ok, failing := none, zone := [3], close := [(3, .manual)], lost := [], customers := 50
    guardedCount := 0, crewCount := 1 }

theorem live_admits : Admits live 1 := ⟨by decide, by decide, by decide, by decide⟩

theorem live_quiet : Quiet live := ⟨by decide, by nofun⟩

/-- A state with the Control Port of `live` admits a request as `live` does. -/
theorem admits_as_live (s : State) (hp : s.power = .running) (hc : s.control = live.control) : Admits s 1 :=
  ⟨hp, by rw [hc]; decide, by rw [hc]; decide, by decide⟩

/-- A state with the register and the standby image of `live` has nothing in hand as `live` has not. -/
theorem quiet_as_live (s : State) (hr : s.register = live.register) (hn : s.net = live.net) : Quiet s :=
  ⟨by rw [hr]; decide, by rw [hn]; nofun⟩

/-! ### WellFormed refuses each ill-formed term -/

/-- A tag, a kind or a field wider than its bytes (R180). -/
theorem test_wf_refuses_wide_fields :
    (Instr.status 256 (.fits ())).wf = false ∧ (Instr.pointRead 1 (.fits 65536)).wf = false ∧
    (Instr.stationClear 1 (.fits 256)).wf = false ∧ (Instr.topoCommit 1 (.fits 4294967296)).wf = false ∧
    (Instr.subscribe 1 (.fits [256])).wf = false ∧ (Instr.subscribe 1 (.fits (List.replicate 256 1))).wf = false ∧
    (Instr.setGlobals 1 (.fits ⟨65536, 1, 1⟩)).wf = false ∧ (Instr.setGlobals 1 (.fits ⟨1, 65536, 1⟩)).wf = false ∧
    (Instr.setGlobals 1 (.fits ⟨1, 1, 65536⟩)).wf = false ∧
    (Instr.topoBegin 1 (.fits ⟨4294967296, 0, 0, 0, 0⟩)).wf = false ∧
    (Instr.topoBegin 1 (.fits ⟨1, 65536, 0, 0, 0⟩)).wf = false ∧
    (Instr.topoBegin 1 (.fits ⟨1, 0, 65536, 0, 0⟩)).wf = false ∧
    (Instr.topoBegin 1 (.fits ⟨1, 0, 0, 65536, 0⟩)).wf = false ∧
    (Instr.topoBegin 1 (.fits ⟨1, 0, 0, 0, 65536⟩)).wf = false ∧
    (Instr.order 1 (.fits ⟨65536, 1, false⟩)).wf = false ∧ (Instr.order 1 (.fits ⟨1, 256, false⟩)).wf = false ∧
    (Instr.crewReport 1 (.fits ⟨65536, 1⟩)).wf = false ∧ (Instr.crewReport 1 (.fits ⟨1, 256⟩)).wf = false ∧
    (Instr.outageRead 1 (.fits ⟨65536, 1⟩)).wf = false ∧ (Instr.outageRead 1 (.fits ⟨1, 65536⟩)).wf = false := by
  decide

theorem test_wf_refuses_wide_fields_of_incidents_and_plans :
    (Instr.call 1 (.fits ⟨4294967296, 1, 1, 1⟩)).wf = false ∧ (Instr.call 1 (.fits ⟨1, 65536, 1, 1⟩)).wf = false ∧
    (Instr.call 1 (.fits ⟨1, 1, 256, 1⟩)).wf = false ∧ (Instr.call 1 (.fits ⟨1, 1, 1, 4294967296⟩)).wf = false ∧
    (Instr.incidentSetSafe 1 65536 0).wf = false ∧ (Instr.incidentSetSafe 1 1 256).wf = false ∧
    (Instr.incidentSetGrade 1 (.fits ⟨65536, 5, 1⟩)).wf = false ∧
    (Instr.incidentSetGrade 1 (.fits ⟨1, 256, 1⟩)).wf = false ∧
    (Instr.incidentSetGrade 1 (.fits ⟨1, 5, 256⟩)).wf = false ∧
    (Instr.planRead 1 (.fits ⟨256, 0, 0, false⟩)).wf = false ∧
    (Instr.planRead 1 (.fits ⟨1, 65536, 0, false⟩)).wf = false ∧
    (Instr.planRead 1 (.fits ⟨1, 0, 65536, false⟩)).wf = false ∧ (Instr.execute 1 (.fits ⟨65536, false⟩)).wf = false ∧
    (Instr.silenceExpiry 256).wf = false ∧ (Instr.strokeExpiry 65536).wf = false := by
  decide

/-- A signed field outside two's complement of its width, and the wide fields of POINT_TUNE and POINT_LIMITS (R180). -/
theorem test_wf_refuses_signed_fields :
    (Instr.pointTune 1 (.fits ⟨1, 128, 1, 0, 0⟩)).wf = false ∧ (Instr.pointTune 1 (.fits ⟨1, -129, 1, 0, 0⟩)).wf = false ∧
    (Instr.pointTune 1 (.fits ⟨1, -128, 1, 0, 0⟩)).wf = true ∧ (Instr.pointTune 1 (.fits ⟨1, 0, 256, 0, 0⟩)).wf = false ∧
    (Instr.pointTune 1 (.fits ⟨1, 0, 1, 4294967296, 0⟩)).wf = false ∧
    (Instr.pointTune 1 (.fits ⟨1, 0, 1, 0, 65536⟩)).wf = false ∧
    (Instr.pointLimits 1 (.fits ⟨1, 2147483648, 0, 0, 0, 0⟩)).wf = false ∧
    (Instr.pointLimits 1 (.fits ⟨1, 0, 2147483648, 0, 0, 0⟩)).wf = false ∧
    (Instr.pointLimits 1 (.fits ⟨1, 0, 0, 2147483648, 0, 0⟩)).wf = false ∧
    (Instr.pointLimits 1 (.fits ⟨1, 0, 0, 0, -2147483649, 0⟩)).wf = false ∧
    (Instr.pointLimits 1 (.fits ⟨1, 0, 0, 0, 0, 4294967296⟩)).wf = false := by
  decide

/-- Bytes that fit the layout are no misfit, nor are more bytes than a body holds (R167, R168). -/
theorem test_wf_refuses_false_misfits :
    (Instr.status 1 (.misfit [])).wf = false ∧ (Instr.status 1 (.misfit [0])).wf = true ∧
    (Instr.status 1 (.misfit (List.replicate 1025 0))).wf = false ∧ (Instr.pointRead 1 (.misfit [1, 0])).wf = false ∧
    (Instr.report 0 5 (.misfit [5, 0, 0, 0])).wf = false ∧ (Instr.report 0 5 (.misfit [])).wf = false ∧
    (Instr.report 0 5 (.misfit [4, 0])).wf = false ∧ (Instr.report 0 5 (.misfit [5, 0])).wf = true ∧
    (Instr.orderAck 0 5 (.misfit [4, 0])).wf = false ∧ (Instr.orderAck 0 5 (.misfit [])).wf = false := by
  decide

/-- A known kind is not unknown, and a known action or record kind is not another (R102, R168, R180). -/
theorem test_wf_refuses_known_codes :
    (Instr.unknownKind 0x50 1).wf = false ∧ (Instr.unknownKind 0x51 1).wf = false ∧ (Instr.unknownKind 0x54 1).wf = true ∧
    (Instr.incidentSetGrade 1 (.fits ⟨1, 1, 0⟩)).wf = false ∧ (Instr.incidentSetGrade 1 (.fits ⟨1, 4, 0⟩)).wf = false ∧
    (Instr.incidentSetGrade 1 (.fits ⟨1, 0, 0⟩)).wf = true ∧
    (Instr.topoPart 1 (.fits ⟨1, .unknown 4 []⟩)).wf = false ∧ (Instr.topoPart 1 (.fits ⟨1, .unknown 5 []⟩)).wf = true ∧
    (Instr.topoPart 1 (.fits ⟨65536, .unknown 5 []⟩)).wf = false ∧
    (Instr.topoPart 1 (.fits ⟨1, .unknown 5 (List.replicate 1022 0)⟩)).wf = false := by
  decide

/-- The fields of the topology records (11.3.2). -/
theorem test_wf_refuses_wide_records :
    RawSegment.ok ⟨65536, 0, 0⟩ = false ∧ RawSegment.ok ⟨0, 65536, 0⟩ = false ∧ RawSegment.ok ⟨0, 0, 256⟩ = false ∧
    RawElement.ok ⟨65536, 1, 0, 1, 1, 1, 0, 60, 0⟩ = false ∧ RawElement.ok ⟨1, 256, 0, 1, 1, 1, 0, 60, 0⟩ = false ∧
    RawElement.ok ⟨1, 1, 65536, 1, 1, 1, 0, 60, 0⟩ = false ∧ RawElement.ok ⟨1, 1, 0, 65536, 1, 1, 0, 60, 0⟩ = false ∧
    RawElement.ok ⟨1, 1, 0, 1, 256, 1, 0, 60, 0⟩ = false ∧ RawElement.ok ⟨1, 1, 0, 1, 1, 256, 0, 60, 0⟩ = false ∧
    RawElement.ok ⟨1, 1, 0, 1, 1, 1, 256, 60, 0⟩ = false ∧ RawElement.ok ⟨1, 1, 0, 1, 1, 1, 0, 65536, 0⟩ = false ∧
    RawElement.ok ⟨1, 1, 0, 1, 1, 1, 0, 60, 256⟩ = false ∧ RawPoint.ok ⟨65536, 1, 1, 0, 0, 100⟩ = false ∧
    RawPoint.ok ⟨1, 65536, 1, 0, 0, 100⟩ = false ∧ RawPoint.ok ⟨1, 1, 256, 0, 0, 100⟩ = false ∧
    RawPoint.ok ⟨1, 1, 1, 256, 0, 100⟩ = false ∧ RawPoint.ok ⟨1, 1, 1, 0, 4294967296, 100⟩ = false ∧
    RawPoint.ok ⟨1, 1, 1, 0, 0, 4294967296⟩ = false ∧ RawStation.ok ⟨256, 60, 1⟩ = false ∧
    RawStation.ok ⟨1, 65536, 1⟩ = false ∧ RawStation.ok ⟨1, 60, 256⟩ = false := by
  decide

/-- The fields and lists of a REPORT (11.3.3). -/
theorem test_wf_refuses_wide_reports :
    (Instr.report 256 1 (.fits ⟨false, [], []⟩)).wf = false ∧ (Instr.report 0 256 (.fits ⟨false, [], []⟩)).wf = false ∧
    (Instr.report 0 1 (.fits ⟨false, [⟨256, 0, false⟩], []⟩)).wf = false ∧
    (Instr.report 0 1 (.fits ⟨false, [⟨0, 65536, false⟩], []⟩)).wf = false ∧
    (Instr.report 0 1 (.fits ⟨false, [], [⟨256, 0⟩]⟩)).wf = false ∧
    (Instr.report 0 1 (.fits ⟨false, [], [⟨0, 256⟩]⟩)).wf = false ∧
    (Instr.report 0 1 (.fits ⟨false, List.replicate 255 ⟨0, 0, false⟩, [⟨0, 0⟩]⟩)).wf = false ∧
    (Instr.orderAck 0 1 (.fits ⟨256, 0⟩)).wf = false ∧ (Instr.orderAck 0 1 (.fits ⟨1, 256⟩)).wf = false := by
  decide

/-! ### Checks, frames and worked values -/

def digits : List Byte := [0x31, 0x32, 0x33, 0x34, 0x35, 0x36, 0x37, 0x38, 0x39]

/-- The check values of 11.5 over the nine digit characters. -/
theorem test_check_values : crc16 digits = 0x29B1#16 ∧ crc32 digits = 0xCBF43926#32 := by decide

/-- The heartbeat REPORT of 11.6: its bytes up to the check, and what the field line reads from it. -/
theorem test_heartbeat_frame :
    (encode (.report 0 5 (.fits ⟨false, [], []⟩))).map (fun f => f.bytes.take 9) =
      some [0xC3, 0x04, 0x00, 0xA0, 0x00, 0x05, 0x00, 0x00, 0x00] ∧
    decodeField ⟨0xA0, 0, [0x05, 0x00, 0x00, 0x00]⟩ = some (.report 0 5 (.fits ⟨false, [], []⟩)) := by decide

/-- The CALL of 11.6, from the bytes that 11.6 writes out. -/
theorem test_call_frame :
    decodeControl ⟨0x50, 0x1E, [0x29, 0x23, 0, 0, 0x04, 0, 0x03, 0x78, 0, 0, 0]⟩ =
      .call 30 (.fits { number := 9001, segment := 4, cls := 3, age := 120 }) := by decide

/-- The ORDER and the ORDER_ACK frames of 11.6. -/
theorem test_order_frames :
    (Wire.orderFrame { station := 3, slot := 1, action := .close, tag := 55 }).take 8 =
      [0xC3, 0x03, 0x00, 0xA2, 0x37, 0x03, 0x01, 0x01] ∧
    decodeField ⟨0xA1, 0x37, [0x03, 0x01, 0x00]⟩ = some (.orderAck 55 3 (.fits { verdict := 1, reason := 0 })) := by decide

/-- One request of each layout of 11.3.1, bytes written out from the table. -/
theorem test_request_layouts :
    decodeControl ⟨0x02, 1, [2, 5, 10]⟩ = .subscribe 1 (.fits [5, 10]) ∧
    decodeControl ⟨0x03, 1, [0x2C, 1, 8, 7, 0x58, 2]⟩ = .setGlobals 1 (.fits ⟨300, 1800, 600⟩) ∧
    decodeControl ⟨0x10, 1, [7, 0, 0, 0, 6, 0, 8, 0, 5, 0, 3, 0]⟩ = .topoBegin 1 (.fits ⟨7, 6, 8, 5, 3⟩) ∧
    decodeControl ⟨0x11, 1, [1, 0, 1, 2, 0, 100, 0, 1]⟩ = .topoPart 1 (.fits ⟨1, .segments [⟨2, 100, 1⟩]⟩) ∧
    decodeControl ⟨0x20, 1, [21, 0, 0xF8, 4, 50, 0, 0, 0, 40, 0]⟩ = .pointTune 1 (.fits ⟨21, -8, 4, 50, 40⟩) ∧
    decodeControl ⟨0x30, 1, [10, 0, 1, 1]⟩ = .order 1 (.fits ⟨10, 1, true⟩) ∧
    decodeControl ⟨0x51, 1, [3, 0, 2, 0]⟩ = .incidentSetAttend 1 3 0 ∧
    decodeControl ⟨0x51, 1, [3, 0, 9, 0]⟩ = .incidentSetGrade 1 (.fits ⟨3, 9, 0⟩) ∧
    decodeControl ⟨0x61, 1, [2, 0, 0, 48, 0, 1]⟩ = .planRead 1 (.fits ⟨2, 0, 48, true⟩) ∧
    decodeControl ⟨0x63, 1, [3, 0]⟩ = .execute 1 (.misfit [3, 0]) ∧ decodeControl ⟨0x77, 1, [9]⟩ = .unknownKind 0x77 1 := by
  decide

/-- Point 21 of 3.15 before its first sample. -/
def point21 : PointRec :=
  { PointRec.fresh ⟨21, 3, 3, 0, 0, 10000⟩ with
    offset := -8, weight := 4, hyst := 50, fallLimit := 40, limits := ⟨1500, 1800, 3200, 3700⟩, quality := .good
    p := some 2900, f := some 2900, history := [(880, 2940), (940, 2921), (970, 2900)], lastSample := some 970 }

def at1000 : PointRec := evaluate 1000 1712 false (some .live) point21
def at1030 : PointRec := evaluate 1030 1560 false (some .live) at1000
def tuned : PointRec := { at1030 with pendingLimits := some (⟨2000, 2800, 3200, 3700⟩, 100) }
def at1060 : PointRec := evaluate 1060 1540 false (some .live) tuned
def again1060 : PointRec := evaluate 1060 1530 false (some .live) at1060
def at1090 : PointRec := evaluate 1090 700 false (some .live) again1060
def at1150 : PointRec := evaluate 1150 1600 false (some .live) at1090

/-- The table of 3.15: f, R, FALLING, band and the number of history entries after each event. -/
theorem test_point_21 :
    (at1000.f, at1000.rate, at1000.falling, at1000.history.length) = (some 2881, some (-29), false, 4) ∧
    (at1030.f, at1030.rate, at1030.falling, at1030.history.length) = (some 2748, some (-76), true, 5) ∧
    (at1060.f, at1060.rate, at1060.band, at1060.history.length) = (some 2633, some (-102), .low, 6) ∧
    (again1060.f, again1060.rate, again1060.band, again1060.history.length) = (some 2539, some (-133), .low, 6) ∧
    (at1090.quality, at1090.f, at1090.rate, at1090.falling) = (.wireFault, some 2539, none, true) ∧
    (at1150.quality, at1150.f, at1150.rate, at1150.falling) = (.good, some 2475, none, false) := by decide

/-- The ends of the scale of 3.15. -/
theorem test_scale_ends :
    (evaluate 0 4095 false none { point21 with offset := 20 }).p = some 10000 ∧
    (evaluate 0 4095 false none { point21 with offset := 20 }).overScale = true ∧
    (evaluate 0 790 false none point21).p = some 0 ∧ (evaluate 0 790 false none point21).underScale = true := by decide

def call9001 : Incident := makeCall 50000 4 .outside causeLeak ⟨9001, .outside, callTime 50000 120⟩ 12
def call9007 : Incident := joinCall 50300 4 causeLeak ⟨9007, .faint, callTime 50300 0⟩ call9001
def call9010 : Incident := joinCall 50420 2 causeLeak ⟨9010, .inside, callTime 50420 3000⟩ call9007
def call9012 : Incident := joinCall 50500 3 causeLeak ⟨9012, .outside, callTime 50500 0⟩ call9010

/-- Incident 12 after each call of 5.9: grade, base time, deadline, OVERDUE. -/
theorem test_incident_12 :
    (call9001.grade, call9001.baseTime, call9001.deadline, call9001.overdue) = (3, 49880, some 57080, false) ∧
    (call9007.grade, call9007.baseTime, call9007.deadline, call9007.overdue) = (3, 49880, some 57080, false) ∧
    (call9010.grade, call9010.baseTime, call9010.deadline, call9010.overdue) = (2, 47420, some 51020, false) ∧
    (call9012.grade, call9012.baseTime, call9012.deadline, call9012.overdue) = (1, 47420, some 49220, true) := by decide

/-- As in 6.8: a CLOSE that loses a protected segment ends FAILED, INTERLOCK; with the override it is SENT. -/
theorem test_close_interlock :
    (run (.order 1 (.fits ⟨2, 1, false⟩)) live).elements.queue = [] ∧
    ((run (.order 1 (.fits ⟨2, 1, false⟩)) live).control.notices.map fun n => Wire.noticeBody n.body) =
      [leBytes 2 1 ++ leBytes 2 2 ++ [1] ++ [1, 0, 0] ++ [0] ++ [4, 1, 0, 2, 0] ++ [0, 0] ++ leBytes 4 1000 ++ leBytes 4 1000] ∧
    ((run (.order 1 (.fits ⟨2, 1, true⟩)) live).elements.queue.map fun o => (o.state, o.tag, o.sendsLeft)) = [(.sent, 1, 2)] := by
  decide

/-- An isolation of segment 2 whose closing order moves, with a point on the segment. -/
def isolating : State :=
  let o : Order := { moving with origin := .isolation 4 }
  let i : Incident := { incident with isoStatus := .executing, isoIndex := some 1 }
  let r : IsoRecord :=
    { incident := 4, override := false, executions := 1, firstPlan := 3, lastPlan := 3, createdAt := 900, zone := [2]
      entries := [⟨2, .remote, .toClose, 5, none, 900⟩] }
  { withQueue [o] (withIncidents [i] live) with register := { records := some r :: List.replicate 7 none } }

/-- What the queued INCIDENT notices say of their isolation, in their order. -/
def isolationsTold (s : State) : List (Bool × IsoStatus) :=
  s.control.notices.filterMap fun n => match n.body with
    | .incident x => some (x.events.isolation, x.isoStatus)
    | _ => none

/-- One report whose position isolates a zone and whose reading proves it sends one INCIDENT notice, with PROVEN (R31, R106,
R161). -/
theorem test_report_sends_one_incident_notice :
    isolationsTold (run (.report 0 1 (.fits ⟨false, [⟨0, 800, false⟩], [⟨1, 2⟩]⟩)) isolating) = [(true, .proven)] := by decide

/-- A restart at power-up with a store never written is the state after reset (R179). -/
theorem test_reset_is_a_power_up : restart .powerOn State.reset = State.reset := by decide

/-- The frame that stands on the line after reset is that of STARTED with number 0 (R171, R172, R179, 11.3.5). -/
theorem test_reset_transmits_started :
    State.reset.control.line = .notice (Wire.noticeFrame
      { number := 0, time := 0
        body := .started { cause := .powerOn, result := .blank, image := 0, globals := Globals.default } }) := by decide

/-- What a running part does before any command waits: it idles through a second, for nothing is due. -/
theorem test_reset_has_nothing_due : dueEvents State.reset = [] := by decide

/-! ### Witnesses: steps, the Control Port -/

theorem witness_StepRunsTheFrontCommand : { live with pending := [.powerOn, .resetAssert] }.pending = [.powerOn, .resetAssert] := rfl

def off : State := { live with power := .off }
def due1060 : State := withTime 1060 live

theorem witness_EmptyQueue_stopped : off.pending = [] ∧ off.power ≠ .running := by decide
theorem witness_EmptyQueue_second :
    live.pending = [] ∧ live.power = .running ∧ dueEvents live = [] ∧ live.partTime ≠ 0xFFFFFFFF#32 := by decide
theorem witness_EmptyQueue_last_second :
    (withTime 4294967295 State.reset).partTime = 0xFFFFFFFF#32 ∧ dueEvents (withTime 4294967295 State.reset) = [] := by decide
theorem witness_EmptyQueue_due : due1060.power = .running ∧ dueEvents due1060 = [.silenceExpiry 1] := by decide

def restarting : State := withReplies [⟨3, 4, .done .nothing, true⟩] (.reply []) live

theorem witness_DeafPart :
    (Instr.restart 1 (.fits ())).isBoard = false ∧ off.power ≠ .running ∧
    (Instr.restart 1 (.fits ())).request? = some (4, 1) ∧ restarting.power = .running ∧
    restarting.control.restarting = true := by decide

def deaf : State := { live with control := { live.control with subscribed := [.plan] } }
def notices (n : Nat) : State :=
  { live with control := { live.control with notices := List.replicate n ⟨0, 0, .activated 7 1⟩, nextNotice := 65535 } }

theorem witness_Notice_dropped : (NoticeBody.activated 7 1).cls ∉ deaf.control.subscribed := by decide
theorem witness_Notice_queued :
    (NoticeBody.activated 7 1).cls ∈ (notices 63).control.subscribed ∧ (notices 63).control.gathered = none ∧
    (notices 63).control.notices.length < 64 := by decide
theorem witness_Notice_discarded :
    (NoticeBody.activated 7 1).cls ∈ (notices 64).control.subscribed ∧ (notices 64).control.gathered = none ∧
    64 ≤ (notices 64).control.notices.length := by decide

/-- A notice that joined, one of the same incident with its status, one of another incident, and a point's two (R65, R106). -/
def joining : IncidentNotice :=
  { incident := 4, segment := 2, events := ⟨false, true, false, false, false, false⟩, causes := causeLeak
    oldGrade := some 3, grade := 3, oldState := some .opened, state := .opened, baseTime := 800, deadline := some 8000
    overdue := false, clusterEscalated := false, totalCalls := 1, call := none, trigPoint := some 1, trigElement := none
    isoStatus := .executing, joined := some (.pressure 1) }
def proving : IncidentNotice :=
  { joining with events := ⟨false, false, false, false, false, true⟩, isoStatus := .proven, joined := none }
def sampled : PointNotice :=
  { point := 1, segment := 2, oldQuality := .stale, quality := .good, oldBand := .low, band := .normal, oldFalling := false
    falling := false, f := some 5000, p := some 5000, rate := none, underScale := false, overScale := false
    expected := false, lastSample := some 1000 }
def opened : State := openEvent live

theorem witness_Notice_gathered :
    live.control.gathered = none ∧ opened.control.gathered = some [] ∧ (openEvent opened).control.gathered = some [] ∧
    (NoticeBody.incident proving).cls ∈ opened.control.subscribed ∧ joining.incident = proving.incident ∧
    ¬(NoticeBody.point sampled).sameSubject (.incident proving) ∧
    ¬(NoticeBody.incident joining).sameSubject (.point sampled) ∧ sampled.point = { sampled with band := .low }.point ∧
    [NoticeBody.incident joining, .point sampled].Pairwise (fun x y => ¬x.sameSubject y) := by
  refine ⟨by decide, by decide, by decide, by decide, by decide, by simp [NoticeBody.sameSubject], by simp [NoticeBody.sameSubject], by decide, ?_⟩
  simp [NoticeBody.sameSubject]

def two : State := withReplies (listed 2) (.reply []) (notices 1)
/-- A part whose line is free and with nothing waiting. -/
def free : State := withReplies [] .free live

def one (s : State) : State := withReplies (listed 1) (.reply []) s

theorem witness_Transmitter_replySent :
    two.power = .running ∧ two.control.line = .reply [] ∧ two.control.replies = ⟨1, 1, .done .nothing, true⟩ :: listed 1 ∧
    (one (notices 1)).control.replies = ⟨1, 1, .done .nothing, true⟩ :: [] ∧ (one (notices 1)).control.notices ≠ [] ∧
    (one live).control.notices = [] := by decide
theorem witness_Transmitter_noticeSent :
    (∀ frame, live.control.line ≠ .reply frame) ∧ (∀ frame, free.control.line ≠ .reply frame) ∧
    (notices 1).control.notices ≠ [] ∧ (notices 1).control.replies = [] ∧ live.control.notices = [] ∧
    (withReplies (listed 1) (.notice []) live).control.replies ≠ [] :=
  ⟨nofun, nofun, by decide, by decide, by decide, by decide⟩
theorem witness_Transmitter_pushReply : live.control.line ≠ .free ∧ free.control.line = .free := by decide

def full (n : Nat) : State := withReplies (listed 4 ++ busy n) (.reply []) live

theorem witness_FullList :
    (Instr.unknownKind 0x77 0).request? = some (0x77, 0) ∧ (full 3).power = .running ∧
    (full 3).control.restarting = false ∧ 4 ≤ (full 3).control.listed.length ∧ (full 3).control.busyWaiting.length < 4 ∧
    4 ≤ (full 4).control.listed.length ∧ 4 ≤ (full 4).control.busyWaiting.length := by decide

def three : State := withReplies (listed 3) (.reply []) live

theorem witness_UnknownKinds :
    three.power = .running ∧ three.control.restarting = false ∧ three.control.listed.length < 4 ∧
    (Instr.unknownKind 0x77 0).request? = some (0x77, 0) ∧ (Instr.status 0 (.fits ())).request? = some (1, 0) ∧
    Instr.status 0 (.fits ()) ≠ .unknownKind 1 0 ∧ (Instr.plan 1 (.misfit [])).fitsLayout = false ∧
    (Instr.incidentSetSafe 0 4 0).request? = some (0x51, 0) := by decide

def bare : State := { live with net := { live.net with active := none } }

theorem bare_admits : Admits bare 1 := ⟨by decide, by decide, by decide, by decide⟩

theorem witness_RequestsWithoutTopology :
    Admits bare 1 ∧ (Instr.save 1 (.fits ())).request? = some (5, 1) ∧ (Instr.save 1 (.fits ())).fitsLayout = true ∧
    (Instr.save 1 (.fits ())).needsImage = true ∧ (Instr.topoCommit 1 (.fits 0)).needsImage = false ∧
    (Instr.topoCommit 1 (.fits 0)).fitsLayout = true ∧ bare.net.active = none := ⟨bare_admits, by decide⟩

theorem witness_RequestsWithoutTopology_imageActive :
    Admits live 1 ∧ (Instr.save 1 (.fits ())).needsImage = true ∧ live.net.active ≠ none :=
  ⟨live_admits, by decide, by decide⟩

theorem witness_AbsentNumbers :
    Admits live 1 ∧ live.net.active = some img ∧
    (Instr.call 1 (.fits ⟨9, 4, 1, 0⟩)).named? = some (.segment, 4) ∧ ¬img.holds .segment 4 ∧ ¬img.holds .element 0 ∧
    ¬img.holds .point 2 ∧ ¬img.holds .station 3 := by
  refine ⟨live_admits, rfl, rfl, ?_, ?_, ?_, ?_⟩ <;> simp [Image.holds, img]

theorem witness_Status : Admits live 1 := live_admits

theorem witness_Subscribe :
    Admits live 1 ∧ (∀ n ∈ [1, 10], 1 ≤ n ∧ n ≤ 10) ∧ (∃ n ∈ [11], n = 0 ∨ 10 < n) ∧ (∃ n ∈ [0], n = 0 ∨ 10 < n) ∧
    (NoticeBody.activated 7 1).cls ∈ live.control.subscribed ∧ live.control.gathered = none :=
  ⟨live_admits, by decide, by decide, by decide, by decide, by decide⟩

theorem witness_Subscribe_noticeTransmitted :
    (notices 1).power = .running ∧ (∀ frame, (notices 1).control.line ≠ .reply frame) ∧
    (notices 1).control.replies = [] ∧ (notices 1).control.notices = [⟨0, 0, .activated 7 1⟩] :=
  ⟨by decide, nofun, by decide, by decide⟩

def begun : State :=
  { live with
    control := { live.control with rx := [0xC3], rxAt := 999 }
    field := { live.field with rx := [0xC3], rxAt := 999, out := [⟨1, 1, .opening, 9⟩] } }

theorem witness_Lines :
    begun.power = .running ∧ receive (begun.control.rx ++ [0, 0]) = ([], [0xC3, 0, 0]) ∧
    receive (begun.field.rx ++ [0xFF, 0xFF]) = ([], []) ∧ receive (begun.field.rx ++ []) = ([], begun.field.rx) ∧
    begun.control.rx ≠ [] ∧
    begun.control.rxAt < begun.partTime.toNat ∧ begun.field.rx ≠ [] ∧ begun.field.rxAt < begun.partTime.toNat ∧
    begun.field.out = ⟨1, 1, .opening, 9⟩ :: [] := by decide

theorem witness_Receiver :
    (0xA0 < 256 ∧ 0 < 256 ∧ [(5 : Byte), 0, 0, 0].length ≤ 1024) ∧ (0xC2#8 : Byte) ≠ 0xC3#8 ∧
    1024 < (0x01#8).toNat + 256 * (0x04#8).toNat ∧ (0x00#8).toNat + 256 * (0x04#8).toNat ≤ 1024 ∧
    ([1#8, 1#8] : List Byte).length = (0#8).toNat + 256 * (0#8).toNat + 2 ∧
    (0#8).toNat + 256 * (0#8).toNat ≠ (crc16 [0, 0, 1, 1]).toNat := by decide

/-- A state that meets an invariant and steps on, for each of the invariants that steps keep. -/
def queued : State := { State.reset with pending := [.status 1 (.fits ())] }

theorem witness_invariants_step : ∃ t, step queued = .next t := ⟨_, rfl⟩

theorem witness_PortBounds : PortBounded queued := ⟨by decide, by decide, by decide, by decide, by decide, nofun, nofun⟩
theorem witness_QueueBounds : QueueSound queued :=
  ⟨by decide, by decide, by decide, by decide, by decide, by decide, by decide, by decide⟩
theorem witness_SupplySound : SupplySound queued :=
  ⟨nofun, nofun, nofun, by decide, by decide, by decide, by decide, by decide, by decide⟩
theorem witness_IncidentsSound : IncidentsSound queued := by
  refine ⟨by decide, by decide, by decide, ?_⟩
  have : queued.incidentList = [] := by decide
  rw [this]
  intro i hi
  cases hi
theorem witness_PressuresSound : PressuresSound queued :=
  ⟨by decide, by decide, fun _ h => (by cases h), fun _ h => (by cases h), nofun, nofun, nofun, nofun⟩

/-! ### Witnesses: globals, SAVE, restart -/

theorem witness_SetGlobals : Admits live 1 ∧ live.store.save = none := ⟨live_admits, by decide⟩

theorem saving_admits : Admits saving 1 := ⟨by decide, by decide, by decide, by decide⟩

theorem witness_Save_begins :
    Admits live 1 ∧ live.net.active = some img ∧ live.store.save = none ∧ live.net.standby = .empty :=
  ⟨live_admits, by decide⟩
theorem witness_Save_busy :
    Admits saving 1 ∧ (Instr.pointTune 1 (.fits ⟨1, 0, 1, 0, 0⟩)).request? = some (0x20, 1) ∧
    (Instr.pointTune 1 (.fits ⟨1, 0, 1, 0, 0⟩)).fitsLayout = true ∧ saving.net.active = some img ∧
    saving.store.save.isSome = true ∧ (Instr.pointTune 1 (.fits ⟨1, 0, 1, 0, 0⟩)).named? = some (.point, 1) ∧
    img.point? 1 = some ⟨1, 2, 1, 0, 0, 10000⟩ ∧ saving.point? 1 = some good := ⟨saving_admits, by decide⟩
theorem witness_Save_held :
    Admits (withStandby (.pending img) live) 1 ∧ (withStandby (.pending img) live).net.standby = .pending img ∧
    (withStandby (.pending img) live).net.active = some img := ⟨admits_as_live _ rfl rfl, rfl, rfl⟩
theorem witness_Save_ends : saving.power = .running ∧ saving.store.save = some ⟨contents, 990⟩ := by decide

def held : State := { live with power := .held .powerOn, resetPin := true }

theorem witness_RestartsFollow :
    live.resetPin = false ∧ held.resetPin = true ∧ held.store.save = none ∧ live.power = .running ∧
    live.store.save = none ∧ off.power ≠ .running ∧ held.power = .held .powerOn ∧ (∀ c, off.power ≠ .held c) ∧
    Admits live 1 ∧ restarting.control.line = .reply [] ∧
    restarting.control.replies = ⟨3, 4, .done .nothing, true⟩ :: [] :=
  ⟨by decide, by decide, by decide, by decide, by decide, by decide, by decide, nofun, live_admits, by decide, by decide⟩

def tiny : StoreContents := ⟨⟨1, [], [], [], []⟩, [], Globals.default⟩

def stored (x : Stored) : State := { live with store := { live.store with stored := x } }

theorem witness_RestartErases :
    Stored.blank = (if live.store.save.isSome then .broken else live.store.stored) ∧
    Stored.broken = (if saving.store.save.isSome then .broken else saving.store.stored) ∧
    Stored.written tiny 0 = (if (stored (.written tiny 0)).store.save.isSome then .broken
      else (stored (.written tiny 0)).store.stored) ∧ crc32 tiny.bytes ≠ 0 := by decide

theorem witness_RestartInstalls :
    (stored (.written contents (crc32 contents.bytes))).store.save = none ∧
    (stored (.written contents (crc32 contents.bytes))).store.stored = .written contents (crc32 contents.bytes) ∧
    validate contents.image.raw = none := ⟨rfl, rfl, by decide⟩

/-! ### Witnesses: topology -/

def loading (gap next : Nat) (records : List RawRecord) (check : BitVec 32) : Loading :=
  { image := 8, segments := 1, elements := 1, points := 0, stations := 0, records := records, check := check, next := next
    gapAt := gap }

def loadingAt (l : Loading) (s : State) : State := withStandby (.loading l) s

theorem loading_admits (l : Loading) : Admits (loadingAt l live) 1 := admits_as_live _ rfl rfl

def smallRaw : List RawRecord := [.segment ⟨1, 10, 0⟩, .element ⟨1, 3, 0, 1, 2, 0, 0, 60, 0⟩]

theorem witness_LoadBegins :
    Admits live 1 ∧ ((8 : Nat) ≠ 0 ∧ (256 : Nat) ≤ 256 ∧ (512 : Nat) ≤ 512 ∧ (192 : Nat) ≤ 192 ∧ (64 : Nat) ≤ 64) ∧
    (256 < (257 : Nat) ∧ 512 < (513 : Nat) ∧ 192 < (193 : Nat) ∧ 64 < (65 : Nat)) := ⟨live_admits, by decide⟩
theorem witness_LoadTimesOut :
    (loadingAt (loading 1000 1 [] 0) live).power = .running ∧
    (loading 1000 1 [] 0).gapAt ≤ (loadingAt (loading 1000 1 [] 0) live).partTime.toNat ∧
    (loadingAt (loading 1001 1 [] 0) live).partTime.toNat < (loading 1001 1 [] 0).gapAt := by decide

/-- LOAD_TIMEOUT goes straight onto a free line, and waits behind a frame once begun (R18, R171). -/
theorem test_free_line_takes_a_notice :
    (run .gapTimerExpiry (loadingAt (loading 1000 1 [] 0) free)).control.line =
      .notice (Wire.noticeFrame { number := 1, time := 1000, body := .loadTimeout 8 1 }) ∧
    (run .gapTimerExpiry (loadingAt (loading 1000 1 [] 0) free)).control.notices = [] ∧
    (run .gapTimerExpiry (loadingAt (loading 1000 1 [] 0) live)).control.notices =
      [{ number := 1, time := 1000, body := .loadTimeout 8 1 }] := by decide

/-- One segment fits an image that holds 255 of them, and not one that holds 256 (R17). -/
theorem witness_TopoPart :
    Admits (loadingAt (loading 1060 65535 [] 0) live) 1 ∧ (∀ l, live.net.standby ≠ .loading l) ∧
    partKind (.unknown 5 []) = none ∧ partKind (.segments [⟨1, 0, 0⟩]) = some .segment ∧
    (1 : Nat) ≠ (loading 1060 65535 [] 0).next ∧ (65535 : Nat) = (loading 1060 65535 [] 0).next ∧
    countKind .segment (List.replicate 255 (.segment ⟨1, 0, 0⟩) ++ partRaw (.segments [⟨1, 0, 0⟩])) ≤
      RecordKind.segment.top ∧
    RecordKind.segment.top < countKind .segment (List.replicate 256 (.segment ⟨1, 0, 0⟩) ++
      partRaw (.segments [⟨1, 0, 0⟩])) :=
  ⟨loading_admits _, nofun, by decide, by decide, by decide, by decide, by decide, by decide⟩

theorem witness_Commit_loading :
    Admits (loadingAt (loading 1060 2 smallRaw 5) live) 1 ∧ (loadingAt (loading 1060 2 smallRaw 5) live).store.save = none ∧
    (countKind .segment smallRaw = 1 ∧ countKind .element smallRaw = 1 ∧ countKind .point smallRaw = 0 ∧
      countKind .station smallRaw = 0) ∧
    ¬(countKind .segment ([] : List RawRecord) = 1) ∧ (5#32 ^^^ 0xFFFFFFFF#32 ≠ BitVec.ofNat 32 0) ∧
    5#32 ^^^ 0xFFFFFFFF#32 = BitVec.ofNat 32 4294967290 ∧
    (validate (.segment ⟨257, 0, 0⟩ :: smallRaw.drop 1)).isSome = true := ⟨loading_admits _, by decide⟩
theorem witness_Commit_others :
    saving.store.save.isSome = true ∧ live.store.save = none ∧ live.net.standby = .empty ∧
    (withStandby (.pending img) live).net.standby = .pending img ∧
    (withStandby (.complete img) live).net.standby = .complete img ∧ conflictTest img live = none ∧
    (withQueue [order] live).elements.queue ≠ [] := by decide
/-- The image of `smallRaw` meets every test beside no work, and conflicts with an incident on segment 2 (R20, R22). -/
theorem witness_Commit_sound :
    validate smallRaw = none ∧ conflictTest (Image.ofRaw 8 smallRaw) live = none ∧
    conflictTest (Image.ofRaw 8 smallRaw) (withIncidents [incident] live) = some (.segment, 2) ∧
    conflictTest ⟨8, [], [], [], []⟩ (withIncidents [incident] live) = some (.segment, 2) ∧
    (loadingAt (loading 1060 2 smallRaw 5) (withQueue [order] live)).elements.queue ≠ [] ∧
    (loadingAt (loading 1060 2 smallRaw 5) live).elements.queue = [] ∧
    ∀ p c, (loadingAt (loading 1060 2 smallRaw 5) live).planner.buffer ≠ .computing p c :=
  ⟨by decide, by decide, by decide, by decide, by decide, by decide, nofun⟩
/-- Segments and elements both differ from their declared counts: the segments are named (R20). -/
theorem witness_Commit_counts : countKind .segment ([] : List RawRecord) ≠ 1 ∧ countKind .element ([] : List RawRecord) ≠ 1 := by
  decide

def first : State := loadingAt (loading 1060 2 smallRaw 5) State.reset

theorem witness_FirstCommit :
    first.net.active = none ∧ first.elements.queue = [] ∧ first.planner.buffer = .empty ∧ first.field.stations = [] ∧
    first.supply.segs = [] ∧ first.supply.outages = [] ∧ first.incidentList = [] ∧ first.store.save = none ∧
    5#32 ^^^ 0xFFFFFFFF#32 = BitVec.ofNat 32 4294967290 ∧ validate smallRaw = none ∧ Quiet first ∧ Admits first 1 :=
  ⟨by decide, by decide, by decide, by decide, by decide, by decide, by decide, by decide, by decide, by decide,
    ⟨by decide, nofun⟩, ⟨by decide, by decide, by decide, by decide⟩⟩

theorem witness_Abandon : Admits live 1 ∧ live.net.standby = .empty := ⟨live_admits, rfl⟩

/-- An image with segment 4 and an element 4 more, element 2 turned round and element 3 another kind. -/
def img8 : Image :=
  { img with
    number := 8
    segments := img.segments ++ [⟨4, 10, false⟩]
    elements :=
      [⟨1, .source, 0, 1, .remote, 1, 0, 60, false⟩, ⟨2, .valve, 2, 1, .remote, 1, 1, 60, false⟩,
       ⟨3, .regulator, 2, 3, .manual, 0, 0, 900, false⟩, ⟨4, .valve, 3, 4, .manual, 0, 0, 900, false⟩] }

/-- The PENDING image at its three activating moments, with and without a conflict and with an order left (R24). -/
def pendingPlan (s : State) : State :=
  withBuffer (.computing { plan with result := none } (takeCopy img live)) (withStandby (.pending img8) s)
def pendingOrder (s : State) : State := withStandby (.pending img8) (withQueue [order] s)
def off9 : Incident := { incident with segment := 9 }

theorem witness_Pending :
    Admits (pendingPlan live) 1 ∧ (pendingPlan live).net.standby = .pending img8 ∧ (pendingPlan live).elements.queue = [] ∧
    conflictTest img8 (pendingPlan live) = none ∧
    conflictTest img8 (pendingPlan (withIncidents [off9] live)) = some (.segment, 9) ∧
    (pendingPlan (withQueue [order] live)).elements.queue ≠ [] ∧
    Admits (pendingOrder live) 1 ∧ (pendingOrder live).elements.queue = [order] ∧ order.state = .queued ∧
    (∀ r ∈ (pendingOrder live).register.records, r = none) ∧
    conflictTest img8 (pendingOrder live) = none ∧
    conflictTest img8 (pendingOrder (withIncidents [off9] live)) = some (.segment, 9) ∧
    plan.startTime < (pendingPlan live).partTime.toNat ∧
    (∃ p c, (pendingOrder (pendingPlan live)).planner.buffer = .computing p c) ∧
    ∀ p c, (pendingOrder live).planner.buffer ≠ .computing p c :=
  ⟨admits_as_live _ rfl rfl, rfl, by decide, by decide, by decide, by decide, admits_as_live _ rfl rfl, by decide,
    by decide, by decide, by decide, by decide, by decide, ⟨_, _, rfl⟩, nofun⟩

/-- A kept point under a REPORTING station, a kept station with its timer running and one with it stopped, a new station, a
kept segment and a new one (R26, R63, R85). -/
theorem witness_CarryOver_tables :
    (img8.points.map (·.number)).Nodup ∧ (img8.stations.map (·.address)).Nodup ∧
    live.points.map (·.number) = img.points.map (·.number) ∧ live.point? 1 = some good ∧
    (∃ x ∈ (carryOver img8 live).field.stations, x.address = 1 ∧ x.state = .reporting) ∧
    (∀ x ∈ (carryOver img8 (atStation { st1 with state := .silent } live)).field.stations,
      x.address = 1 → x.state ≠ .reporting) ∧
    st2.silenceAt = none ∧ live.station? 2 = some st2 ∧ st1.silenceAt ≠ none ∧ st1.lastAccepted = some 1000 ∧
    live.station? 1 = some st1 ∧ (atStation st1 live).station? 2 = none ∧ live.seg? 2 = some (liveSegment 0 2) ∧
    live.seg? 4 = none := by decide

theorem witness_CarryOver :
    live.net.active = some img ∧ NumbersDistinct img ∧ NumbersDistinct img8 ∧
    live.elements.table.map (·.number) = img.elements.map (·.number) ∧
    (img.elements[1]?.bind fun o => img8.elements[1]?.map (alike o)) = some true ∧
    (img.elements[2]?.bind fun o => img8.elements[2]?.map (alike o)) = some false :=
  ⟨rfl, ⟨by decide, by decide⟩, ⟨by decide, by decide⟩, rfl, by decide, by decide⟩

theorem witness_Reachability :
    live.net.active = some img ∧ bare.net.active = none ∧ live.element? 2 = some (elem 2 .opened) := by decide

/-! ### Witnesses: pressure -/

theorem witness_Tuning :
    Admits live 1 ∧ live.net.active = some img ∧ img.point? 1 = some ⟨1, 2, 1, 0, 0, 10000⟩ ∧ live.point? 1 = some good ∧
    live.store.save = none ∧ ((-5 : Int) ≤ -5 ∧ (-5 : Int) < 0 ∧ (0 : Int) ≤ 0) ∧
    ¬((1 : Int) ≤ 0 ∧ (0 : Int) < 5 ∧ (5 : Int) ≤ 5) := ⟨live_admits, by decide⟩

/-- Counts 759 and 760 stand on the two sides of the live zero (R50). -/
theorem witness_Reading :
    (759 : Nat) < 760 ∧ (760 : Nat) ≤ 760 ∧ good.pendingLimits = none ∧
    tuned.pendingLimits = some (⟨2000, 2800, 3200, 3700⟩, 100) := by decide

theorem witness_Filter :
    (evaluate 1000 1712 false none point21).p = some 2825 ∧ (760 : Nat) ≤ 1712 ∧
    (PointRec.fresh ⟨1, 2, 1, 0, 0, 10000⟩).quality ≠ .good ∧ point21.quality = .good ∧ point21.f = some 2900 ∧
    point21.weight ≤ 16 := by decide

/-- The two sides of the span of a rate (R57), and a rate at exactly -F and at exactly -floor(F / 2) (R58). -/
theorem witness_Rate :
    (evaluate 1000 1712 false none { point21 with history := [(941, 0)] }).rate = none ∧
    (evaluate 1000 1712 false none { point21 with history := [(940, 2921)] }).rate = some (-40) ∧
    (evaluate 1000 1712 false none { point21 with history := [(940, 2921)] }).falling = true ∧
    (evaluate 1000 1712 false none { point21 with history := [(940, 2901)], falling := true }).rate = some (-20) ∧
    (evaluate 1000 1712 false none { point21 with history := [(940, 2901)], falling := true }).falling = false ∧
    (evaluate 1000 1712 false none { point21 with history := [(940, 2902)], falling := true }).falling = true := by decide

/-- R59's lines at their boundaries, for limits 10, 20, 30, 40 and a hysteresis of 5. -/
theorem witness_Bands :
    bandAfter ⟨10, 20, 30, 40⟩ 5 .normal 9 = .lowLow ∧ bandAfter ⟨10, 20, 30, 40⟩ 5 .lowLow 14 = .lowLow ∧
    bandAfter ⟨10, 20, 30, 40⟩ 5 .lowLow 15 = .low ∧ bandAfter ⟨10, 20, 30, 40⟩ 5 .low 24 = .low ∧
    bandAfter ⟨10, 20, 30, 40⟩ 5 .low 25 = .normal ∧ bandAfter ⟨10, 20, 30, 40⟩ 5 .normal 20 = .normal ∧
    bandAfter ⟨10, 20, 30, 40⟩ 5 .normal 41 = .highHigh ∧ bandAfter ⟨10, 20, 30, 40⟩ 5 .highHigh 36 = .highHigh ∧
    bandAfter ⟨10, 20, 30, 40⟩ 5 .highHigh 35 = .high ∧ bandAfter ⟨10, 20, 30, 40⟩ 5 .high 26 = .high ∧
    bandAfter ⟨10, 20, 30, 40⟩ 5 .high 25 = .normal ∧ bandAfter ⟨20, 20, 21, 21⟩ 5 .lowLow 20 = .lowLow ∧
    bandAfter ⟨20, 20, 30, 30⟩ 5 .highHigh 26 = .highHigh := by decide

/-! ### Witnesses: stations -/

theorem witness_AcceptedReport :
    live.power = .running ∧ live.net.active = some img ∧ img.station? 1 = some ⟨1, 60, .reportOnly⟩ ∧
    live.station? 1 = some st1 ∧
    wellFormedReport ⟨true, [⟨0, 4095, false⟩, ⟨7, 0, true⟩], [⟨7, 5⟩, ⟨0, 1⟩]⟩ = true := by decide

/-- A slot of station 1 with a REMOTE element, with a point, and with neither (R31); station 1 available and silent (R124). -/
theorem witness_AcceptedReport_slots :
    (img.elements.filter fun y => y.cls = .remote ∧ y.station = 1 ∧ y.slot = 1) =
      [⟨2, .valve, 1, 2, .remote, 1, 1, 60, false⟩] ∧ PositionCode.ofCode 2 = some .closed ∧
    (∀ y ∈ img.elements, ¬(y.cls = .remote ∧ y.station = 1 ∧ y.slot = 7)) ∧
    (img.points.filter fun y => y.station = 1 ∧ y.slot = 0) = [⟨1, 2, 1, 0, 0, 10000⟩] ∧
    (∀ y ∈ img.points, ¬(y.station = 1 ∧ y.slot = 1)) ∧ live.station? 1 = some st1 ∧ live.station? 3 = none := by decide

theorem witness_Heartbeat :
    live.elements.queue = [] ∧ st1.state = .reporting ∧ live.station? 2 = some st2 ∧ st2.state = .silent ∧
    img.station? 2 = some ⟨2, 60, .latched⟩ := by decide

theorem witness_DiscardedReports :
    live.net.active = some img ∧ (8 : Nat) < (List.replicate 9 (⟨0, 0, false⟩ : Reading)).length ∧
    (∃ x ∈ [(⟨8, 0, false⟩ : Reading)], 7 < x.slot ∨ 4095 < x.count) ∧
    (∃ x ∈ [(⟨0, 4096, false⟩ : Reading)], 7 < x.slot ∨ 4095 < x.count) ∧
    (∃ x ∈ [(⟨0, 6⟩ : Position)], 7 < x.slot ∨ x.code = 0 ∨ 5 < x.code) ∧ ¬([3, 3] : List Nat).Nodup := by decide

theorem witness_Silence :
    (withTime 1060 live).power = .running ∧ (withTime 1060 live).station? 1 = some st1 ∧ st1.state = .reporting ∧
    st1.silenceAt = some 1060 ∧ 1060 ≤ (withTime 1060 live).partTime.toNat ∧
    ((withTime 1060 live).pointsOf.map (·.number)).Pairwise (· < ·) := by decide

def latched : State := atStation ⟨2, .heldSilent, some 1000, true, some 940, some 800⟩ live

theorem latched_admits : Admits latched 1 := admits_as_live _ rfl rfl

theorem witness_HeldSilent :
    latched.power = .running ∧ latched.station? 2 = some ⟨2, .heldSilent, some 1000, true, some 940, some 800⟩ ∧
    1000 ≤ latched.partTime.toNat ∧ Admits latched 1 ∧ img.station? 2 = some ⟨2, 60, .latched⟩ ∧
    latched.elements.queue = [] ∧ st1.state ≠ .heldSilent :=
  ⟨by decide, by decide, by decide, latched_admits, by decide, by decide, by decide⟩

/-! ### Witnesses: elements and orders -/

def available (s : State) (station : Nat) : Prop := ∃ st, s.station? station = some st ∧ st.state = .reporting ∧ st.localFlag = false

def closed2 : State := withElements [elem 1 .opened, elem 2 .closed, elem 3 .opened] live

theorem witness_OrderIsSent :
    Admits live 1 ∧ img.element? 2 = some ⟨2, .valve, 1, 2, .remote, 1, 1, 60, false⟩ ∧
    live.element? 2 = some (elem 2 .opened) ∧ live.elements.queue = [] ∧ available live 1 ∧
    closed2.element? 2 = some (elem 2 .closed) ∧ (∀ m ∈ closed2.gaining 2, closed2.outage? m = none) ∧
    ¬available (atStation { st1 with localFlag := true } live) 1 := by
  refine ⟨live_admits, by decide, by decide, by decide, ⟨st1, by decide⟩, by decide, by decide, ?_⟩
  rintro ⟨x, hx, -, hl⟩
  have : (atStation { st1 with localFlag := true } live).station? 1 = some { st1 with localFlag := true } := by decide
  rw [this] at hx
  cases hx
  cases hl

/-- The refusals of ORDER on `live`, and the free numbers: 31 orders ahead of the next number, and the wrap at 65535 (R116,
R117). -/
def opposite : Order := { order with action := .opening }
def others (n : Nat) : List Order := (List.range n).map fun k => { order with number := k + 1, element := k + 100 }

theorem witness_OrderIsSent_refused :
    (0 : Nat) ≠ 1 ∧ (3 : Nat) ≠ 2 ∧ img.element? 3 = some ⟨3, .valve, 2, 3, .manual, 0, 0, 900, false⟩ ∧
    (withQueue [order] live).orderOf? 2 = some order ∧ order.action = .close ∧
    (withQueue [sent] live).orderOf? 2 = some sent ∧ sent.action ≠ .opening ∧ sent.state ≠ .queued ∧
    (withQueue (others 32) live).orderOf? 2 = none ∧ (elem 2 .opened).state ≠ .closed ∧
    32 ≤ (withQueue (others 32) live).elements.queue.length := by decide
theorem witness_OrderIsSent_placed :
    (withQueue (others 31) live).orderOf? 2 = none ∧ (withQueue (others 31) live).elements.queue.length < 32 ∧
    live.elements.nextOrder = 1 ∧
    (∀ j, j < 31 → ∃ y ∈ others 31, y.number = (fun n => if n < 65535 then n + 1 else 1)^[j] 1) ∧
    (∀ y ∈ others 31, y.number ≠ (fun n => if n < 65535 then n + 1 else 1)^[31] 1) ∧
    (fun n => if n < 65535 then n + 1 else 1)^[1] 65535 = 1 := by decide
theorem witness_OrderIsSent_replaces :
    (withQueue [opposite] live).orderOf? 2 = some opposite ∧ opposite.action ≠ .close ∧ opposite.state = .queued ∧
    ([opposite].filter fun y => y.number ≠ opposite.number) = [] ∧ (elem 2 .opened).state ≠ .closed ∧
    (withQueue [opposite] closed2).orderOf? 2 = some opposite ∧ (elem 2 .closed).state = .closed := by decide

/-- Closing element 2 would lose segments 2 and 3, of which 2 is protected; with the override it may be sent (R121). -/
theorem witness_OrderOverride : live.lostBy 2 = [2, 3] ∧ live.guardedSegment 2 = true := by decide

theorem witness_OrdersEnd :
    closed2.element? 2 = some (elem 2 .closed) ∧ closed2.elements.queue = [] ∧ live.order? 5 = none ∧
    (withQueue [order] live).order? 5 = some order ∧ order.state = .queued ∧
    (withQueue [sent] live).order? 5 = some sent ∧ sent.state ≠ .queued ∧ Admits closed2 1 ∧ Quiet live :=
  ⟨by decide, by decide, by decide, by decide, by decide, by decide, by decide, admits_as_live _ rfl rfl, live_quiet⟩

/-- A record whose entry waits for the CLOSE order of incident 4 (R158), and a host order (R158 acts on none). -/
def record5 : IsoRecord :=
  { incident := 4, override := false, executions := 1, firstPlan := 3, lastPlan := 3, createdAt := 995, zone := [2]
    entries := [⟨2, .remote, .toClose, 5, none, 996⟩] }
def closing : State := { live with register := { records := some record5 :: List.replicate 7 none } }

theorem witness_OrdersEnd_handed :
    order.origin = .host ∧ { order with origin := .isolation 4 }.origin = .isolation 4 ∧ closing.recordOf 4 = some 0 ∧
    (closing.record? 0).map (·.incident) = some 4 ∧ closing.recordOf 5 = none := by decide

theorem witness_Acknowledgement :
    (withQueue [sent] live).stationTopo? 1 = some ⟨1, 60, .reportOnly⟩ ∧ (withQueue [sent] live).flightOf? 1 = some sent ∧
    sent.tag = 9 ∧ (withQueue [sent] live).elemTopo? sent.element = some ⟨2, .valve, 1, 2, .remote, 1, 1, 60, false⟩ ∧
    sent.state = .sent ∧ (withQueue [moving] live).flightOf? 1 = some moving ∧ moving.state = .moving ∧
    Quiet (withQueue [sent] live) :=
  ⟨by decide, by decide, by decide, by decide, by decide, by decide, by decide, quiet_as_live _ rfl rfl⟩

def waiting : Order := { order with unavailableAt := some 1000 }
def last : Order := { sent with sendsLeft := 0 }

theorem witness_OrderTimers :
    (withQueue [waiting] live).order? 5 = some waiting ∧ 1000 ≤ live.partTime.toNat ∧
    (withQueue [{ sent with override := true }] live).order? 5 = some { sent with override := true } ∧
    interlock (withQueue [{ sent with override := true }] live) { sent with override := true } = none ∧
    0 < sent.sendsLeft ∧ (withQueue [last] live).order? 5 = some last ∧ last.sendsLeft = 0 ∧
    (withQueue [moving] live).order? 5 = some moving ∧ moving.strokeAt = some 1000 ∧
    live.element? moving.element = some (elem 2 .opened) ∧ (elem 2 .opened).faultMark = false := by decide

theorem witness_OrderTimers_interlock :
    0 < sent.sendsLeft ∧ (withQueue [sent] live).elements.queue = [sent] ∧ sent.action = .close ∧
    sent.override = false ∧ (withQueue [sent] live).lostBy sent.element = [] ++ 2 :: [3] ∧
    (withQueue [sent] live).guardedSegment 2 = true ∧ Quiet (withQueue [sent] live) :=
  ⟨by decide, by decide, by decide, by decide, by decide, by decide, quiet_as_live _ rfl rfl⟩
theorem witness_OrderTimers_marked :
    (withQueue [moving] (withElements [elem 1 .opened, { elem 2 .opened with faultMark := true }] live)).element? 2 =
      some { elem 2 .opened with faultMark := true } ∧
    { elem 2 .opened with faultMark := true }.faultMark = true ∧ moving.element = 2 := by decide

theorem witness_Positions :
    (some sent : Option Order) = some sent ∧ sent.state ≠ .queued ∧ sent.action = .close ∧
    (takePosition 1000 .travel (some sent) (elem 2 .opened)).direction = some .closing := by decide

/-- An order of `live` in each state, and what each position makes of its element (R110, R127, R129). -/
theorem witness_Positions_judged :
    Quiet (withQueue [sent] live) ∧ Quiet (withQueue [moving] live) ∧ Quiet (withQueue [order] live) ∧
    (withQueue [sent] live).element? 2 = some (elem 2 .opened) ∧ live.orderOf? 2 = none ∧
    (withQueue [sent] live).orderOf? 2 = some sent ∧ (withQueue [moving] live).orderOf? 2 = some moving ∧
    (withQueue [order] live).orderOf? 2 = some order ∧ sent.action = .close ∧ moving.state ≠ .queued ∧
    (takePosition 1000 .closed (some sent) (elem 2 .opened)).state = .closed ∧
    (takePosition 1000 .stopped (some sent) (elem 2 .opened)).state ≠ .closed ∧
    (withQueue [sent] live).elemTopo? 2 = some ⟨2, .valve, 1, 2, .remote, 1, 1, 60, false⟩ :=
  ⟨quiet_as_live _ rfl rfl, quiet_as_live _ rfl rfl, quiet_as_live _ rfl rfl, by decide⟩

/-- The SENT order of `live` ends DONE at CLOSED, and is in flight on at STOPPED (R127). -/
theorem test_position_ends_order :
    (positionEvent (hooksTop .plain) 2 .closed (withQueue [sent] live)).elements.queue = [] ∧
    (positionEvent (hooksTop .plain) 2 .stopped (withQueue [sent] live)).elements.queue = [sent] ∧
    ((positionEvent (hooksTop .plain) 2 .travel (withQueue [sent] live)).elements.queue.map (·.strokeAt)) = [some 1060] := by
  decide

theorem witness_CrewReports :
    Admits live 1 ∧ img.element? 3 = some ⟨3, .valve, 2, 3, .manual, 0, 0, 900, false⟩ ∧
    live.element? 3 = some (elem 3 .opened) ∧ live.orderOf? 3 = none ∧ Quiet live ∧
    img.element? 2 = some ⟨2, .valve, 1, 2, .remote, 1, 1, 60, false⟩ ∧ live.station? 1 = some st1 ∧
    (withElements [{ elem 3 .opened with faultMark := true }] live).element? 3 =
      some { elem 3 .opened with faultMark := true } :=
  ⟨live_admits, by decide, by decide, by decide, live_quiet, by decide, by decide, by decide⟩

/-- A REMOTE element of a silent station, under an order of incident 4 in flight that the report does not end. -/
def unheard : State := withQueue [{ sent with origin := .isolation 4 }] (atStation { st1 with state := .silent } live)

theorem witness_CrewReports_remote :
    Admits unheard 1 ∧ unheard.element? 2 = some (elem 2 .opened) ∧ Quiet unheard ∧
    ¬(∃ st, unheard.station? 1 = some st ∧ st.state = .reporting) ∧
    unheard.orderOf? 2 = some { sent with origin := .isolation 4 } ∧ ¬(sent.action = .close ∧ (.opened : ElementState) = .closed) ∧
    ¬(sent.action = .opening ∧ (.opened : ElementState) = .opened) := by
  refine ⟨admits_as_live _ rfl rfl, by decide, quiet_as_live _ rfl rfl, ?_, by decide, by decide, by decide⟩
  rintro ⟨x, hx, hs⟩
  have : unheard.station? 1 = some { st1 with state := .silent } := by decide
  rw [this] at hx
  cases hx
  cases hs

/-- The same report with the order's target ends it; a position that is neither OPEN nor CLOSED (R112, R127). -/
theorem witness_CrewReports_ends :
    sent.action = .close ∧ (.closed : ElementState) = .closed ∧ sent.state ≠ .queued ∧ order.action = .close ∧
    order.state = .queued ∧ (3 : Nat) ≠ 1 ∧ (0 : Nat) ≠ 2 := by decide

theorem witness_CrewReports_handed :
    closing.recordHolding 2 = some 0 ∧ (closing.record? 0).isSome = true ∧ closing.recordHolding 3 = none := by decide

def cutSegs : List SegSupply := [liveSegment 0 1, enterCut 900 60 (liveSegment 0 2), enterCut 900 60 (liveSegment 0 3)]
def entry (n : Nat) : Outage := ⟨n, 900, .unplanned 2, 200, 0, 960, none⟩

/-- With element 2 CLOSED and segments 2 and 3 CUT. -/
def cut : State := withTime 1000 (withSegs cutSegs [entry 2, entry 3] closed2)

theorem witness_Interlocks :
    (withQueue [order] live).elements.queue = [order] ∧ (withQueue [order] live).station? 1 = some st1 ∧
    (withQueue [order] live).stationOf order = 1 ∧ (withQueue [order] live).lostBy order.element = [] ++ 2 :: [3] ∧
    (withQueue [order] live).guardedSegment 2 = true ∧
    (withQueue [{ order with action := .opening }] cut).gaining 2 = [] ++ 2 :: [3] ∧
    cut.outage? 2 = some (entry 2) ∧ Quiet (withQueue [order] live) :=
  ⟨by decide, by decide, by decide, by decide, by decide, by decide, by decide, quiet_as_live _ rfl rfl⟩

/-- An eligible order behind one whose element has no station; a barred order; a queue with no QUEUED order (R120). -/
def behind : State :=
  withQueue [{ order with number := 4, element := 3 }, { order with override := true }] live

theorem witness_Interlocks_pass :
    Quiet behind ∧ (behind.elements.queue.map (·.number)).Nodup ∧
    behind.elements.queue = [{ order with number := 4, element := 3 }] ++ { order with override := true } :: [] ∧
    behind.station? (behind.stationOf { order with number := 4, element := 3 }) = none ∧
    (behind.elements.queue.filter fun y => y.state ≠ .queued).length < 4 ∧ behind.stationOf order = 1 ∧
    behind.station? 1 = some st1 ∧ st1.state = .reporting ∧ st1.localFlag = false ∧
    behind.elemTopo? 2 = some ⟨2, .valve, 1, 2, .remote, 1, 1, 60, false⟩ ∧
    (withQueue [order] live).lostBy 2 = [] ++ 2 :: [3] ∧ (withQueue [order] live).guardedSegment 2 = true ∧
    (withQueue [sent] live).elements.queue = [sent] ∧ sent.state ≠ .queued :=
  ⟨quiet_as_live _ rfl rfl, by decide⟩

/-! ### Witnesses: supply -/

theorem witness_Recompute :
    closed2.net.active = some img ∧ NumbersDistinct img ∧
    closed2.supply.segs.map (·.segment) = img.segments.map (·.number) ∧
    (∀ x ∈ closed2.supply.segs, x.state = .live → closed2.outage? x.segment = none) ∧
    closed2.seg? 2 = some (liveSegment 0 2) ∧ (2 : Nat) ∉ closed2.reachable ∧ (1 : Nat) ∈ closed2.reachable :=
  ⟨by decide, ⟨by decide, by decide⟩, by decide, by decide, by decide, by decide, by decide⟩

theorem witness_Recompute_quiet : Quiet closed2 := quiet_as_live _ rfl rfl

def refilling : State :=
  withTime 1500 (withSegs [liveSegment 0 1, enterRecharging 900 600 (liveSegment 0 2)] [entry 2] live)

/-- No GOOD point and the vent time run, and not run; a GOOD point below the dead limit that has been sampled, and one that
holds the segment (R73, R75). -/
def drained : State :=
  { withTime 1000 (withSegs [liveSegment 0 1, { enterCut 900 60 (liveSegment 0 2) with sampled := [1] }] [entry 2] closed2) with
    points := [{ good with f := some 299 }] }

theorem witness_SupplyTimers_vent :
    (withTime 2700 cut).seg? 3 = some (enterCut 900 60 (liveSegment 0 3)) ∧ (withTime 2700 cut).outage? 3 = some (entry 3) ∧
    960 ≤ (withTime 2700 cut).partTime.toNat ∧ goodPoints (withTime 2700 cut) 3 = [] ∧
    900 + (withTime 2700 cut).supply.globals.vent ≤ (withTime 2700 cut).partTime.toNat ∧
    cut.partTime.toNat < 900 + cut.supply.globals.vent ∧
    goodPoints cut 2 = [good] ∧ cut.seg? 2 = some (enterCut 900 60 (liveSegment 0 2)) ∧
    960 ≤ cut.partTime.toNat ∧ (cut.supply.globals.dead : Int) ≤ 5000 ∧
    goodPoints drained 2 = [{ good with f := some 299 }] ∧
    drained.seg? 2 = some { enterCut 900 60 (liveSegment 0 2) with sampled := [1] } ∧
    (299 : Int) < drained.supply.globals.dead ∧ drained.outage? 2 = some (entry 2) ∧
    (cut.supply.segs.map (·.segment)).Nodup := by decide
theorem witness_SupplyTimers_recharge :
    { refilling with points := [] }.seg? 2 = some (enterRecharging 900 600 (liveSegment 0 2)) ∧
    goodPoints { refilling with points := [] } 2 = [] ∧ 1500 ≤ refilling.partTime.toNat ∧
    900 + refilling.supply.globals.recharge ≤ refilling.partTime.toNat ∧ refilling.outage? 2 = some (entry 2) ∧
    goodPoints refilling 2 = [good] ∧ good.band = .normal ∧
    goodPoints { refilling with points := [{ good with band := .low }] } 2 = [{ good with band := .low }] ∧
    (entry 2).minuteAt ≤ refilling.partTime.toNat := by decide
theorem witness_SupplyTimers_clearance :
    Admits cut 1 ∧ Quiet cut ∧ img.segment? 2 = some ⟨2, 200, true⟩ ∧ (entry 2).clearance = none ∧
    refilling.seg? 2 = some (enterRecharging 900 600 (liveSegment 0 2)) ∧
    (withSegs cutSegs [{ entry 2 with clearance := some 950 }] live).outage? 2 =
      some { entry 2 with clearance := some 950 } :=
  ⟨admits_as_live _ rfl rfl, quiet_as_live _ rfl rfl, by decide, by decide, by decide, by decide⟩

/-! ### Witnesses: incidents -/

theorem witness_Calls_create :
    img.segment? 3 = some ⟨3, 50, false⟩ ∧ CallClass.ofCode 5 = some .noGas ∧ live.incidentList = [] ∧
    live.incidents.slots[0]? = some none ∧ live.incidents.nextNumber = 1 := by decide
/-- A table with no slot, and one whose only CLOSED incident stands in its last slot, with the next number held (R87). -/
def crowd (n : Nat) : List (Option Incident) := List.replicate n (some off9)
def crowded : State := { live with incidents := { live.incidents with slots := crowd 64, nextNumber := 4 } }
def reusable : State :=
  { live with incidents :=
      { live.incidents with
        slots := crowd 63 ++ [some { off9 with number := 6, state := .closed, closedAt := some 900 }], nextNumber := 4 } }

theorem witness_Calls_full :
    (∀ x ∈ crowded.incidents.slots, x ≠ none) ∧ (∀ i ∈ crowded.incidentList, i.state ≠ .closed) ∧
    (∀ i ∈ crowded.incidentList, i.segment ≠ 3 ∧ valveNeighbours img 3 i.segment = false) := by decide
theorem witness_Calls_reuse :
    (∀ x ∈ reusable.incidents.slots, x ≠ none) ∧
    reusable.incidents.slots[63]? = some (some { off9 with number := 6, state := .closed, closedAt := some 900 }) ∧
    (∀ x ∈ reusable.incidents.slots.take 63, x = some off9) ∧ off9.state ≠ .closed ∧ off9.number = 4 := by decide
theorem witness_Calls_join :
    correlate img 2 (withIncidents [incident] live) = some incident ∧
    correlate img 3 (withIncidents [incident] live) = some incident ∧
    (∀ i ∈ (withIncidents [incident] live).incidentList, i.state ≠ .closed → ∀ c ∈ i.calls, c.number ≠ 78) := by decide
/-- The refusals of CALL: number 0, a class below and above the five, a number held (R89, R90). -/
theorem witness_Calls_refused :
    Admits (withIncidents [incident] live) 1 ∧ img.segment? 2 = some ⟨2, 200, true⟩ ∧ 5 < 6 ∧
    incident ∈ (withIncidents [incident] live).incidentList ∧ ⟨77, .outside, 800⟩ ∈ incident.calls ∧
    incident.state ≠ .closed ∧ (77 : Nat) ≠ 0 := ⟨admits_as_live _ rfl rfl, by decide⟩
theorem witness_Correlation : ((withIncidents [incident] live).incidentList.map (·.number)).Nodup := by decide

/-- An automatic event joins, creates, and is not made (R98, R100, R101). -/
theorem witness_Automatic :
    (withIncidents [incident] live).net.active = some img ∧ live.seg? 2 = some (liveSegment 0 2) ∧
    correlate img 2 (withIncidents [incident] live) = some incident ∧ correlate img 2 live = none ∧
    live.incidents.slots[0]? = some none ∧ live.incidentList = [] ∧
    correlate img 2 { live with incidents := { live.incidents with slots := [some off9] } } = none ∧
    (off9.number :: []).Nodup := by decide
/-- FALLING alone: a LEAK incident of grade 3 on the segment, one of grade 1, and a segment with none (R99). -/
theorem witness_Falling :
    incident.segment = 2 ∧ incident.causes.leak = true ∧ incident.grade ≠ 1 ∧ incident ∈ (withIncidents [incident] live).incidentList ∧
    { incident with grade := 1 } ∈ (withIncidents [{ incident with grade := 1 }] live).incidentList ∧
    (∀ i ∈ (withIncidents [off9] live).incidentList, ¬(i.state ≠ .closed ∧ i.segment = 2 ∧ i.causes.leak = true)) := by decide
theorem witness_Reading_handedOn :
    live.point? 1 = some good ∧ live.pointTopo? 1 = some ⟨1, 2, 1, 0, 0, 10000⟩ := by decide

theorem witness_IncidentActions :
    (withIncidents [incident] live).incident? 4 = some incident ∧ incident.state = .opened ∧ incident.grade = 3 ∧
    (1 ≤ 2 ∧ 2 ≤ 4 ∧ 2 < incident.grade) ∧ ¬(1 ≤ 3 ∧ 3 ≤ 4 ∧ 3 < incident.grade) ∧ ¬(1 ≤ 0 ∧ 0 ≤ 4 ∧ 0 < incident.grade) ∧
    { incident with state := .safe }.isoStatus = .none := by decide
theorem witness_IncidentActions_refused :
    Admits (withIncidents [incident] live) 1 ∧ (withIncidents [incident] live).net.active = some img ∧
    (withIncidents [incident] live).incident? 9 = none ∧ (withIncidents [incident] live).incident? 0 = none ∧ 5 < 6 :=
  ⟨admits_as_live _ rfl rfl, by decide⟩
theorem witness_IncidentActions_set :
    (withIncidents [incident] live).incident? incident.number = some incident ∧
    { incident with grade := 2 }.number = incident.number ∧ { incident with grade := 2 }.grade ≠ incident.grade := by decide
theorem witness_DeadlineExpiry :
    (withTime 8000 (withIncidents [incident] live)).incident? 4 = some incident ∧ incident.deadline = some 8000 ∧
    8000 ≤ (withTime 8000 (withIncidents [incident] live)).partTime.toNat ∧ incident.overdue = false := by decide

/-! ### Witnesses: plans and isolations -/

def planned : State := withBuffer (.held plan) (withIncidents [incident] live)

theorem planned_admits : Admits planned 1 := admits_as_live _ rfl rfl

def computing : State := withBuffer (.computing { plan with result := none } (takeCopy img live)) (withIncidents [incident] live)

theorem witness_PlanBuffer :
    Admits planned 1 ∧ planned.incident? 4 = some incident ∧ incident.isoStatus = .none ∧
    (withIncidents [incident] live).planner.buffer = .empty ∧ planned.planner.buffer = .held plan ∧
    computing.planner.buffer = .computing { plan with result := none } (takeCopy img live) ∧
    computing.power = .running ∧ computing.net.active = some img ∧ plan.startTime < computing.partTime.toNat ∧
    (withTime 990 computing).partTime.toNat ≤ plan.startTime ∧ ∀ j, computing.net.standby ≠ .pending j :=
  ⟨planned_admits, by decide, by decide, by decide, rfl, rfl, by decide, by decide, by decide, by decide, nofun⟩

/-- The refusals of PLAN, PLAN_READ and PLAN_CANCEL (R136, R147, R148), and a PENDING image beside the computation (R24). -/
theorem witness_PlanBuffer_refused :
    Admits computing 1 ∧ planned.incident? 9 = none ∧ { incident with isoStatus := .proven }.isoStatus ≠ .none ∧
    { incident with isoStatus := .proven }.isoStatus ≠ .partially ∧ computing.incident? 4 = some incident ∧ 3 < 4 ∧
    (∀ p, computing.planner.buffer ≠ .held p) ∧ live.planner.buffer = .empty ∧ plan.number ≠ 4 :=
  ⟨admits_as_live _ rfl rfl, by decide, by decide, by decide, by decide, by decide, nofun, by decide, by decide⟩
theorem witness_PlanBuffer_pending :
    Admits (withStandby (.pending img) computing) 1 ∧ (withStandby (.pending img) computing).net.active = some img ∧
    (withStandby (.pending img) computing).planner.buffer =
      .computing { plan with result := none } (takeCopy img live) :=
  ⟨admits_as_live _ rfl rfl, by decide, rfl⟩

/-- A plan of segment 3 closes the MANUAL valve 3 and reaches OK (R138 to R141). -/
theorem witness_PlanEncloses :
    NumbersDistinct img ∧ (computePlan img (takeCopy img live) plan).result = some .ok ∧
    (computePlan img (takeCopy img live) plan).zone = [3] ∧
    (computePlan img (takeCopy img live) plan).close = [(3, .manual)] :=
  ⟨⟨by decide, by decide⟩, by decide, by decide, by decide⟩

theorem witness_Execute :
    Admits planned 1 ∧ planned.net.active = some img ∧ planned.planner.buffer = .held plan ∧ plan.number = 3 ∧
    plan.result = some .ok ∧ plan.startBasis = planned.net.basis ∧ planned.incident? plan.incident = some incident ∧
    incident.state ≠ .closed ∧ incident.isoStatus = .none ∧ planned.register.records[0]? = some none ∧
    (∀ x ∈ plan.close, planned.recordHolding x.1 = none) ∧ plan.guardedCount = 0 ∧ planned.elements.queue.length ≤ 32 ∧
    plan.close ≠ [] ∧ (∀ x ∈ plan.close, x.2 = .manual) ∧ planned.element? 3 = some (elem 3 .opened) :=
  ⟨planned_admits, by decide⟩

def record : IsoRecord :=
  { incident := 4, override := false, executions := 1, firstPlan := 3, lastPlan := 3, createdAt := 995, zone := [3]
    entries := [⟨3, .manual, .closed, 0, some .crewClosed, 996⟩] }

def isolated : State :=
  { withIncidents [{ incident with isoStatus := .isolated, isoIndex := some 1 }]
      (withElements [elem 1 .opened, elem 2 .opened, elem 3 .closed] live) with
    register := { records := some record :: List.replicate 7 none } }

theorem witness_Restore :
    isolated.net.active = some img ∧ isolated.incident? 4 = some { incident with isoStatus := .isolated, isoIndex := some 1 } ∧
    isolated.recordOf 4 = some 0 ∧ isolated.record? 0 = some record ∧ record.entries ≠ [] ∧
    isolated.element? 3 = some (elem 3 .closed) ∧ isolated.elemTopo? 3 = some ⟨3, .valve, 2, 3, .manual, 0, 0, 900, false⟩ ∧
    Admits isolated 1 := ⟨by decide, by decide, by decide, by decide, by decide, by decide, by decide, admits_as_live _ rfl rfl⟩

theorem witness_Restore_refused :
    isolated.incident? 9 = none ∧ (withIncidents [incident] live).incident? 4 = some incident ∧
    incident.isoStatus ≠ .isolated ∧ incident.isoStatus ≠ .proven ∧ incident.isoStatus ≠ .partially := by decide

/-- A plan of the REMOTE valve 2, its EXECUTE on `live`, and the two RESTOREs of its record (R155, R156, R162, R163). -/
def plan2 : Plan := { plan with target := 2, zone := [2, 3], close := [(2, .remote)], crewCount := 0 }
def planned2 : State := withBuffer (.held plan2) (withIncidents [incident] live)
def record2 : IsoRecord := { record with zone := [2, 3], entries := [⟨2, .remote, .closed, 5, some (.order .done), 996⟩] }
def restorable (o : List Outage) : State :=
  { withSegs cutSegs o (withIncidents [{ incident with isoStatus := .isolated, isoIndex := some 1 }] closed2) with
    register := { records := some record2 :: List.replicate 7 none } }
def cleared : State := restorable [{ entry 2 with clearance := some 950 }, { entry 3 with clearance := some 950 }]
def uncleared : State := restorable [entry 2, entry 3]

theorem witness_Execute_remote :
    Admits planned2 1 ∧ planned2.planner.buffer = .held plan2 ∧ plan2.close = [(2, .remote)] ∧
    planned2.recordHolding 2 = none ∧ planned2.elements.queue = [] ∧
    planned2.elemTopo? 2 = some ⟨2, .valve, 1, 2, .remote, 1, 1, 60, false⟩ ∧
    planned2.element? 2 = some (elem 2 .opened) ∧ planned2.station? 1 = some st1 ∧ st1.state = .reporting ∧
    st1.localFlag = false := ⟨admits_as_live _ rfl rfl, by decide⟩
theorem witness_Restore_remote :
    Admits cleared 1 ∧ cleared.recordOf 4 = some 0 ∧ cleared.record? 0 = some record2 ∧
    cleared.element? 2 = some (elem 2 .closed) ∧ cleared.gaining 2 = [2, 3] ∧
    (∀ m ∈ cleared.gaining 2, ∀ y, cleared.outage? m = some y → y.clearance ≠ none) ∧
    uncleared.outage? 2 = some (entry 2) ∧ (entry 2).clearance = none ∧
    { cleared with elements := live.elements }.element? 2 = some (elem 2 .opened) ∧
    { cleared with elements := live.elements }.recordOf 4 = some 0 := by
  refine ⟨admits_as_live _ rfl rfl, by decide, by decide, by decide, by decide, ?_, by decide, by decide, by decide, by decide⟩
  have hg : cleared.gaining 2 = [2, 3] := by decide
  have h2 : cleared.outage? 2 = some { entry 2 with clearance := some 950 } := by decide
  have h3 : cleared.outage? 3 = some { entry 3 with clearance := some 950 } := by decide
  rw [hg]
  intro m hm y hy
  rcases List.mem_cons.mp hm with rfl | hm
  · rw [h2] at hy; cases hy; decide
  · rw [List.mem_singleton.mp hm, h3] at hy; cases hy; decide
/-- A record with its incident for the record passes; a held entry whose placement is refused, and one that waits (R160 to
R164). -/
def heldEntry : Entry := ⟨3, .manual, .heldForClearance, 0, none, 996⟩
theorem witness_RecordPasses :
    isolated.record? 0 = some record ∧ (isolated.incident? record.incident).isSome = true ∧
    { record with entries := [heldEntry] }.entry? 3 = some heldEntry ∧ isolated.gaining 3 = [3] ∧
    isolated.outage? 3 = none ∧ isolated.elements.queue.length < 32 ∧
    placeTest 3 .opening isolated = some .notRemote ∧ cut.gaining 2 = [2, 3] ∧ cut.outage? 2 = some (entry 2) := by decide

/-- A closing entry that waits for its order, at an open and at a CLOSED element, refused beside a host order, and one that
waits for none; a held entry whose opening is placed (R156, R163). -/
def record6 : IsoRecord := { record5 with entries := [⟨2, .remote, .toClose, 0, none, 996⟩] }
def placing (s : State) : State := { s with register := { records := some record6 :: List.replicate 7 none } }

theorem witness_Placements :
    (placing live).record? 0 = some record6 ∧ record6.entry? 2 = some ⟨2, .remote, .toClose, 0, none, 996⟩ ∧
    (placing live).elemTopo? 2 = some ⟨2, .valve, 1, 2, .remote, 1, 1, 60, false⟩ ∧
    (placing live).element? 2 = some (elem 2 .opened) ∧ (placing live).orderOf? 2 = none ∧
    (placing live).elements.queue = [] ∧ (placing live).station? 1 = some st1 ∧
    placeTest 2 .close (withQueue [order] (placing live)) = some .duplicate ∧
    (placing closed2).element? 2 = some (elem 2 .closed) ∧ (placing closed2).recordOf record6.incident = some 0 ∧
    (∀ y ∈ record6.entries, y.element = 2 → y = ⟨2, .remote, .toClose, 0, none, 996⟩) ∧
    (⟨2, .remote, .toClose, 5, none, 996⟩ : Entry).order ≠ 0 ∧ cleared.orderOf? 2 = none ∧ cleared.gaining 2 = [2, 3] ∧
    0 < (placing live).register.records.length := by decide
theorem witness_Placements_tests :
    img.element? 3 = some ⟨3, .valve, 2, 3, .manual, 0, 0, 900, false⟩ ∧ live.elemTopo? 2 = img.element? 2 ∧
    live.element? 2 = some (elem 2 .opened) ∧ (withQueue [opposite] live).orderOf? 2 = some opposite ∧
    opposite.action ≠ .close ∧ opposite.state = .queued := by decide

/-- The whole register in use, and a record at its bounds that a merge would exceed (R154, R157). -/
def noRecord : State := { planned with register := { records := List.replicate 8 (some { record with entries := [] }) } }
def wide : State :=
  { withBuffer (.held plan) (withIncidents [{ incident with isoStatus := .partially, isoIndex := some 1 }] live) with
    register := { records := some { record with zone := (List.range 24).map (· + 100), entries := [] } :: List.replicate 7 none } }

theorem witness_ExecuteTests_slots :
    executeTests ⟨3, false⟩ noRecord = .error .noSlot ∧ (∀ q ∈ noRecord.register.records, q ≠ none) ∧
    executeTests ⟨3, false⟩ wide = .error .elementLimit ∧ wide.recordOf 4 = some 0 ∧
    24 < ((List.range 24).map (· + 100) ++ plan.zone).length := ⟨rfl, by decide, rfl, by decide, by decide⟩

theorem witness_ExecuteTests :
    (∃ k r, executeTests ⟨3, false⟩ planned = .ok (plan, k, r)) ∧ executeTests ⟨4, false⟩ planned = .error .state ∧
    executeTests ⟨3, false⟩ { planned with net := { planned.net with basis := 6 } } = .error .stalePlan ∧
    (plan.close.map (·.1)) = [3] ∧ isolated.recordHolding 3 = some 0 ∧ isolated.record? 0 = some record :=
  ⟨⟨_, _, rfl⟩, rfl, rfl, by decide, by decide, by decide⟩

/-! ### Witnesses: reads and encoding -/

theorem witness_Reads :
    Admits isolated 1 ∧ isolated.net.active = some img ∧ isolated.point? 1 = some good ∧ isolated.station? 1 = some st1 ∧
    isolated.element? 2 = some (elem 2 .opened) ∧ isolated.seg? 2 = some (liveSegment 0 2) ∧
    isolated.record? (8 - 1) = none ∧ (8 : Nat) < 9 ∧ isolated.record? (1 - 1) = some record ∧ (isolated.incident? 4).isSome = true ∧
    isolated.incident? 9 = none ∧ (9 : Nat) ≠ 0 :=
  ⟨admits_as_live _ rfl rfl, by decide⟩

theorem witness_DecodeOfEncode :
    (Instr.orderAck 255 1 (.fits ⟨2, 3⟩)).wf = true ∧ (encode (.orderAck 255 1 (.fits ⟨2, 3⟩))).isSome = true ∧
    (Instr.orderAck 255 1 (.fits ⟨2, 3⟩)).request? = none ∧
    (Instr.pointTune 255 (.fits ⟨65535, -128, 255, 4294967295, 65535⟩)).wf = true ∧
    (Instr.pointTune 255 (.fits ⟨65535, -128, 255, 4294967295, 65535⟩)).request? ≠ none ∧
    (encode (.pointTune 255 (.fits ⟨65535, -128, 255, 4294967295, 65535⟩))).isSome = true := by decide

end Sys2Proof.Tests
end

/-! SUPPORT. The requests by their rules (R13, R14, R168): which rule a request frame runs once it is admitted, how that
rule's answer becomes the part's, and which of the rules ask for the active image and for a record of it. -/

namespace Sys2Proof.Machine

/-! ### The rule that a request runs -/

/-- The command is a request frame of this kind with this tag, and its body fits; once admitted it runs this rule. -/
inductive Asks : Instr → (kind tag : Nat) → (State → Served) → Prop where
  | status (t a) : Asks (.status t (.fits a)) 0x01 t (serveStatus a)
  | subscribe (t a) : Asks (.subscribe t (.fits a)) 0x02 t (serveSubscribe a)
  | setGlobals (t a) : Asks (.setGlobals t (.fits a)) 0x03 t (serveSetGlobals a)
  | restart (t a) : Asks (.restart t (.fits a)) 0x04 t (serveRestart a)
  | save (t a) : Asks (.save t (.fits a)) 0x05 t (serveSave a)
  | topoBegin (t a) : Asks (.topoBegin t (.fits a)) 0x10 t (serveTopoBegin a)
  | topoPart (t a) : Asks (.topoPart t (.fits a)) 0x11 t (serveTopoPart a)
  | topoCommit (t a) : Asks (.topoCommit t (.fits a)) 0x12 t (serveTopoCommit a)
  | topoAbandon (t a) : Asks (.topoAbandon t (.fits a)) 0x13 t (serveTopoAbandon a)
  | pointTune (t a) : Asks (.pointTune t (.fits a)) 0x20 t (servePointTune a)
  | pointLimits (t a) : Asks (.pointLimits t (.fits a)) 0x21 t (servePointLimits a)
  | pointRead (t n) : Asks (.pointRead t (.fits n)) 0x22 t (servePointRead n)
  | stationClear (t n) : Asks (.stationClear t (.fits n)) 0x23 t (serveStationClear n)
  | stationRead (t n) : Asks (.stationRead t (.fits n)) 0x24 t (serveStationRead n)
  | order (t a) : Asks (.order t (.fits a)) 0x30 t (serveOrder a)
  | orderCancel (t n) : Asks (.orderCancel t (.fits n)) 0x31 t (serveOrderCancel n)
  | crewReport (t a) : Asks (.crewReport t (.fits a)) 0x32 t (serveCrewReport a)
  | elementClearFault (t n) : Asks (.elementClearFault t (.fits n)) 0x33 t (serveElementClearFault n)
  | orderRead (t a) : Asks (.orderRead t (.fits a)) 0x34 t (serveOrderRead a)
  | elementRead (t n) : Asks (.elementRead t (.fits n)) 0x35 t (serveElementRead n)
  | outageClear (t n) : Asks (.outageClear t (.fits n)) 0x40 t (serveOutageClear n)
  | segmentRead (t n) : Asks (.segmentRead t (.fits n)) 0x41 t (serveSegmentRead n)
  | outageRead (t a) : Asks (.outageRead t (.fits a)) 0x42 t (serveOutageRead a)
  | call (t a) : Asks (.call t (.fits a)) 0x50 t (serveCall a)
  | dispatch (t i g) : Asks (.incidentSetDispatch t i g) 0x51 t (withIncident i setDispatch)
  | attend (t i g) : Asks (.incidentSetAttend t i g) 0x51 t (withIncident i setAttend)
  | safe (t i g) : Asks (.incidentSetSafe t i g) 0x51 t (withIncident i setSafe)
  | close (t i g) : Asks (.incidentSetClose t i g) 0x51 t (withIncident i setClose)
  | grade (t a) : Asks (.incidentSetGrade t (.fits a)) 0x51 t (serveGrade a)
  | incidentRead (t n) : Asks (.incidentRead t (.fits n)) 0x52 t (serveIncidentRead n)
  | plan (t n) : Asks (.plan t (.fits n)) 0x60 t (servePlan n)
  | planRead (t a) : Asks (.planRead t (.fits a)) 0x61 t (servePlanRead a)
  | planCancel (t n) : Asks (.planCancel t (.fits n)) 0x62 t (servePlanCancel n)
  | execute (t a) : Asks (.execute t (.fits a)) 0x63 t (serveExecute a)
  | restore (t n) : Asks (.restore t (.fits n)) 0x64 t (serveRestore n)
  | isolationRead (t n) : Asks (.isolationRead t (.fits n)) 0x65 t (serveIsolationRead n)

section

variable {c : Instr} {s : State} {kind tag : Nat} {f : State → Served}

/-- An admitted request is answered by its rule; what the rule does to the part is one event. -/
theorem Asks.exec_eq (h : Asks c kind tag f) (ha : Admits s tag) :
    exec c s = .next (answered kind tag (f (huntControl s)).2 (inEvent (fun u => (f u).1) (huntControl s))) := by
  cases h
  all_goals exact congrArg Host.Outcome.next (takeRequest_fits _ _ _ _ s ha)

/-- Every request frame whose body fits runs a rule. -/
theorem exists_asks (hr : c.request? = some (kind, tag)) (hf : c.fitsLayout = true) : ∃ f, Asks c kind tag f := by
  cases c
  all_goals cases hr
  case unknownKind => cases hf
  case incidentSetDispatch => exact ⟨_, .dispatch ..⟩
  case incidentSetAttend => exact ⟨_, .attend ..⟩
  case incidentSetSafe => exact ⟨_, .safe ..⟩
  case incidentSetClose => exact ⟨_, .close ..⟩
  all_goals
    next b =>
      cases b with
      | misfit _ => cases hf
      | fits _ => exact ⟨_, by constructor⟩

/-- A rule that refuses every part with this Network Model is answered REFUSED and changes nothing. -/
theorem Asks.exec_refused (h : Asks c kind tag f) (ha : Admits s tag) {code : Code}
    (hf : ∀ u : State, u.net = s.net → f u = refuse code u) :
    exec c s = .next (answered kind tag (.refused (.plain code)) (huntControl s)) := by
  have hr : f (huntControl s) = refuse code (huntControl s) := hf _ rfl
  have ho : f (openEvent (huntControl s)) = refuse code (openEvent (huntControl s)) := hf _ rfl
  have kept : inEvent (fun u => (f u).1) (huntControl s) = huntControl s :=
    inEvent_id (congrArg Prod.fst hr) (congrArg Prod.fst ho)
  rw [h.exec_eq ha, hr, kept, refuse]

/-- The rules of R13's table begin with its test. -/
theorem Asks.eq_needImage (h : Asks c kind tag f) (hn : c.needsImage = true) : ∃ g, f = needImage g := by
  cases h
  case status | subscribe | setGlobals | restart | topoBegin | topoPart | topoCommit | topoAbandon => cases hn
  all_goals exact ⟨_, rfl⟩

/-- What names a record by number is a request whose body fits. -/
theorem fitsLayout_of_named? {x : RecordKind × Nat} (hx : c.named? = some x) : c.fitsLayout = true := by
  unfold Instr.named? at hx
  split at hx
  all_goals cases hx
  all_goals rfl

end

/-! ### Records that the active image does not hold (R14) -/

section

variable {s : State} {img : Image} {n : Nat}

theorem Image.segment?_eq_none (h : ¬img.holds .segment n) : img.segment? n = none := by
  rwa [← img.segment?_isSome, Option.not_isSome_iff_eq_none] at h

theorem Image.element?_eq_none (h : ¬img.holds .element n) : img.element? n = none := by
  rwa [← img.element?_isSome, Option.not_isSome_iff_eq_none] at h

theorem Image.point?_eq_none (h : ¬img.holds .point n) : img.point? n = none := by
  rwa [← img.point?_isSome, Option.not_isSome_iff_eq_none] at h

theorem Image.station?_eq_none (h : ¬img.holds .station n) : img.station? n = none := by
  rwa [← img.station?_isSome, Option.not_isSome_iff_eq_none] at h

theorem withPoint_absent (serve : Point → PointRec → State → Served) (hi : s.net.active = some img)
    (h : ¬img.holds .point n) : withPoint n serve s = refuse .notFound s := by
  simp [withPoint, needImage, hi, Image.point?_eq_none h]

theorem withStation_absent (serve : StationTopo → Station → State → Served) (hi : s.net.active = some img)
    (h : ¬img.holds .station n) : withStation n serve s = refuse .notFound s := by
  simp [withStation, needImage, hi, Image.station?_eq_none h]

theorem withElement_absent (serve : Element → ElementRec → State → Served) (hi : s.net.active = some img)
    (h : ¬img.holds .element n) : withElement n serve s = refuse .notFound s := by
  simp [withElement, needImage, hi, Image.element?_eq_none h]

theorem withSegment_absent (serve : Segment → SegSupply → State → Served) (hi : s.net.active = some img)
    (h : ¬img.holds .segment n) : withSegment n serve s = refuse .notFound s := by
  simp [withSegment, needImage, hi, Image.segment?_eq_none h]

theorem serveStationRead_absent (hi : s.net.active = some img) (h : ¬img.holds .station n) :
    serveStationRead n s = refuse .notFound s := by
  simp [serveStationRead, needImage, hi, Image.station?_eq_none h]

theorem serveCall_absent {a : CallArgs} (hi : s.net.active = some img) (h : ¬img.holds .segment a.segment) :
    serveCall a s = refuse .notFound s := by
  simp [serveCall, needImage, hi, Image.segment?_eq_none h]

/-- The rules of the requests that name a record test that the active image holds it before anything else. -/
theorem Asks.refuses_absent {c : Instr} {kind tag : Nat} {f : State → Served} {x : RecordKind} (h : Asks c kind tag f)
    (hx : c.named? = some (x, n)) (hi : s.net.active = some img) (ha : ¬img.holds x n) :
    f s = refuse .notFound s := by
  cases h
  all_goals cases hx
  case call => exact serveCall_absent hi ha
  case outageClear | segmentRead => exact withSegment_absent _ hi ha
  case order | crewReport | elementClearFault | elementRead => exact withElement_absent _ hi ha
  case pointTune | pointLimits | pointRead => exact withPoint_absent _ hi ha
  case stationClear => exact withStation_absent _ hi ha
  case stationRead => exact serveStationRead_absent hi ha

end

/-! ### Which codes the shared tests of ORDER, EXECUTE and TOPO_COMMIT give -/

theorem placeTest_code {e : Nat} {a : Action} {s : State} {c : Code} (h : placeTest e a s = some c) :
    c ∈ [Code.notRemote, .duplicate, .inFlight, .full, .notFound] := by
  unfold placeTest at h
  split at h
  · split at h
    · cases h; decide
    · split at h
      · split at h
        · cases h; decide
        · split at h
          · cases h; decide
          · cases h
      · split at h
        · cases h
        · cases h; decide
  · cases h; decide

theorem executeRecord_code {p : Plan} {override : Bool} {i : Incident} {s : State} {c : Code}
    (h : executeRecord p override i s = .error c) : c ∈ [Code.noSlot, .state, .elementLimit] := by
  unfold executeRecord at h
  split at h
  · split at h
    · cases h
    · cases h; decide
  · split at h
    · cases h; decide
    · split at h
      · cases h; decide
      · dsimp only at h
        split at h
        · cases h; decide
        · cases h

theorem executeTests_code {a : ExecuteArgs} {s : State} {c : Code} (h : executeTests a s = .error c) :
    c ∈ [Code.state, .stalePlan, .noSlot, .elementLimit, .overlap, .guarded, .full] := by
  unfold executeTests at h
  split at h
  · cases h; decide
  · cases h; decide
  split at h
  · cases h; decide
  split at h
  · cases h; decide
  split at h
  · cases h; decide
  split at h
  · cases h; decide
  split at h
  · next hr =>
    cases h
    have codes : [Code.noSlot, .state, .elementLimit] ⊆
        [Code.state, .stalePlan, .noSlot, .elementLimit, .overlap, .guarded, .full] := by decide
    exact codes (executeRecord_code hr)
  split at h
  · cases h; decide
  split at h
  · cases h; decide
  split at h
  · cases h; decide
  · cases h

theorem validateFrom_ne_plain (all earlier l : List RawRecord) (c : Code) :
    validateFrom all earlier l ≠ some (.plain c) := by
  induction l generalizing earlier with
  | nil => exact nofun
  | cons r rest ih =>
    unfold validateFrom
    split
    · exact nofun
    · exact ih _

/-- The tests of R20 give the denials that carry details alone. -/
theorem commitFault_ne_plain (l : Loading) (check : Nat) (c : Code) : commitFault l check ≠ some (.plain c) := by
  have hcount : countFault l ≠ some (.plain c) := by simp [countFault]
  have hcheck : checkFault l check ≠ some (.plain c) := by simp [checkFault]
  have hvalid : validate l.records ≠ some (.plain c) := validateFrom_ne_plain _ _ _ c
  simp only [commitFault, ne_eq, Option.or_eq_some_iff]
  tauto

/-! ### Rules that do not answer NO_TOPOLOGY (R13) -/

/-- What a rule makes of its request is not R13's refusal. -/
def PastImageTest (x : Served) : Prop := x.2 ≠ .refused (.plain .noTopology)

section

variable {s : State} {n : Nat}

@[simp] theorem pastImageTest_refuse (c : Code) (u : State) : PastImageTest (refuse c u) ↔ c ≠ .noTopology := by
  simp [PastImageTest, refuse]

@[simp] theorem pastImageTest_refused (d : Denial) (u : State) :
    PastImageTest (u, .refused d) ↔ d ≠ .plain .noTopology := by
  simp [PastImageTest]

@[simp] theorem pastImageTest_done (r : Result) (u : State) : PastImageTest (u, .done r) := nofun

@[simp] theorem pastImageTest_accepted (r : Result) (u : State) : PastImageTest (u, .accepted r) := nofun

@[simp] theorem pastImageTest_ite (p : Prop) [Decidable p] (x y : Served) :
    PastImageTest (if p then x else y) ↔ (p → PastImageTest x) ∧ (¬p → PastImageTest y) := by
  split <;> simp [*]

/-! With an active image, what follows the test decides. -/

theorem needImage_past {serve : Image → State → Served} (h : s.net.active ≠ none)
    (hs : ∀ img, PastImageTest (serve img s)) : PastImageTest (needImage serve s) := by
  obtain ⟨img, hi⟩ := Option.ne_none_iff_exists'.mp h
  rw [needImage_some serve s img hi]
  exact hs img

theorem withPoint_past {serve : Point → PointRec → State → Served} (h : s.net.active ≠ none)
    (hs : ∀ t r, PastImageTest (serve t r s)) : PastImageTest (withPoint n serve s) :=
  needImage_past h fun img => by
    split
    · exact hs _ _
    · simp

theorem withStation_past {serve : StationTopo → Station → State → Served} (h : s.net.active ≠ none)
    (hs : ∀ x t, PastImageTest (serve x t s)) : PastImageTest (withStation n serve s) :=
  needImage_past h fun img => by
    split
    · exact hs _ _
    · simp

theorem withElement_past {serve : Element → ElementRec → State → Served} (h : s.net.active ≠ none)
    (hs : ∀ e r, PastImageTest (serve e r s)) : PastImageTest (withElement n serve s) :=
  needImage_past h fun img => by
    split
    · exact hs _ _
    · simp

theorem withSegment_past {serve : Segment → SegSupply → State → Served} (h : s.net.active ≠ none)
    (hs : ∀ t x, PastImageTest (serve t x s)) : PastImageTest (withSegment n serve s) :=
  needImage_past h fun img => by
    split
    · exact hs _ _
    · simp

theorem withIncident_past {serve : Incident → State → Served} (h : s.net.active ≠ none)
    (hs : ∀ i, PastImageTest (serve i s)) : PastImageTest (withIncident n serve s) :=
  needImage_past h fun img => by
    split
    · exact hs _
    · simp

/-! The requests that need no image. -/

theorem serveTopoPart_past (a : PartArgs) : PastImageTest (serveTopoPart a s) := by
  unfold serveTopoPart
  split
  · split <;> simp
  all_goals simp

theorem commitImage_past (img : Image) : PastImageTest (commitImage img s) := by
  unfold commitImage
  split <;> simp

theorem serveTopoCommit_past (check : Nat) : PastImageTest (serveTopoCommit check s) := by
  unfold serveTopoCommit
  split
  · simp
  split
  · simp
  · simp
  · exact commitImage_past _
  · next l _ =>
    split
    · next d hd =>
      rw [pastImageTest_refused]
      rintro rfl
      exact commitFault_ne_plain l check .noTopology hd
    · exact commitImage_past _

/-! The requests of R13's table. -/

theorem serveOrder_past (a : OrderArgs) (h : s.net.active ≠ none) : PastImageTest (serveOrder a s) :=
  withElement_past h fun _ _ => by
    split
    · simp
    · split
      · next c hc =>
        rw [pastImageTest_refuse]
        rintro rfl
        exact absurd (placeTest_code hc) (by decide)
      · simp

theorem serveOrderCancel_past (h : s.net.active ≠ none) : PastImageTest (serveOrderCancel n s) :=
  needImage_past h fun _ => by split <;> simp

theorem serveCrewReport_past (a : CrewArgs) (h : s.net.active ≠ none) : PastImageTest (serveCrewReport a s) :=
  withElement_past h fun _ _ => by split <;> simp

theorem serveOutageClear_past (h : s.net.active ≠ none) : PastImageTest (serveOutageClear n s) :=
  withSegment_past h fun _ _ => by
    split
    · simp
    · simp
    all_goals split <;> simp

theorem takeCall_past (img : Image) (segment : Nat) (cls : CallClass) (c : CallEntry) :
    PastImageTest (takeCall img segment cls c s) := by
  unfold takeCall
  dsimp only
  split
  · exact pastImageTest_done _ _
  · split
    · exact pastImageTest_done _ _
    · simp

theorem serveCall_past (a : CallArgs) (h : s.net.active ≠ none) : PastImageTest (serveCall a s) :=
  needImage_past h fun img => by
    split
    · simp
    · simp
    · simp [takeCall_past]

theorem setGrade_past (grade : Nat) (i : Incident) : PastImageTest (setGrade grade i s) := by
  simp [setGrade, changeIncident]

theorem serveIncidentRead_past (h : s.net.active ≠ none) : PastImageTest (serveIncidentRead n s) :=
  needImage_past h fun _ => by
    split
    · simp
    · split <;> simp

theorem servePlan_past (h : s.net.active ≠ none) : PastImageTest (servePlan n s) :=
  needImage_past h fun _ => by
    split
    · simp
    · split
      · simp
      · split <;> simp

theorem servePlanRead_past (a : PlanReadArgs) (h : s.net.active ≠ none) : PastImageTest (servePlanRead a s) :=
  needImage_past h fun _ => by
    split
    · simp
    · split <;> simp

theorem servePlanCancel_past (h : s.net.active ≠ none) : PastImageTest (servePlanCancel n s) :=
  needImage_past h fun _ => by split <;> simp

theorem serveExecute_past (a : ExecuteArgs) (h : s.net.active ≠ none) : PastImageTest (serveExecute a s) :=
  needImage_past h fun _ => by
    split
    · next c hc =>
      rw [pastImageTest_refuse]
      rintro rfl
      exact absurd (executeTests_code hc) (by decide)
    · simp

theorem serveRestore_past (h : s.net.active ≠ none) : PastImageTest (serveRestore n s) :=
  withIncident_past h fun _ => by
    split
    · split <;> simp
    · simp

theorem serveIsolationRead_past (h : s.net.active ≠ none) : PastImageTest (serveIsolationRead n s) :=
  needImage_past h fun _ => by
    split
    · simp
    · split
      · simp
      · split <;> simp

theorem serveStationRead_past (h : s.net.active ≠ none) : PastImageTest (serveStationRead n s) :=
  needImage_past h fun _ => by split <;> simp

/-- With an active image, or for a request outside R13's table, the rule does not answer NO_TOPOLOGY. -/
theorem Asks.past_image_test {c : Instr} {kind tag : Nat} {f : State → Served} (h : Asks c kind tag f)
    (hs : s.net.active ≠ none ∨ c.needsImage = false) : PastImageTest (f s) := by
  cases h
  case status | restart | topoAbandon => exact pastImageTest_done _ _
  case subscribe => simp [serveSubscribe]
  case setGlobals => simp [serveSetGlobals]
  case topoBegin => simp [serveTopoBegin]
  case topoPart => exact serveTopoPart_past _
  case topoCommit => exact serveTopoCommit_past _
  all_goals have hi : s.net.active ≠ none := hs.resolve_right nofun
  case save => exact needImage_past hi fun _ => by simp
  case pointTune | pointLimits => exact withPoint_past hi fun _ _ => by simp
  case pointRead => exact withPoint_past hi fun _ _ => pastImageTest_done _ _
  case stationClear => exact withStation_past hi fun _ _ => by simp
  case stationRead => exact serveStationRead_past hi
  case order => exact serveOrder_past _ hi
  case orderCancel => exact serveOrderCancel_past hi
  case crewReport => exact serveCrewReport_past _ hi
  case elementClearFault | elementRead => exact withElement_past hi fun _ _ => pastImageTest_done _ _
  case orderRead | outageRead => exact needImage_past hi fun _ => pastImageTest_done _ _
  case outageClear => exact serveOutageClear_past hi
  case segmentRead => exact withSegment_past hi fun _ _ => pastImageTest_done _ _
  case call => exact serveCall_past _ hi
  case dispatch => exact withIncident_past hi fun _ => by simp [setDispatch, changeIncident]
  case attend => exact withIncident_past hi fun _ => by simp [setAttend, changeIncident]
  case safe => exact withIncident_past hi fun _ => by simp [setSafe, changeIncident]
  case close => exact withIncident_past hi fun _ => by simp [setClose, changeIncident]
  case grade => exact withIncident_past hi fun _ => by simp [setGrade_past]
  case incidentRead => exact serveIncidentRead_past hi
  case plan => exact servePlan_past hi
  case planRead => exact servePlanRead_past _ hi
  case planCancel => exact servePlanCancel_past hi
  case execute => exact serveExecute_past _ hi
  case restore => exact serveRestore_past hi
  case isolationRead => exact serveIsolationRead_past hi

end

/-! ### The statements -/

/-- Without an active image a REPORT only leaves the receiver hunting (R13). -/
theorem exec_report_of_no_image {s : State} (tag address : Nat) (body : Body ReportArgs) (hp : s.power = .running)
    (h : s.net.active = none) : exec (.report tag address body) s = .next (huntField s) := by
  simp [exec, execReport, State.running, hp, takeReport, h]

/-- Settles O9: R13's table is the rules that begin with `needImage`; no other test of any rule gives NO_TOPOLOGY. -/
theorem requestsWithoutTopologyAreRefused : Obligations.RequestsWithoutTopologyAreRefused := by
  refine ⟨fun c s kind tag hr ha hf => ?_, fun _ tag address body => exec_report_of_no_image tag address body⟩
  obtain ⟨f, hask⟩ := exists_asks hr hf
  constructor
  · intro h hn
    obtain ⟨g, rfl⟩ := hask.eq_needImage hn
    exact hask.exec_refused ha fun u hu => needImage_none g u (hu ▸ h)
  · intro h
    exact ⟨_, _, hask.exec_eq ha, hask.past_image_test h⟩

/-- Settles O10: the rules of the requests that name a record look it up in the active image first. -/
theorem absentNumbersAreNotFound : Obligations.AbsentNumbersAreNotFound := by
  intro c s kind tag img x n hr ha hi hx hn
  obtain ⟨f, hask⟩ := exists_asks hr (fitsLayout_of_named? hx)
  exact hask.exec_refused ha fun u hu => hask.refuses_absent hx (hu ▸ hi) hn

/-- Settles O25: the rule of TOPO_ABANDON tests nothing and passes no notice. -/
theorem abandonEmptiesTheStandbyImage : Obligations.AbandonEmptiesTheStandbyImage := by
  intro s tag ha
  have emptied : exec (.topoAbandon tag (.fits ())) s = .next (answered 0x13 tag (.done .nothing)
      { huntControl s with net := { s.net with standby := .empty } }) := by
    have event : inEvent (fun u => (serveTopoAbandon () u).1) (huntControl s) = (huntControl s).setStandby .empty :=
      inEvent_notices (t := (huntControl s).setStandby .empty) (l := []) (fun _ => rfl) .nil
    rw [(Asks.topoAbandon tag ()).exec_eq ha, event]
    rfl
  refine ⟨emptied, fun he => ?_⟩
  rw [emptied, ← he]
  rfl

end Sys2Proof.Machine

/-! SUPPORT. What the part's events can do, said once (00_scope section 3): `Change` lists the small changes that the rules of
every block are made of, and `Changes` a run of them. Every operation of the model is shown here to be such a run, so that
an invariant of every moment only has to be kept by each small change. -/

namespace Sys2Proof.Machine

/-! ### The small changes -/

/-- What an event may do to the Control Port while its notices are gathered: nothing beyond the event's notices, the
subscription set and OVERRUN. -/
def Tells (c d : ControlPort) : Prop :=
  ∀ l, c.gathered = some l → ∃ l' sub o, d = { c with gathered := some l', subscribed := sub, overrun := o }

/-- The deadline of an incident stands in OPEN and DISPATCHED alone, within the attendance limit of its grade (R88, R96). -/
def DeadlineSound (i : Incident) : Prop :=
  ∀ d, i.deadline = some d → (i.state = .opened ∨ i.state = .dispatched) ∧ d ≤ i.baseTime + attendanceLimit i.grade

/-- A change of one incident: it keeps its number and its segment, and no CLOSED incident opens again (R88). -/
structure IncidentKept (old new : Incident) : Prop where
  number : new.number = old.number
  segment : new.segment = old.segment
  closed : old.state = .closed → new.state = .closed
  deadline : DeadlineSound old → DeadlineSound new

/-- A change of one order that leaves its number, its element, its tag and whether it is in flight. -/
structure OrderKept (old new : Order) : Prop where
  number : new.number = old.number
  element : new.element = old.element
  tag : new.tag = old.tag
  flight : new.inFlight = old.inFlight

/-- A point record with p and f in its range and its weight in 1..16 (R45, R52, R55). -/
structure PointRec.Sound (r : PointRec) : Prop where
  range : r.pl ≤ r.ph
  weight : 1 ≤ r.weight ∧ r.weight ≤ 16
  p : ∀ x, r.p = some x → (r.pl : Int) ≤ x ∧ x ≤ r.ph
  f : ∀ x, r.f = some x → (r.pl : Int) ≤ x ∧ x ≤ r.ph

/-- An image that the standby image may become: it is the standby image already, or made of validated records (R8, R20). -/
def StandbyImage (s : State) (img : Image) : Prop :=
  s.net.standby = .complete img ∨ s.net.standby = .pending img ∨ ∃ n l, img = Image.ofRaw n l ∧ validate l = none

/-- A state that a placement leaves behind the tests of R117: the order is not at its target and joins the queue (R118). -/
structure Placed (s : State) (action : Action) (o : Order) : Prop where
  test : placeTest o.element action s = none
  away : ((s.element? o.element).any fun r => r.state = action.target) = false
  number : o.number = placeNumber o.element action s
  state : o.state = .queued

/-- One small change inside an event. -/
inductive Change (s : State) : State → Prop where
  | control (c) (h : Tells s.control c) : Change s { s with control := c }
  | field (x) : Change s { s with field := x }
  | planner (x) : Change s { s with planner := x }
  | register (x) : Change s { s with register := x }
  | basis (b) : Change s { s with net := { s.net with basis := b } }
  | standby (x) (h : ∀ img, x = .complete img ∨ x = .pending img → StandbyImage s img) : Change s (s.setStandby x)
  | activation (img) (hi : s.net.standby = .complete img ∨ s.net.standby = .pending img) (hq : s.elements.queue = [])
      (hc : conflictTest img s = none) : Change s (recomputeTables none 0 (carryOver img s))
  | record (n g) (hn : ∀ r : ElementRec, r.number = n → (g r).number = n)
      (hp : ∀ r, s.element? n = some r → (g r).state.passes = r.state.passes) : Change s (s.updElement n g)
  | moved (new origin) : Change s (recomputeTables origin new.number (s.updElement new.number fun _ => new))
  | point (old new) (ho : s.point? new.number = some old) (h : old.Sound → new.Sound) :
      Change s (s.updPoint new.number fun _ => new)
  | leave (n) : Change s (leaveQueue n s)
  | nextOrder (n) (h : 1 ≤ n ∧ n ≤ 65535) : Change s { s with elements := { s.elements with nextOrder := n } }
  | orders (g) (h : ∀ o, OrderKept o (g o)) :
      Change s { s with elements := { s.elements with queue := s.elements.queue.map g } }
  | acknowledged (o) (ho : o ∈ s.elements.queue) (hf : o.inFlight = true) : Change s (acknowledge o s)
  | sent (o) (ho : o ∈ s.elements.queue) (hq : o.state = .queued) (he : eligible s o = true) : Change s
      { s with elements :=
          { s.elements with
            queue := s.elements.queue.map fun r => if r.number = o.number then
                { r with tag := s.elements.nextTag, state := .sent, unavailableAt := none, sendsLeft := 2
                         ackAt := some (s.now + 3) }
              else r
            nextTag := after 255 s.elements.nextTag } }
  | placed (action o) (h : Placed s action o) : Change s
      { s with elements := { s.elements with
          queue := (afterReplacement o.element action s).elements.queue ++ [o], nextOrder := after 65535 o.number } }
  | globals (g) : Change s { s with supply := { s.supply with globals := g } }
  | segments (g) (h : ∀ x : SegSupply, (g x).segment = x.segment ∧ (g x).state = x.state) :
      Change s { s with supply := { s.supply with segs := s.supply.segs.map g } }
  | emptied (n x g) (hx : s.seg? n = some x) (hc : x.state = .cut)
      (hg : ∀ y, (g y).segment = y.segment ∧ (g y).state = .depressurized) : Change s (s.updSeg n g)
  | refilled (n x g) (hx : s.seg? n = some x) (hc : x.state = .recharging)
      (hg : ∀ y, (g y).segment = y.segment ∧ (g y).state = .live) : Change s
      { s with supply := { (s.updSeg n g).supply with outages := s.supply.outages.filter fun r => r.segment ≠ n } }
  | outage (n g) (h : ∀ o : Outage, o.segment = n → (g o).segment = n) : Change s (s.updOutage n g)
  | full (b) : Change s { s with incidents := { s.incidents with full := b } }
  | incident (old new) (ho : old ∈ s.incidentList) (h : IncidentKept old new) :
      Change s (s.updIncident old.number fun _ => new)
  | incidents (n g) (h : ∀ i, IncidentKept i (g i)) : Change s (s.updIncident n g)
  | created (make t i segment) (hc : createIncident make s = some (t, i))
      (hm : ∀ n, (make n).number = n ∧ (make n).segment = segment ∧ DeadlineSound (make n))
      (hs : ∀ j ∈ s.incidentList, j.state ≠ .closed → j.segment ≠ segment) : Change s t
  | store (x) (hs : ∀ c k, x.stored = .written c k →
        s.store.stored = .written c k ∨ ∃ y, s.store.save = some y ∧ c = y.contents)
      (hc : ∀ c, x.save = some c → s.store.save = some c ∨ ∃ img, c.contents = saveContents img s) :
      Change s { s with store := x }

/-- A run of small changes. -/
def Changes : State → State → Prop := Relation.ReflTransGen Change

namespace Changes

variable {s t u : State}

theorem refl (s : State) : Changes s s := Relation.ReflTransGen.refl

theorem trans (h : Changes s t) (h' : Changes t u) : Changes s u := Relation.ReflTransGen.trans h h'

theorem one (h : Change s t) : Changes s t := Relation.ReflTransGen.single h

theorem step (h : Changes s t) (h' : Change t u) : Changes s u := Relation.ReflTransGen.tail h h'

/-- A property that every small change keeps is kept by a run of them. -/
theorem keeps {P : State → Prop} (hP : ∀ s t, Change s t → P s → P t) (h : Changes s t) (hs : P s) : P t := by
  induction h with
  | refl => exact hs
  | tail _ hc ih => exact hP _ _ hc ih

end Changes

/-! ### Notices -/

theorem Tells.refl (c : ControlPort) : Tells c c := fun l h => ⟨l, c.subscribed, c.overrun, by rw [← h]⟩

theorem Tells.trans {c d e : ControlPort} (h : Tells c d) (h' : Tells d e) : Tells c e := by
  intro l hl
  obtain ⟨l', sub, o, rfl⟩ := h l hl
  obtain ⟨m, sub', o', rfl⟩ := h' l' rfl
  exact ⟨m, sub', o', rfl⟩

theorem tells_passNotice (b : NoticeBody) (s : State) : Tells s.control (passNotice b s).control := by
  intro l hl
  by_cases hs : b.cls ∈ s.control.subscribed
  · rw [passNotice_gathered hs hl]
    exact ⟨_, _, _, rfl⟩
  · rw [passNotice_dropped hs]
    exact Tells.refl _ l hl

theorem tells_passNotices (l : List NoticeBody) (s : State) : Tells s.control (passNotices l s).control := by
  induction l generalizing s with
  | nil => exact Tells.refl _
  | cons b l ih => exact (tells_passNotice b s).trans (ih _)

/-- A state that differs in what it tells alone. -/
theorem changes_control {s t : State} (h : t = { s with control := t.control }) (hc : Tells s.control t.control) :
    Changes s t := by
  rw [h]
  exact .one (.control _ hc)

theorem passNotice_changes (b : NoticeBody) (s : State) : Changes s (passNotice b s) :=
  changes_control (passNotice_frame b s) (tells_passNotice b s)

theorem passNotices_changes (l : List NoticeBody) (s : State) : Changes s (passNotices l s) :=
  changes_control (passNotices_frame l s) (tells_passNotices l s)

theorem moveNotice_changes (s : State) (m : Nat × SupplyState × SupplyState) : Changes s (moveNotice s m) := by
  unfold moveNotice
  split
  · exact passNotice_changes _ _
  · exact .refl s

/-! ### Points -/

/-- A point record replaced by one in its range, where the record it replaces was in its range. -/
theorem setPoint_changes {new : PointRec} {s : State}
    (h : ∀ old, s.point? new.number = some old → old.Sound → new.Sound) : Changes s (setPoint new s) := by
  unfold setPoint
  split
  · exact .refl s
  · next old ho => exact .trans (.one (.point old new ho (h old ho))) (passNotices_changes _ _)

@[simp] theorem staleOf_number (r : PointRec) : (staleOf r).number = r.number := by
  unfold staleOf
  split <;> rfl

theorem staleOf_sound {r : PointRec} (h : r.Sound) : (staleOf r).Sound := by
  unfold staleOf
  split
  · exact ⟨h.range, h.weight, h.p, h.f⟩
  · exact ⟨h.range, h.weight, h.p, h.f⟩
  · exact ⟨h.range, h.weight, h.p, h.f⟩
  all_goals exact h

theorem State.point?_number {s : State} {n : Nat} {r : PointRec} (h : s.point? n = some r) : r.number = n :=
  (key_of_find? PointRec.number n s.points r h).1

/-- A record replaced by a sound one made of it under its number. -/
theorem setPoint_changes_of {new old : PointRec} {s : State} {n : Nat} (ho : s.point? n = some old)
    (hn : new.number = old.number) (h : old.Sound → new.Sound) : Changes s (setPoint new s) := by
  refine setPoint_changes fun x hx => ?_
  rw [hn, State.point?_number ho, ho] at hx
  cases hx
  exact h

theorem stalePoints_changes (a : Nat) (s : State) : Changes s (stalePoints a s) := by
  refine foldl_keeps (P := Changes s) _ _ (fun u t _ hu => ?_) s (.refl s)
  split
  · next r hr => exact hu.trans (setPoint_changes_of hr (staleOf_number r) staleOf_sound)
  · exact hu

/-! ### Incidents -/

theorem DeadlineSound.none_of_not_awaits {i : Incident} (h : DeadlineSound i) (hw : ¬i.state.awaits = true) :
    i.deadline = none := by
  cases hd : i.deadline with
  | none => rfl
  | some d =>
    obtain ⟨hs, -⟩ := h d hd
    exact absurd (by simpa [IncidentState.awaits] using hs) hw

/-- The recompute of a deadline leaves it within its limit (R96). -/
theorem aimDeadline_sound (now : Nat) {i : Incident} (h : ¬i.state.awaits = true → i.deadline = none) :
    DeadlineSound (aimDeadline now i) := by
  unfold aimDeadline
  split
  · next ha =>
    intro d hd
    refine ⟨by simpa [IncidentState.awaits] using ha, ?_⟩
    cases hb : i.deadline with
    | none => simp_all
    | some b => simp_all; omega
  · next ha =>
    intro d hd
    rw [h ha] at hd
    cases hd

@[simp] theorem aimDeadline_number (now : Nat) (i : Incident) : (aimDeadline now i).number = i.number := by
  unfold aimDeadline
  split <;> rfl

@[simp] theorem aimDeadline_segment (now : Nat) (i : Incident) : (aimDeadline now i).segment = i.segment := by
  unfold aimDeadline
  split <;> rfl

@[simp] theorem aimDeadline_state (now : Nat) (i : Incident) : (aimDeadline now i).state = i.state := by
  unfold aimDeadline
  split <;> rfl

theorem IncidentKept.trans {i j k : Incident} (h : IncidentKept i j) (h' : IncidentKept j k) : IncidentKept i k :=
  ⟨h'.number.trans h.number, h'.segment.trans h.segment, h'.closed ∘ h.closed, h'.deadline ∘ h.deadline⟩

/-- A change that leaves the state, the number, the segment and the deadline, and aims the deadline anew. -/
theorem incidentKept_aimed (now : Nat) {i j : Incident} (hn : j.number = i.number) (hg : j.segment = i.segment)
    (hs : j.state = i.state) (hd : j.deadline = i.deadline) : IncidentKept i (aimDeadline now j) where
  number := by simp [hn]
  segment := by simp [hg]
  closed := by simp [hs]
  deadline h := aimDeadline_sound now fun ha => hd.trans (h.none_of_not_awaits (hs ▸ ha))

/-- A change that leaves everything the deadline is judged by. -/
theorem incidentKept_of_eq {i j : Incident} (hn : j.number = i.number) (hg : j.segment = i.segment)
    (hs : j.state = i.state) (hd : j.deadline = i.deadline) (hb : j.baseTime = i.baseTime) (hr : j.grade = i.grade) :
    IncidentKept i j where
  number := hn
  segment := hg
  closed := by simp [hs]
  deadline h := by
    unfold DeadlineSound
    rw [hs, hd, hb, hr]
    exact h

theorem IncidentKept.refl (i : Incident) : IncidentKept i i := incidentKept_of_eq rfl rfl rfl rfl rfl rfl

theorem clusterStep_same (now : Nat) (i : Incident) : (clusterStep now i).number = i.number ∧
    (clusterStep now i).segment = i.segment ∧ (clusterStep now i).state = i.state ∧
    (clusterStep now i).deadline = i.deadline := by
  unfold clusterStep
  split <;> exact ⟨rfl, rfl, rfl, rfl⟩

theorem joinCall_kept (now grade : Nat) (cause : Causes) (c : CallEntry) (i : Incident) :
    IncidentKept i (joinCall now grade cause c i) := by
  obtain ⟨hn, hg, hs, hd⟩ := clusterStep_same now
    { i with
      causes := i.causes.union cause
      grade := min i.grade grade
      calls := appendCall c i.calls
      totalCalls := min (i.totalCalls + 1) 65535
      baseTime := min i.baseTime c.time }
  exact incidentKept_aimed now hn hg hs hd

theorem joinAuto_kept (now : Nat) (e : AutoEvent) (i : Incident) : IncidentKept i (joinAuto now e i) :=
  incidentKept_aimed now rfl rfl rfl rfl

theorem raiseByFalling_kept (now segment : Nat) (i : Incident) : IncidentKept i (raiseByFalling now segment i) := by
  unfold raiseByFalling
  split
  · exact incidentKept_aimed now rfl rfl rfl rfl
  · exact .refl i

theorem setIncident_changes {old new : Incident} {joined : Bool} {source : Option JoinSource} {call : Option CallEntry}
    {s : State} (ho : old ∈ s.incidentList) (h : IncidentKept old new) :
    Changes s (setIncident old new joined source call s) :=
  .trans (.one (.incident old new ho h)) (passNotices_changes _ _)

theorem State.incident?_mem {s : State} {n : Nat} {i : Incident} (h : s.incident? n = some i) :
    i ∈ s.incidentList ∧ i.number = n := by
  obtain ⟨hn, hm⟩ := key_of_find? Incident.number n s.incidentList i h
  exact ⟨hm, hn⟩

theorem State.incident?_isSome_of_mem {s : State} {i : Incident} (h : i ∈ s.incidentList) :
    (s.incident? i.number).isSome = true := by
  simp only [State.incident?, List.find?_isSome]
  exact ⟨i, h, by simp⟩

/-- No incident is found exactly where no non-CLOSED incident meets the condition. -/
theorem lowestIncident_eq_none {s : State} {c : Nat → Bool} :
    lowestIncident s c = none ↔ ∀ i ∈ s.incidentList, i.state ≠ .closed → c i.segment = false := by
  unfold lowestIncident
  constructor
  · intro h i hi hs
    by_contra hc
    cases hl : lowest ((s.incidentList.filter fun i => i.state ≠ .closed && c i.segment).map (·.number)) with
    | none =>
      rw [lowest_eq_none_iff, List.map_eq_nil_iff, List.filter_eq_nil_iff] at hl
      simp_all
    | some n =>
      obtain ⟨hn, -⟩ := (lowest_eq_some_iff _ _).mp hl
      obtain ⟨j, hj, rfl⟩ := List.mem_map.mp hn
      have hsome := State.incident?_isSome_of_mem (List.mem_of_mem_filter hj)
      rw [hl, Option.bind_some] at h
      simp [h] at hsome
  · intro h
    have : (s.incidentList.filter fun i => i.state ≠ .closed && c i.segment) = [] := by
      rw [List.filter_eq_nil_iff]
      intro i hi
      by_cases hs : i.state = .closed
      · simp [hs]
      · simp [h i hi hs]
    rw [this]
    rfl

/-- What is found is a non-CLOSED incident that meets the condition, of the lowest number among these. -/
theorem lowestIncident_mem {s : State} {c : Nat → Bool} {i : Incident} (h : lowestIncident s c = some i) :
    i ∈ s.incidentList ∧
      ∃ j ∈ s.incidentList, j.state ≠ .closed ∧ c j.segment = true ∧ i.number = j.number ∧
        ∀ k ∈ s.incidentList, k.state ≠ .closed → c k.segment = true → j.number ≤ k.number := by
  unfold lowestIncident at h
  obtain ⟨n, hn, hi⟩ := Option.bind_eq_some_iff.mp h
  obtain ⟨hm, hle⟩ := (lowest_eq_some_iff _ _).mp hn
  obtain ⟨j, hj, rfl⟩ := List.mem_map.mp hm
  obtain ⟨hil, hin⟩ := State.incident?_mem hi
  obtain ⟨hjl, hjc⟩ := List.mem_filter.mp hj
  simp only [ne_eq, decide_not, Bool.and_eq_true, Bool.not_eq_true', decide_eq_false_iff_not] at hjc
  refine ⟨hil, j, hjl, hjc.1, hjc.2, hin, fun k hk hs hc => hle _ (List.mem_map_of_mem (List.mem_filter.mpr ⟨hk, ?_⟩))⟩
  simp [hs, hc]

theorem correlate_mem {img : Image} {segment : Nat} {s : State} {i : Incident} (h : correlate img segment s = some i) :
    i ∈ s.incidentList := by
  unfold correlate at h
  split at h
  · next hl =>
    cases h
    exact (lowestIncident_mem hl).1
  · exact (lowestIncident_mem h).1

/-- Where nothing correlates no non-CLOSED incident stands on the segment (R92). -/
theorem correlate_none_segment {img : Image} {segment : Nat} {s : State} (h : correlate img segment s = none) :
    ∀ i ∈ s.incidentList, i.state ≠ .closed → i.segment ≠ segment := by
  unfold correlate at h
  split at h
  · cases h
  · next hl =>
    intro i hi hs
    simpa using lowestIncident_eq_none.mp hl i hi hs

/-- A new incident with its deadline aimed (R93, R98, R100). -/
theorem aimDeadline_opened (now segment : Nat) {j : Incident} {n : Nat} (hn : j.number = n) (hg : j.segment = segment)
    (hs : j.state = .opened) :
    (aimDeadline now j).number = n ∧ (aimDeadline now j).segment = segment ∧ DeadlineSound (aimDeadline now j) :=
  ⟨by simp [hn], by simp [hg], aimDeadline_sound now fun ha => absurd (by simp [hs, IncidentState.awaits]) ha⟩

theorem autoEvent_changes {e : AutoEvent} {also : Incident → Incident} (h : ∀ i, IncidentKept i (also i)) (s : State) :
    Changes s (autoEvent e also s) := by
  unfold autoEvent
  split
  · exact .refl s
  · split
    · next i hi => exact setIncident_changes (correlate_mem hi) ((joinAuto_kept _ _ _).trans (h _))
    · next hn =>
      split
      · next t i ht =>
        exact .trans (.one (.created _ t i e.segment ht
          (fun n => aimDeadline_opened s.now e.segment rfl rfl rfl) (correlate_none_segment hn)))
          (passNotices_changes _ _)
      · exact .trans (.one (.full true)) (passNotice_changes _ _)

theorem fallingEvent_changes (point segment : Nat) (s : State) : Changes s (fallingEvent point segment s) := by
  unfold fallingEvent
  split
  · exact .refl s
  · next i hi => exact setIncident_changes (List.mem_of_find?_eq_some hi) (raiseByFalling_kept _ _ _)

theorem sampleIncidents_changes (point segment : Nat) (old new : Band) (fallingSet expected : Bool) (s : State) :
    Changes s (sampleIncidents point segment old new fallingSet expected s) := by
  unfold sampleIncidents
  split
  · exact .refl s
  split
  · refine autoEvent_changes (fun i => ?_) s
    split
    · exact raiseByFalling_kept _ _ _
    · exact .refl i
  split
  · exact fallingEvent_changes _ _ s
  · exact .refl s

theorem supplyLoss_changes (l : List Nat) (element : Nat) (s : State) : Changes s (supplyLoss l element s) := by
  cases l with
  | nil => exact .refl s
  | cons n l => exact autoEvent_changes IncidentKept.refl s

/-! ### Supply -/

/-- The notices, the supply-loss event and the hand-ons of a recompute follow its tables. -/
theorem recompute_changes {origin : Option Nat} {element : Nat} {hook : State → State} (hh : ∀ s, Changes s (hook s))
    {s u : State} (ht : Changes s (recomputeTables origin element u)) :
    Changes s (recompute origin element hook u) :=
  recompute_keeps (P := Changes s) origin element hook (fun v h => h.trans (hh v))
    (fun v m h => h.trans (moveNotice_changes v m)) (fun v l h => h.trans (supplyLoss_changes l element v)) u ht

theorem becomeDepressurized_changes {hook : State → State} (hh : ∀ s, Changes s (hook s)) {n : Nat} {s : State}
    {x : SegSupply} (hx : s.seg? n = some x) (hc : x.state = .cut) : Changes s (becomeDepressurized hook n s) := by
  unfold becomeDepressurized
  have h : Changes s (s.updSeg n fun x => { x with state := .depressurized, stateTime := s.now, ventAt := none }) :=
    .one (.emptied n x _ hx hc fun _ => ⟨rfl, rfl⟩)
  dsimp only
  split
  · exact (h.trans (passNotice_changes _ _)).trans (hh _)
  · exact h.trans (hh _)

/-- A notice passed beside a change of the Supply Tracker. -/
theorem Changes.told_supply {s u : State} {x : SupplyTracker} (h : Changes s { u with supply := x }) (b : NoticeBody) :
    Changes s { passNotice b u with supply := x } := by
  rw [passNotice_frame]
  exact h.step (.control _ (tells_passNotice b u))

theorem becomeLive_changes {hook : State → State} (hh : ∀ s, Changes s (hook s)) {n : Nat} {s : State}
    {x : SegSupply} (hx : s.seg? n = some x) (hc : x.state = .recharging) : Changes s (becomeLive hook n s) := by
  unfold becomeLive
  have h := Change.refilled (s := s) n x (fun x =>
    { x with state := .live, stateTime := s.now, cutTime := none, reconnectedAt := none, sampled := []
             rechargeAt := none }) hx hc fun _ => ⟨rfl, rfl⟩
  dsimp only
  split
  · refine Changes.trans ?_ (hh _)
    simp only [outageNotice, passNotice_supply]
    exact Changes.told_supply (u := s.updSeg n _) (.one h) _
  · next hn =>
    refine Changes.trans ?_ (hh _)
    have : s.supply.outages.filter (fun r => r.segment ≠ n) = s.supply.outages := by
      rw [List.filter_eq_self]
      intro o ho
      simpa using List.find?_eq_none.mp hn o ho
    rw [this] at h
    exact .one h

theorem judgeSegment_changes {hook : State → State} (hh : ∀ s, Changes s (hook s)) (n : Nat) (s : State) :
    Changes s (judgeSegment hook n s) := by
  unfold judgeSegment
  split
  · exact .refl s
  · next x hx =>
    split
    · next hc =>
      split
      · exact becomeDepressurized_changes hh hx hc
      · exact .refl s
    · next hc =>
      split
      · exact becomeLive_changes hh hx hc
      · exact .refl s
    all_goals exact .refl s

/-- A segment record changed in anything but its segment and its supply state. -/
theorem updSeg_changes {n : Nat} {g : SegSupply → SegSupply}
    (h : ∀ x, (g x).segment = x.segment ∧ (g x).state = x.state) (s : State) : Changes s (s.updSeg n g) := by
  refine .one (.segments _ fun x => ?_)
  split
  · exact h x
  · exact ⟨rfl, rfl⟩

theorem sampleEvent_changes {hook : State → State} (hh : ∀ s, Changes s (hook s)) (p n : Nat) (s : State) :
    Changes s (sampleEvent hook p n s) := by
  unfold sampleEvent
  split
  · exact .refl s
  · split
    · refine .trans (updSeg_changes ?_ s) (judgeSegment_changes hh n _)
      exact fun _ => ⟨rfl, rfl⟩
    · refine .trans (updSeg_changes ?_ s) (judgeSegment_changes hh n _)
      exact fun _ => ⟨rfl, rfl⟩
    all_goals exact .refl s

/-! ### Orders -/

/-- What an order's end or placement sets off is made of small changes. -/
structure Hooks.Lawful (h : Hooks) : Prop where
  dispatch : ∀ s, Changes s (h.dispatch s)
  pass : ∀ s, Changes s (h.pass s)
  activate : ∀ s, Changes s (h.activate s)

theorem handOutcome_changes (o : Order) (x : OrderOutcome) (s : State) : Changes s (handOutcome o x s) := by
  rw [handOutcome_frame]
  exact .one (.register _)

theorem orderNotice_changes (o : Order) (x : OrderOutcome) (s : State) : Changes s (orderNotice o x s) :=
  passNotice_changes _ s

theorem finishOrder_changes (o : Order) (x : OrderOutcome) (s : State) : Changes s (finishOrder o x s) :=
  .trans (.trans (.one (.leave o.number)) (orderNotice_changes o x _)) (handOutcome_changes o x _)

theorem endOrder_changes {h : Hooks} (hh : h.Lawful) (o : Order) (x : OrderOutcome) (s : State) :
    Changes s (endOrder h o x s) := by
  have ended : Changes s (if o.inFlight then h.dispatch (finishOrder o x s) else finishOrder o x s) := by
    split
    · exact .trans (finishOrder_changes o x s) (hh.dispatch _)
    · exact finishOrder_changes o x s
  exact .trans (.trans ended (hh.pass _)) (hh.activate _)

theorem syncUnavailable_changes (a : Nat) (s : State) : Changes s (syncUnavailable a s) := by
  refine .one (.orders _ fun o => ?_)
  split
  · split <;> exact ⟨rfl, rfl, rfl, rfl⟩
  · exact ⟨rfl, rfl, rfl, rfl⟩

theorem handFrame_changes (o : Order) (tag : Nat) (s : State) : Changes s (handFrame o tag s) := by
  rw [handFrame_frame]
  exact .one (.field _)

theorem sendOrder_changes {o : Order} {s : State} (ho : o ∈ s.elements.queue) (hq : o.state = .queued)
    (he : eligible s o = true) : Changes s (sendOrder o s) :=
  .trans (.one (.sent o ho hq he)) (handFrame_changes o _ _)

theorem resendOrder_changes (o : Order) (s : State) : Changes s (resendOrder o s) := by
  refine Changes.trans (.one (.orders _ fun r => ?_)) (handFrame_changes o _ _)
  split <;> exact ⟨rfl, rfl, rfl, rfl⟩

theorem dispatchPass_changes {depart : State → State} (hd : ∀ s, Changes s (depart s)) (s : State) :
    Changes s (dispatchPass depart s) :=
  dispatchPass_keeps (P := Changes s) depart (fun u h => h.trans (hd u))
    (fun _ _ _ h _ _ _ => h.trans (finishOrder_changes _ _ _))
    (fun _ _ h ho hq he _ => h.trans (sendOrder_changes ho hq he)) s (.refl s)

/-- What a placer does with an order's number: it writes the register alone. -/
def MarksRegister (mark : Nat → State → State) : Prop := ∀ n s, ∃ r, mark n s = { s with register := r }

theorem finishOrder_elements (o : Order) (x : OrderOutcome) (s : State) :
    (finishOrder o x s).elements = (leaveQueue o.number s).elements := by
  rw [finishOrder_frame]

/-- The end of a replaced order reaches the queue, the register and the Control Port alone. -/
theorem afterReplacement_frame (e : Nat) (a : Action) (s : State) : ∃ r c, Tells s.control c ∧
    afterReplacement e a s =
      { s with
        elements := { s.elements with queue := (afterReplacement e a s).elements.queue }, register := r, control := c } := by
  unfold afterReplacement
  split
  · next o _ =>
    refine ⟨(finishOrder o .cancelled s).register, (finishOrder o .cancelled s).control, ?_, ?_⟩
    · unfold finishOrder
      rw [handOutcome_frame]
      exact tells_passNotice _ (leaveQueue o.number s)
    · rw [finishOrder_elements]
      exact finishOrder_frame o .cancelled s
  · exact ⟨_, _, Tells.refl _, rfl⟩

theorem afterReplacement_changes (e : Nat) (a : Action) (s : State) : Changes s (afterReplacement e a s) := by
  unfold afterReplacement
  split
  · exact finishOrder_changes _ _ s
  · exact .refl s

theorem place_changes {h : Hooks} (hh : h.Lawful) {mark : Nat → State → State} (hm : MarksRegister mark)
    {e : Nat} {a : Action} {s : State} (ht : placeTest e a s = none) (origin : Origin) (override : Bool) :
    Changes s (place h mark e a origin override s) := by
  unfold place
  dsimp only
  obtain ⟨r, hr⟩ := hm (placeNumber e a s)
    { afterReplacement e a s with
      elements := { (afterReplacement e a s).elements with nextOrder := after 65535 (placeNumber e a s) } }
  rw [hr]
  split
  · have numbered : Changes s
        { afterReplacement e a s with
          elements := { (afterReplacement e a s).elements with nextOrder := after 65535 (placeNumber e a s) }
          register := r } :=
      ((afterReplacement_changes e a s).step (.nextOrder _ (after_range _ _ (by decide)))).step (.register r)
    have told := (numbered.trans (orderNotice_changes (makeOrder (afterReplacement e a s) (placeNumber e a s) e a origin
      override) .already _)).trans (handOutcome_changes (makeOrder (afterReplacement e a s) (placeNumber e a s) e a origin
      override) .already _)
    split
    · exact (told.trans (hh.pass _)).trans (hh.activate _)
    · exact told
  · next away =>
    refine Changes.trans ?_ (hh.dispatch _)
    obtain ⟨x, hx⟩ := joinQueue_frame (makeOrder (afterReplacement e a s) (placeNumber e a s) e a origin override)
      { afterReplacement e a s with
        elements := { (afterReplacement e a s).elements with nextOrder := after 65535 (placeNumber e a s) }
        register := r }
    obtain ⟨r', c, hc, hf⟩ := afterReplacement_frame e a s
    have away' : ((s.element? e).any fun r => r.state = a.target) = false := by
      rw [hf] at away
      simpa [State.element?] using away
    have joined := Change.placed (s := s) a
      { makeOrder (afterReplacement e a s) (placeNumber e a s) e a origin override with unavailableAt := x }
      ⟨ht, away', rfl, rfl⟩
    rw [hx]
    have he : (afterReplacement e a s).elements =
        { s.elements with queue := (afterReplacement e a s).elements.queue } := by
      conv_lhs => rw [hf]
    have hs : afterReplacement e a s = { s with elements := (afterReplacement e a s).elements, register := r', control := c } := by
      conv_lhs => rw [hf]
      rw [he]
    dsimp only
    generalize hE : ({ (afterReplacement e a s).elements with
      queue := (afterReplacement e a s).elements.queue ++
        [{ makeOrder (afterReplacement e a s) (placeNumber e a s) e a origin override with unavailableAt := x }]
      nextOrder := after 65535 (placeNumber e a s) } : ElementControl) = E
    have hE' : ({ s.elements with
      queue := (afterReplacement e a s).elements.queue ++
        [{ makeOrder (afterReplacement e a s) (placeNumber e a s) e a origin override with unavailableAt := x }]
      nextOrder := after 65535 (placeNumber e a s) } : ElementControl) = E := by
      rw [← hE]
      conv_rhs => rw [he]
    have hj : Change s { s with elements := E } := by
      rw [← hE']
      exact joined
    rw [hs]
    exact ((Changes.one hj).step (.register r)).step (.control c hc)

end Sys2Proof.Machine

/-! SUPPORT. The operations of Element Control, the Isolation Register, the activation and the requests as runs of small
changes. -/

namespace Sys2Proof.Machine

/-! ### Element records -/

theorem State.element?_number {s : State} {n : Nat} {r : ElementRec} (h : s.element? n = some r) : r.number = n :=
  (key_of_find? ElementRec.number n s.elements.table r h).1

/-- A record written without a change of passability, with its ELEMENT notice. -/
theorem updElement_changes {new old : ElementRec} {s : State} (ho : s.element? new.number = some old)
    (hp : new.state.passes = old.state.passes) : Changes s (s.updElement new.number fun _ => new) :=
  .one (.record _ _ (fun _ _ => rfl) fun r hr => by
    rw [ho] at hr
    cases hr
    exact hp)

theorem acknowledge_changes {o : Order} {s : State} (ho : o ∈ s.elements.queue) (hf : o.inFlight = true) :
    Changes s (acknowledge o s) := .one (.acknowledged o ho hf)

theorem State.orderOf?_mem {s : State} {e : Nat} {o : Order} (h : s.orderOf? e = some o) :
    o ∈ s.elements.queue ∧ o.element = e := by
  obtain ⟨he, hm⟩ := key_of_find? Order.element e s.elements.queue o h
  exact ⟨hm, he⟩

theorem State.order?_mem {s : State} {n : Nat} {o : Order} (h : s.order? n = some o) :
    o ∈ s.elements.queue ∧ o.number = n := by
  obtain ⟨he, hm⟩ := key_of_find? Order.number n s.elements.queue o h
  exact ⟨hm, he⟩

theorem judgeOrder_changes {h : Hooks} (hh : h.Lawful) (e : Nat) (x : ElementState) (travel : Bool) (s : State) :
    Changes s (judgeOrder h e x travel s) := by
  unfold judgeOrder
  split
  · exact .refl s
  · next o ho =>
    split
    · next hf =>
      split
      · exact endOrder_changes hh o _ s
      split
      · exact endOrder_changes hh o _ s
      split
      · exact acknowledge_changes (State.orderOf?_mem ho).1 hf
      · exact .refl s
    · split
      · exact endOrder_changes hh o _ s
      · exact .refl s

theorem bumpBasisIf_changes (c : Bool) (s : State) : Changes s (bumpBasisIf c s) := by
  rw [bumpBasisIf_eq]
  exact .one (.basis _)

/-- The tables of a recompute read neither the Control Port nor the basis. -/
theorem recomputeTables_aside (origin : Option Nat) (e : Nat) (c : ControlPort) (b : Word) (u : State) :
    recomputeTables origin e { u with net := { u.net with basis := b }, control := c } =
      { recomputeTables origin e u with net := { u.net with basis := b }, control := c } := rfl

/-- What is told between the write of a record and the recompute that follows it. -/
theorem told_between (l : List NoticeBody) (c d : Bool) (s : State) : ∃ b x, Tells s.control x ∧
    passNotices l (bumpBasisIf c (bumpBasisIf d s)) = { s with net := { s.net with basis := b }, control := x } := by
  refine ⟨(bumpBasisIf c (bumpBasisIf d s)).net.basis, (passNotices l (bumpBasisIf c (bumpBasisIf d s))).control, ?_, ?_⟩
  · have hc : (bumpBasisIf c (bumpBasisIf d s)).control = s.control := by rw [bumpBasisIf_eq, bumpBasisIf_eq]
    exact hc ▸ tells_passNotices l _
  · conv_lhs => rw [passNotices_frame, bumpBasisIf_eq, bumpBasisIf_eq]
    rw [bumpBasisIf_eq, bumpBasisIf_eq]

theorem elementSteps_changes {h : Hooks} (hh : h.Lawful) {old new : ElementRec} {cause : ElementCause} {travel : Bool}
    {s : State} (ho : s.element? new.number = some old) : Changes s (elementSteps h old new cause travel s) := by
  unfold elementSteps
  dsimp only
  refine Changes.trans ?_ (judgeOrder_changes hh _ _ _ _)
  split
  · refine recompute_changes hh.pass ?_
    obtain ⟨b, c, hc, ht⟩ := told_between
      (elementNotice old new cause (originIncident new.number s)
        (bumpBasisIf (!old.faultMark && new.faultMark)
          (bumpBasisIf (decide (old.state.passes ≠ new.state.passes)) (s.updElement new.number fun _ => new))).net.basis).toList
      (!old.faultMark && new.faultMark) (decide (old.state.passes ≠ new.state.passes))
      (s.updElement new.number fun _ => new)
    rw [ht, recomputeTables_aside]
    exact ((Changes.one (.moved new _)).step (.basis b)).step (.control c hc)
  · next hp =>
    have kept : new.state.passes = old.state.passes := by
      simp only [ne_eq, not_not] at hp
      exact hp.symm
    exact .trans (.trans (.trans (updElement_changes ho kept) (bumpBasisIf_changes _ _)) (bumpBasisIf_changes _ _))
      (passNotices_changes _ _)

theorem positionEvent_changes {h : Hooks} (hh : h.Lawful) (e : Nat) (c : PositionCode) (s : State) :
    Changes s (positionEvent h e c s) := by
  unfold positionEvent
  split
  · exact .refl s
  · next old ho =>
    refine elementSteps_changes hh ?_
    show s.element? old.number = some old
    rw [State.element?_number ho, ho]

theorem markUnconfirmed_changes (a : Nat) (s : State) : Changes s (markUnconfirmed a s) :=
  foldl_keeps (P := Changes s) _ _ (fun _ e _ hu =>
    hu.step (.record e.number (fun r => { r with unconfirmed := true }) (fun _ h => h) fun _ _ => rfl)) s (.refl s)

/-! ### The Isolation Register -/

theorem reportStatus_changes (n : Nat) (s : State) : Changes s (reportStatus n s) := by
  unfold reportStatus
  split
  · exact passNotice_changes _ s
  · exact .refl s

/-- A change of an incident's isolation alone. -/
theorem updIncident_changes (n : Nat) {g : Incident → Incident} (h : ∀ i, IncidentKept i (g i)) (s : State) :
    Changes s (s.updIncident n g) := .one (.incidents n g h)

theorem setStatus_changes (n : Nat) (x : IsoStatus) (s : State) : Changes s (setStatus n x s) := by
  refine .trans (updIncident_changes n ?_ s) (reportStatus_changes n _)
  exact fun _ => incidentKept_of_eq rfl rfl rfl rfl rfl rfl

theorem updRecord_changes (k : Nat) (g : IsoRecord → IsoRecord) (s : State) : Changes s (s.updRecord k g) :=
  .one (.register _)

theorem marksRegister_updRecord (k : Nat) (g : Nat → State → IsoRecord → IsoRecord) :
    MarksRegister fun n s => s.updRecord k (g n s) := fun _ _ => ⟨_, rfl⟩

theorem recordPass_changes (c : Ctx) {h : Hooks} (hh : h.Lawful) (s : State) : Changes s (recordPass c h s) :=
  recordPass_keeps (P := Changes s) c h (fun _ r hu => hu.step (.register r))
    (fun u n x hu => hu.trans (setStatus_changes n x u))
    (fun _ k e _ hu _ ht => hu.trans (place_changes hh (marksRegister_updRecord k fun m s r =>
      r.updEntry e fun x => { x.toStep s.now .opening with order := m }) ht _ _)) s (.refl s)

theorem reexamine_changes (c : Ctx) (k : Nat) (s : State) : Changes s (reexamine c k s) := updRecord_changes k _ s

theorem retryHeld_changes {h : Hooks} (hh : h.Lawful) (k : Nat) (s : State) : Changes s (retryHeld h k s) := by
  unfold retryHeld
  split
  · exact .refl s
  · refine foldl_keeps (P := Changes s) _ _ (fun u e _ hu => hu.trans ?_) s (.refl s)
    unfold retryEntry
    split
    · exact .refl u
    split
    · split
      · split
        · exact updRecord_changes k _ u
        · next ht =>
          exact place_changes hh (marksRegister_updRecord k fun m s r =>
            r.updEntry e fun x => { x.toStep s.now .opening with order := m }) ht _ _
      · exact .refl u
    · exact .refl u

theorem judgeStatus_changes (k : Nat) (s : State) : Changes s (judgeStatus k s) := by
  unfold judgeStatus
  split
  · exact .refl s
  split
  · exact .refl s
  split
  · split
    · exact .trans (.one (.register _)) (setStatus_changes _ _ _)
    · exact .refl s
  · dsimp only
    split
    · exact .refl s
    · exact setStatus_changes _ _ s

theorem passRecord_changes (c : Ctx) {h : Hooks} (hh : h.Lawful) (k : Nat) (s : State) :
    Changes s (passRecord c h k s) := by
  unfold passRecord
  split
  · exact .refl s
  · refine Changes.trans ?_ (judgeStatus_changes k _)
    split
    · exact .trans (reexamine_changes c k s) (retryHeld_changes hh k _)
    · exact reexamine_changes c k s

theorem handCrew_changes (e : Nat) (a : Action) (s : State) : Changes s (handCrew e a s) := by
  unfold handCrew
  split
  · exact .refl s
  · exact updRecord_changes _ _ s

/-! ### Stations and activation -/

theorem stationNotice_changes (old : StationState) (t : Station) (c : StationCause) (s : State) :
    Changes s (stationNotice old t c s) := passNotice_changes _ s

theorem setStation_changes (t : Station) (s : State) : Changes s (setStation t s) := .one (.field _)

theorem bumpBasis_changes (s : State) : Changes s (bumpBasis s) := .one (.basis _)

theorem silenceEvent_changes (a : Nat) (s : State) : Changes s (silenceEvent a s) := by
  unfold silenceEvent
  split
  · exact .refl s
  · next t _ =>
    split
    · exact .trans (.trans (.trans (.trans (.trans (setStation_changes t.silenced s) (bumpBasis_changes _))
        (markUnconfirmed_changes a _)) (syncUnavailable_changes a _)) (stationNotice_changes _ _ _ _))
        (stalePoints_changes a _)
    · exact .trans (setStation_changes t.silenced s) (stationNotice_changes _ _ _ _)
    all_goals exact setStation_changes _ s

/-- A discarded plan empties the plan buffer and tells of it. -/
theorem discardPlan_frame (s : State) : ∃ c, Tells s.control c ∧
    discardPlan s = { s with planner := { s.planner with buffer := .empty }, control := c } := by
  unfold discardPlan
  dsimp only
  split
  · rw [passNotice_frame]
    exact ⟨_, tells_passNotice _ { s with planner := { s.planner with buffer := .empty } }, rfl⟩
  all_goals exact ⟨_, Tells.refl _, rfl⟩

/-- An activation of the standby image with the order queue empty and no conflict (R22, R24, R27). -/
theorem activate_changes {pass : State → State} (hp : ∀ s, Changes s (pass s)) {img : Image} {s : State}
    (hi : s.net.standby = .complete img ∨ s.net.standby = .pending img) (hq : s.elements.queue = [])
    (hc : conflictTest img s = none) : Changes s (activate pass img s) := by
  unfold activate
  dsimp only
  refine foldl_keeps (P := Changes s) _ _ (fun u a _ hu => hu.trans (silenceEvent_changes a u)) _ ?_
  refine Changes.trans (Changes.trans (Changes.step (recompute_changes hp ?_) (.standby .empty nofun))
    (passNotice_changes _ _)) (passNotices_changes _ _)
  obtain ⟨c, ht, hd⟩ := discardPlan_frame s
  rw [hd]
  refine Changes.trans (t := bumpBasis _) ?_ (.one (.activation img hi hq hc))
  exact ((Changes.one (.planner { s.planner with buffer := .empty })).step (.control c ht)).trans (bumpBasis_changes _)

theorem activateIfDue_changes {pass : State → State} (hp : ∀ s, Changes s (pass s)) (s : State) :
    Changes s (activateIfDue pass s) := by
  unfold activateIfDue
  split
  · next img hi =>
    split
    · next hd =>
      split
      · refine .trans (.one (.standby (.complete img) fun j hj => ?_)) (passNotice_changes _ _)
        rcases hj with hj | hj
        · cases hj
          exact .inr (.inl hi)
        · cases hj
      · next hc =>
        have hq : s.elements.queue = [] := by
          simp only [State.idle, Bool.and_eq_true, List.isEmpty_iff] at hd
          exact hd.1
        exact activate_changes hp (.inr hi) hq hc
    · exact .refl s
  all_goals exact .refl s

/-! ### Passes inside passes -/

theorem lawful_id : Hooks.Lawful ⟨id, id, id⟩ := ⟨Changes.refl, Changes.refl, Changes.refl⟩

theorem dispatchPass_id_changes (s : State) : Changes s (dispatchPass id s) := dispatchPass_changes Changes.refl s

theorem passInActivation_changes (c : Ctx) (s : State) : Changes s (passInActivation c s) :=
  recordPass_changes c ⟨dispatchPass_id_changes, Changes.refl, Changes.refl⟩ s

theorem activateTop_changes (c : Ctx) (s : State) : Changes s (activateTop c s) :=
  activateIfDue_changes (passInActivation_changes c) s

theorem activateInPass_changes (s : State) : Changes s (activateInPass s) := activateIfDue_changes Changes.refl s

theorem dispatchInPass_changes (s : State) : Changes s (dispatchInPass s) :=
  dispatchPass_changes activateInPass_changes s

/-- What a record pass sets off. -/
theorem lawful_inPass : Hooks.Lawful ⟨dispatchInPass, id, activateInPass⟩ :=
  ⟨dispatchInPass_changes, Changes.refl, activateInPass_changes⟩

theorem recordPassTop_changes (c : Ctx) (s : State) : Changes s (recordPassTop c s) :=
  recordPass_changes c lawful_inPass s

theorem recordPassInDispatch_changes (c : Ctx) (s : State) : Changes s (recordPassInDispatch c s) :=
  recordPass_changes c ⟨Changes.refl, Changes.refl, activateInPass_changes⟩ s

theorem activateInDispatch_changes (c : Ctx) (s : State) : Changes s (activateInDispatch c s) :=
  activateIfDue_changes (recordPass_changes c lawful_id) s

theorem dispatchTop_changes (c : Ctx) (s : State) : Changes s (dispatchTop c s) :=
  dispatchPass_changes (fun u => (recordPassInDispatch_changes c u).trans (activateInDispatch_changes c _)) s

theorem lawful_top (c : Ctx) : (hooksTop c).Lawful := by
  constructor <;> dsimp only [hooksTop]
  · exact dispatchTop_changes c
  · exact recordPassTop_changes c
  · exact activateTop_changes c

/-! ### Requests -/

section

variable {s : State}

theorem needImage_changes {serve : Image → State → Served}
    (h : ∀ img, s.net.active = some img → Changes s (serve img s).1) : Changes s (needImage serve s).1 := by
  unfold needImage
  split
  · exact .refl s
  · next img hi => exact h img hi

theorem withPoint_changes {n : Nat} {serve : Point → PointRec → State → Served}
    (h : ∀ t r, s.point? n = some r → Changes s (serve t r s).1) : Changes s (withPoint n serve s).1 :=
  needImage_changes fun img _ => by
    split
    · next t r _ hr => exact h t r hr
    · exact .refl s

theorem withStation_changes {n : Nat} {serve : StationTopo → Station → State → Served}
    (h : ∀ x t, Changes s (serve x t s).1) : Changes s (withStation n serve s).1 :=
  needImage_changes fun img _ => by
    split
    · exact h _ _
    · exact .refl s

theorem withElement_changes {n : Nat} {serve : Element → ElementRec → State → Served}
    (h : ∀ e r, s.element? n = some r → Changes s (serve e r s).1) : Changes s (withElement n serve s).1 :=
  needImage_changes fun img _ => by
    split
    · next e r _ hr => exact h e r hr
    · exact .refl s

theorem withSegment_changes {n : Nat} {serve : Segment → SegSupply → State → Served}
    (h : ∀ t x, Changes s (serve t x s).1) : Changes s (withSegment n serve s).1 :=
  needImage_changes fun img _ => by
    split
    · exact h _ _
    · exact .refl s

theorem withIncident_changes {n : Nat} {serve : Incident → State → Served}
    (h : ∀ i, s.incident? n = some i → Changes s (serve i s).1) : Changes s (withIncident n serve s).1 :=
  needImage_changes fun _ _ => by
    split
    · next i hi => exact h i hi
    · exact .refl s

end

/-- The subscription set and OVERRUN alone. -/
theorem tells_of_gathered {c : ControlPort} (sub : List NoticeClass) (o : Bool) :
    Tells c { c with subscribed := sub, overrun := o } := fun l hl => ⟨l, sub, o, by rw [← hl]⟩

theorem serveStatus_changes (s : State) : Changes s (serveStatus () s).1 :=
  (Changes.one (.full false)).step (.control _ (tells_of_gathered s.control.subscribed false))

theorem serveSubscribe_changes (l : List Nat) (s : State) : Changes s (serveSubscribe l s).1 := by
  unfold serveSubscribe
  split
  · exact .one (.control _ (tells_of_gathered _ s.control.overrun))
  · exact .refl s

theorem serveSetGlobals_changes (a : GlobalsArgs) (s : State) : Changes s (serveSetGlobals a s).1 := by
  unfold serveSetGlobals
  split
  · exact .refl s
  · exact (Changes.one (.globals (clampGlobals a))).step (.segments (reaim s.now (clampGlobals a)) fun _ => ⟨rfl, rfl⟩)

theorem serveSave_changes (s : State) : Changes s (serveSave () s).1 :=
  needImage_changes fun img _ => by
    split
    · exact .refl s
    split
    · exact .refl s
    · refine .one (.store _ (fun c k h => .inl h) fun c hc => .inr ⟨img, ?_⟩)
      cases hc
      rfl

theorem setStandby_changes {x : Standby} (h : ∀ img, x ≠ .complete img ∧ x ≠ .pending img) (s : State) :
    Changes s (s.setStandby x) :=
  .one (.standby x fun img hx => hx.elim (fun hx => absurd hx (h img).1) fun hx => absurd hx (h img).2)

theorem serveTopoBegin_changes (a : BeginArgs) (s : State) : Changes s (serveTopoBegin a s).1 := by
  unfold serveTopoBegin
  split
  · exact .refl s
  · exact setStandby_changes (by simp) s

theorem serveTopoPart_changes (a : PartArgs) (s : State) : Changes s (serveTopoPart a s).1 := by
  unfold serveTopoPart
  split
  · split
    · exact .refl s
    split
    · exact .refl s
    split
    · exact .refl s
    · exact setStandby_changes (by simp) s
  all_goals exact .refl s

theorem commitImage_changes {img : Image} {s : State} (h : s.net.standby = .complete img) :
    Changes s (commitImage img s).1 := by
  unfold commitImage
  have kept : ∀ j, j = img → StandbyImage s j := fun j hj => .inl (hj ▸ h)
  split
  · exact .one (.standby _ fun j hj => kept j (by simpa [eq_comm] using hj))
  · next hc =>
    split
    · next hd =>
      have hq : s.elements.queue = [] := by
        simp only [State.idle, Bool.and_eq_true, List.isEmpty_iff] at hd
        exact hd.1
      exact activate_changes (passInActivation_changes .plain) (.inl h) hq hc
    · exact .one (.standby _ fun j hj => kept j (by simpa [eq_comm] using hj))

/-- The three tests of a first commit are passed only by records that validate (R20). -/
theorem validate_of_commitFault {l : Loading} {check : Nat} (h : commitFault l check = none) :
    validate l.records = none := by
  simp only [commitFault, Option.or_eq_none_iff] at h
  exact h.2

theorem serveTopoCommit_changes (check : Nat) (s : State) : Changes s (serveTopoCommit check s).1 := by
  unfold serveTopoCommit
  split
  · exact .refl s
  split
  · exact .refl s
  · exact .refl s
  · next hi => exact commitImage_changes hi
  · next l _ =>
    split
    · exact setStandby_changes (by simp) s
    · next hv =>
      refine .trans (.one (.standby _ fun j hj => .inr (.inr ⟨l.image, l.records, ?_, validate_of_commitFault hv⟩)))
        (commitImage_changes rfl)
      simpa [eq_comm] using hj

theorem clampNat_range {lo hi : Nat} (n : Nat) (h : lo ≤ hi) : lo ≤ clampNat lo hi n ∧ clampNat lo hi n ≤ hi := by
  unfold clampNat
  split
  · omega
  · split <;> omega

theorem tunePoint_sound (a : TuneArgs) {r : PointRec} (h : r.Sound) : (tunePoint a r).Sound :=
  ⟨h.range, clampNat_range a.weight (by decide), h.p, h.f⟩

theorem servePointTune_changes (a : TuneArgs) (s : State) : Changes s (servePointTune a s).1 :=
  withPoint_changes fun _ r hr => by
    split
    · exact .refl s
    · exact setPoint_changes_of hr rfl (tunePoint_sound a)

theorem servePointLimits_changes (a : LimitsArgs) (s : State) : Changes s (servePointLimits a s).1 :=
  withPoint_changes fun _ r hr => by
    split
    · exact .refl s
    split
    · exact setPoint_changes_of hr rfl fun h => ⟨h.range, h.weight, h.p, h.f⟩
    · exact .refl s

theorem clearStation_changes (t : Station) (s : State) : Changes s (clearStation t s) :=
  .trans (.trans (.trans (.trans (setStation_changes _ s) (bumpBasis_changes _)) (syncUnavailable_changes _ _))
    (dispatchTop_changes .plain _)) (stationNotice_changes _ _ _ _)

theorem serveStationClear_changes (a : Nat) (s : State) : Changes s (serveStationClear a s).1 :=
  withStation_changes fun _ t => by
    split
    · exact clearStation_changes t s
    · exact .refl s

theorem serveStationRead_changes (a : Nat) (s : State) : Changes s (serveStationRead a s).1 :=
  needImage_changes fun _ _ => by split <;> exact .refl s

theorem serveOrder_changes (a : OrderArgs) (s : State) : Changes s (serveOrder a s).1 :=
  withElement_changes fun _ _ _ => by
    split
    · exact .refl s
    · split
      · exact .refl s
      · next ht => exact place_changes (lawful_top .plain) (fun _ s => ⟨s.register, rfl⟩) ht _ _

theorem serveOrderCancel_changes (n : Nat) (s : State) : Changes s (serveOrderCancel n s).1 :=
  needImage_changes fun _ _ => by
    split
    · exact .refl s
    · split
      · exact .refl s
      · dsimp only
        exact endOrder_changes (lawful_top .plain) _ _ s

theorem crewEvent_changes (a : Action) {old : ElementRec} {s : State} (ho : s.element? old.number = some old) :
    Changes s (crewEvent a old s) := by
  unfold crewEvent
  dsimp only
  refine Changes.trans (Changes.trans ?_ (handCrew_changes old.number a _)) (recordPassTop_changes .plain _)
  exact elementSteps_changes (lawful_top _) ho

theorem serveCrewReport_changes (a : CrewArgs) (s : State) : Changes s (serveCrewReport a s).1 :=
  withElement_changes fun _ r hr => by
    split
    · exact .refl s
    · split
      · exact .refl s
      · dsimp only
        exact crewEvent_changes _ (by rw [State.element?_number hr]; exact hr)

theorem clearFault_changes {old : ElementRec} {s : State} (ho : s.element? old.number = some old) :
    Changes s (clearFault old s) :=
  .trans (.trans (updElement_changes (new := { old with faultMark := false }) ho rfl) (bumpBasis_changes _))
    (passNotices_changes _ _)

theorem serveElementClearFault_changes (n : Nat) (s : State) : Changes s (serveElementClearFault n s).1 :=
  withElement_changes fun _ r hr => by
    show Changes s (if r.faultMark then clearFault r s else s)
    split
    · exact clearFault_changes (by rw [State.element?_number hr]; exact hr)
    · exact .refl s

theorem recordClearance_changes (x : SegSupply) (o : Outage) (s : State) : Changes s (recordClearance x o s) :=
  .trans (.trans (.one (.outage o.segment (fun _ => { o with clearance := some s.now }) fun _ _ => rfl))
    (passNotice_changes _ _)) (recordPassTop_changes _ _)

theorem serveOutageClear_changes (n : Nat) (s : State) : Changes s (serveOutageClear n s).1 :=
  withSegment_changes fun _ x => by
    have recorded : Changes s (match s.outage? n with
        | none => refuse .state s
        | some o => (if o.clearance.isNone then recordClearance x o s else s, .done .nothing) : Served).1 := by
      split
      · exact .refl s
      · next o _ =>
        show Changes s (if o.clearance.isNone then recordClearance x o s else s)
        split
        · exact recordClearance_changes x o s
        · exact .refl s
    split
    · exact .refl s
    · exact .refl s
    all_goals exact recorded

theorem takeCall_changes (img : Image) (segment : Nat) (cls : CallClass) (c : CallEntry) (s : State) :
    Changes s (takeCall img segment cls c s).1 := by
  unfold takeCall
  dsimp only
  split
  · next i hi => exact setIncident_changes (correlate_mem hi) (joinCall_kept _ _ _ _ _)
  · next hn =>
    split
    · next t i ht =>
      exact .trans (.one (.created _ t i segment ht (fun n => aimDeadline_opened s.now segment rfl rfl rfl)
        (correlate_none_segment hn))) (passNotices_changes _ _)
    · exact .refl s

theorem serveCall_changes (a : CallArgs) (s : State) : Changes s (serveCall a s).1 :=
  needImage_changes fun img _ => by
    split
    · exact .refl s
    · exact .refl s
    · split
      · exact .refl s
      split
      · exact .refl s
      · exact takeCall_changes img _ _ _ s

theorem changeIncident_changes {old new : Incident} {s : State} (ho : old ∈ s.incidentList) (h : IncidentKept old new) :
    Changes s (changeIncident old new s).1 := setIncident_changes ho h

/-- An incident whose deadline goes with a state that has none (R88, R97). -/
theorem incidentKept_attended (i : Incident) (h : i.state.awaits = true) :
    IncidentKept i { i with state := .attended, deadline := none } where
  number := rfl
  segment := rfl
  closed hs := by simp [IncidentState.awaits, hs] at h
  deadline _ := nofun

/-- A state without a deadline entered from one without a deadline. -/
theorem incidentKept_settled {i j : Incident} (hn : j.number = i.number) (hg : j.segment = i.segment)
    (hd : j.deadline = i.deadline) (hs : ¬i.state.awaits = true) (hc : i.state ≠ .closed) : IncidentKept i j where
  number := hn
  segment := hg
  closed h := absurd h hc
  deadline h := fun d hj => by
    rw [hd, h.none_of_not_awaits hs] at hj
    cases hj

theorem setDispatch_changes {i : Incident} {s : State} (hi : i ∈ s.incidentList) : Changes s (setDispatch i s).1 := by
  unfold setDispatch
  split
  · next hs =>
    refine changeIncident_changes hi ⟨rfl, rfl, fun h => ?_, fun h d hd => ⟨.inr rfl, (h d hd).2⟩⟩
    simp [hs] at h
  · exact .refl s

theorem setAttend_changes {i : Incident} {s : State} (hi : i ∈ s.incidentList) : Changes s (setAttend i s).1 := by
  unfold setAttend
  split
  · next hs => exact changeIncident_changes hi (incidentKept_attended i hs)
  · exact .refl s

theorem setSafe_changes {i : Incident} {s : State} (hi : i ∈ s.incidentList) : Changes s (setSafe i s).1 := by
  unfold setSafe
  split
  · next hs =>
    exact changeIncident_changes hi (incidentKept_settled rfl rfl rfl (by simp [hs, IncidentState.awaits]) (by simp [hs]))
  · exact .refl s

theorem setClose_changes {i : Incident} {s : State} (hi : i ∈ s.incidentList) : Changes s (setClose i s).1 := by
  unfold setClose
  split
  · next hs =>
    exact changeIncident_changes hi
      (incidentKept_settled rfl rfl rfl (by simp [hs.1, IncidentState.awaits]) (by simp [hs.1]))
  · exact .refl s

theorem setGrade_changes (g : Nat) {i : Incident} {s : State} (hi : i ∈ s.incidentList) :
    Changes s (setGrade g i s).1 := by
  unfold setGrade
  split
  · exact .refl s
  split
  · exact changeIncident_changes hi (incidentKept_aimed s.now rfl rfl rfl rfl)
  · exact .refl s

theorem serveGrade_changes (a : GradeArgs) (s : State) : Changes s (serveGrade a s).1 :=
  withIncident_changes fun _ hi => by
    split
    · exact setGrade_changes _ (State.incident?_mem hi).1
    · exact .refl s

theorem serveIncidentRead_changes (n : Nat) (s : State) : Changes s (serveIncidentRead n s).1 :=
  needImage_changes fun _ _ => by
    split
    · exact .refl s
    · split <;> exact .refl s

theorem servePlan_changes (n : Nat) (s : State) : Changes s (servePlan n s).1 :=
  needImage_changes fun _ _ => by
    split
    · exact .refl s
    · split
      · exact .refl s
      · split
        · exact .refl s
        · exact .refl s
        · refine .trans (.one (.planner _)) (updIncident_changes _ ?_ _)
          exact fun _ => incidentKept_of_eq rfl rfl rfl rfl rfl rfl

theorem emptyBuffer_changes (s : State) : Changes s (emptyBuffer s) := .one (.planner _)

theorem servePlanRead_changes (a : PlanReadArgs) (s : State) : Changes s (servePlanRead a s).1 :=
  needImage_changes fun _ _ => by
    split
    · exact .refl s
    · split
      · show Changes s (if a.release then emptyBuffer s else s)
        split
        · exact emptyBuffer_changes s
        · exact .refl s
      all_goals exact .refl s

theorem servePlanCancel_changes (n : Nat) (s : State) : Changes s (servePlanCancel n s).1 :=
  needImage_changes fun _ _ => by
    split
    · exact .refl s
    · split
      · exact .trans (emptyBuffer_changes s) (activateTop_changes .plain _)
      · exact .refl s
    · split
      · exact emptyBuffer_changes s
      · exact .refl s

theorem placeClosing_changes {h : Hooks} (hh : h.Lawful) (k e : Nat) (s : State) : Changes s (placeClosing h k e s) := by
  unfold placeClosing
  split
  · exact .refl s
  split
  · split
    · exact updRecord_changes k _ s
    · next ht =>
      exact place_changes hh (marksRegister_updRecord k fun n _ r => r.updEntry e fun x => { x with order := n }) ht _ _
  · exact .refl s

theorem placeClosings_changes {h : Hooks} (hh : h.Lawful) (k : Nat) (s : State) : Changes s (placeClosings h k s) := by
  unfold placeClosings
  split
  · exact .refl s
  · exact foldl_keeps (P := Changes s) _ _ (fun u e _ hu => hu.trans (placeClosing_changes hh k e u)) s (.refl s)

theorem runExecute_changes (k : Nat) (r : IsoRecord) (s : State) : Changes s (runExecute k r s) := by
  unfold runExecute
  have taken : Changes s (emptyBuffer (setRecord k r s)) := (Changes.one (.register _)).trans (emptyBuffer_changes _)
  have executing := taken.trans (updIncident_changes r.incident
    (g := fun i => { i with isoStatus := .executing, isoIndex := some (k + 1) })
    (fun _ => incidentKept_of_eq rfl rfl rfl rfl rfl rfl) _)
  exact ((executing.trans (placeClosings_changes (lawful_top .plain) k _)).trans
    (passRecord_changes .plain lawful_inPass k _)).trans (reportStatus_changes _ _)

theorem serveExecute_changes (a : ExecuteArgs) (s : State) : Changes s (serveExecute a s).1 :=
  needImage_changes fun _ _ => by
    split
    · exact .refl s
    · exact runExecute_changes _ _ s

theorem runRestore_changes (k n : Nat) (s : State) : Changes s (runRestore k n s) := by
  unfold runRestore
  have restoring := updIncident_changes n (g := fun i => { i with isoStatus := .restoring })
    (fun _ => incidentKept_of_eq rfl rfl rfl rfl rfl rfl) s
  exact ((restoring.trans (updRecord_changes k _ _)).trans (passRecord_changes .plain lawful_inPass k _)).trans
    (reportStatus_changes _ _)

theorem serveRestore_changes (n : Nat) (s : State) : Changes s (serveRestore n s).1 :=
  withIncident_changes fun _ _ => by
    split
    · split
      · exact runRestore_changes _ n s
      · exact .refl s
    · exact .refl s

theorem serveIsolationRead_changes (n : Nat) (s : State) : Changes s (serveIsolationRead n s).1 :=
  needImage_changes fun _ _ => by
    split
    · exact .refl s
    split
    · exact .refl s
    · split <;> exact .refl s

/-- Whatever a request asks, what its rule makes of the part is a run of small changes. -/
theorem Asks.changes {c : Instr} {kind tag : Nat} {f : State → Served} (h : Asks c kind tag f) (s : State) :
    Changes s (f s).1 := by
  cases h
  case status => exact serveStatus_changes s
  case subscribe => exact serveSubscribe_changes _ s
  case setGlobals => exact serveSetGlobals_changes _ s
  case restart => exact .refl s
  case save => exact serveSave_changes s
  case topoBegin => exact serveTopoBegin_changes _ s
  case topoPart => exact serveTopoPart_changes _ s
  case topoCommit => exact serveTopoCommit_changes _ s
  case topoAbandon => exact setStandby_changes (by simp) s
  case pointTune => exact servePointTune_changes _ s
  case pointLimits => exact servePointLimits_changes _ s
  case pointRead => exact withPoint_changes fun _ _ _ => .refl s
  case stationClear => exact serveStationClear_changes _ s
  case stationRead => exact serveStationRead_changes _ s
  case order => exact serveOrder_changes _ s
  case orderCancel => exact serveOrderCancel_changes _ s
  case crewReport => exact serveCrewReport_changes _ s
  case elementClearFault => exact serveElementClearFault_changes _ s
  case orderRead | outageRead => exact needImage_changes fun _ _ => .refl s
  case elementRead => exact withElement_changes fun _ _ _ => .refl s
  case outageClear => exact serveOutageClear_changes _ s
  case segmentRead => exact withSegment_changes fun _ _ => .refl s
  case call => exact serveCall_changes _ s
  case dispatch => exact withIncident_changes fun _ hi => setDispatch_changes (State.incident?_mem hi).1
  case attend => exact withIncident_changes fun _ hi => setAttend_changes (State.incident?_mem hi).1
  case safe => exact withIncident_changes fun _ hi => setSafe_changes (State.incident?_mem hi).1
  case close => exact withIncident_changes fun _ hi => setClose_changes (State.incident?_mem hi).1
  case grade => exact serveGrade_changes _ s
  case incidentRead => exact serveIncidentRead_changes _ s
  case plan => exact servePlan_changes _ s
  case planRead => exact servePlanRead_changes _ s
  case planCancel => exact servePlanCancel_changes _ s
  case execute => exact serveExecute_changes _ s
  case restore => exact serveRestore_changes _ s
  case isolationRead => exact serveIsolationRead_changes _ s

end Sys2Proof.Machine

/-! SUPPORT. What a command can do, said once: `Event` lists the events between commands, each with the run of small changes
inside it, and every command is shown to be a run of events. A property that small changes, the Control Port's own moves and
a restart keep is kept by every step. -/

namespace Sys2Proof.Machine

/-! ### The range of a point's p and f (R51, R52, R55) -/

theorem clampInt_range {lo hi : Int} (x : Int) (h : lo ≤ hi) : lo ≤ clampInt lo hi x ∧ clampInt lo hi x ≤ hi := by
  unfold clampInt
  split
  · omega
  · split <;> omega

/-- A clamped count converts into the point's range (R52). -/
theorem convert_range {pl ph : Nat} (h : pl ≤ ph) {k : Int} (hk : 800 ≤ k ∧ k ≤ 4000) :
    (pl : Int) ≤ convert pl ph k ∧ convert pl ph k ≤ ph := by
  have lower : 0 ≤ (k - 800) * ((ph : Int) - pl) := mul_nonneg (by omega) (by omega)
  have upper : (k - 800) * ((ph : Int) - pl) ≤ 3200 * ((ph : Int) - pl) := mul_le_mul_of_nonneg_right (by omega) (by omega)
  unfold convert
  generalize (k - 800) * ((ph : Int) - pl) = x at lower upper
  omega

/-- A quotient by 16 misses its value by half a unit at most (R55). -/
theorem round16_near (x : Int) : -8 ≤ 16 * round16 x - x ∧ 16 * round16 x - x ≤ 8 := by
  unfold round16
  split <;> omega

/-- A tie is rounded away from zero (R55). -/
theorem round16_tie (x : Int) : (0 ≤ x → -8 < 16 * round16 x - x) ∧ (x < 0 → 16 * round16 x - x < 8) := by
  unfold round16
  split <;> omega

/-- The filter moves towards p and not past it (R55). -/
theorem filterStep_between (f p : Int) {w : Nat} (hw : w ≤ 16) :
    min f p ≤ filterStep f p w ∧ filterStep f p w ≤ max f p := by
  have hw' : (w : Int) ≤ 16 := by exact_mod_cast hw
  have hw0 : (0 : Int) ≤ w := by positivity
  unfold filterStep
  rcases le_total f p with hfp | hfp
  · have lower : 0 ≤ (p - f) * w := mul_nonneg (by omega) hw0
    have upper : (p - f) * w ≤ (p - f) * 16 := mul_le_mul_of_nonneg_left hw' (by omega)
    generalize (p - f) * (w : Int) = x at lower upper
    unfold round16
    omega
  · have lower : (p - f) * 16 ≤ (p - f) * w := mul_le_mul_of_nonpos_left hw' (by omega)
    have upper : (p - f) * w ≤ 0 := mul_nonpos_of_nonpos_of_nonneg (by omega) hw0
    generalize (p - f) * (w : Int) = x at lower upper
    unfold round16
    omega

theorem latchLimits_same (r : PointRec) :
    ∃ l h q, latchLimits r = { r with limits := l, hyst := h, pendingLimits := q } := by
  unfold latchLimits
  split <;> exact ⟨_, _, _, rfl⟩

/-- The filter stage keeps a sound record sound and seeds f with p or moves it between both. -/
theorem filterStage_sound {p : Int} {r : PointRec} (h : r.Sound) (hp : (r.pl : Int) ≤ p ∧ p ≤ r.ph) :
    (filterStage p r).Sound := by
  unfold filterStage
  split
  · next f _ hf =>
    refine ⟨h.range, h.weight, h.p, fun x hx => ?_⟩
    cases hx
    have between := filterStep_between f p h.weight.2
    have hfr := h.f f hf
    dsimp only
    omega
  · refine ⟨h.range, h.weight, h.p, fun x hx => ?_⟩
    cases hx
    exact hp

theorem sampleStages_sound (now count : Nat) (supply : Option SupplyState) {r : PointRec} (h : r.Sound) :
    (sampleStages now count supply r).Sound := by
  have hk := clampInt_range (lo := scaleLow) (hi := scaleHigh) (correctedCount count r.offset) (by decide)
  have hp := convert_range h.range hk
  unfold sampleStages
  dsimp only
  obtain ⟨l, y, q, hl⟩ := latchLimits_same
    { r with underScale := underFlag (correctedCount count r.offset), overScale := overFlag (correctedCount count r.offset)
             p := some (convert r.pl r.ph (clampInt scaleLow scaleHigh (correctedCount count r.offset)))
             lastSample := some now }
  rw [hl]
  have filtered : (filterStage (convert r.pl r.ph (clampInt scaleLow scaleHigh (correctedCount count r.offset)))
      (clampHyst { r with
        underScale := underFlag (correctedCount count r.offset), overScale := overFlag (correctedCount count r.offset)
        p := some (convert r.pl r.ph (clampInt scaleLow scaleHigh (correctedCount count r.offset)))
        lastSample := some now, limits := l, hyst := y, pendingLimits := q })).Sound := by
    refine filterStage_sound ⟨h.range, h.weight, fun x hx => ?_, h.f⟩ hp
    cases hx
    exact hp
  exact ⟨filtered.range, filtered.weight, filtered.p, filtered.f⟩

theorem evaluate_sound (now count : Nat) (faulty : Bool) (supply : Option SupplyState) {r : PointRec} (h : r.Sound) :
    (evaluate now count faulty supply r).Sound := by
  unfold evaluate
  split
  · exact ⟨h.range, h.weight, h.p, h.f⟩
  · exact sampleStages_sound now count supply h

theorem filterStage_number (p : Int) (r : PointRec) : (filterStage p r).number = r.number := by
  unfold filterStage
  split <;> rfl

theorem evaluate_number (now count : Nat) (faulty : Bool) (supply : Option SupplyState) (r : PointRec) :
    (evaluate now count faulty supply r).number = r.number := by
  unfold evaluate
  split
  · rfl
  · show (filterStage _ (clampHyst (latchLimits _))).number = _
    rw [filterStage_number]
    unfold latchLimits
    split <;> rfl

/-! ### The Field Port and the timers -/

theorem readingEvent_changes {h : Hooks} (hh : h.Lawful) (p : Nat) (x : Reading) (s : State) :
    Changes s (readingEvent h p x s) := by
  unfold readingEvent
  split
  · exact .refl s
  · next old ho =>
    dsimp only
    have read : Changes s (setPoint (evaluate s.now x.count x.faulty
        ((s.seg? (s.segmentOfPoint p)).map (·.state)) old) s) :=
      setPoint_changes_of ho (evaluate_number ..) (evaluate_sound _ _ _ _)
    split
    · exact read
    · exact (read.trans (sampleEvent_changes hh.pass p _ _)).trans (sampleIncidents_changes ..)

theorem applyReport_changes (img : Image) (a : Nat) (r : ReportArgs) (s : State) : Changes s (applyReport img a r s) := by
  unfold applyReport
  dsimp only
  have placed := foldl_keeps (P := Changes s) (fun u (x : Nat × PositionCode) => positionEvent (hooksTop .plain) x.1 x.2 u)
    (deliveredPositions img a r.positions)
    (fun u x _ hu => hu.trans (positionEvent_changes (lawful_top .plain) x.1 x.2 u)) s (.refl s)
  exact foldl_keeps (P := Changes s) (fun u (x : Nat × Reading) => readingEvent (hooksTop .plain) x.1 x.2 u) _
    (fun u x _ hu => hu.trans (readingEvent_changes (lawful_top .plain) x.1 x.2 u)) _ placed

theorem reportEvent_changes (img : Image) (x : StationTopo) (t : Station) (r : ReportArgs) (s : State) :
    Changes s (reportEvent img x t r s) := by
  unfold reportEvent
  dsimp only
  have accepted : Changes s (syncUnavailable t.address (bumpBasisIf
      (t.state ≠ .reporting && (acceptReport s.now x r.localFlag t).state = .reporting)
      (setStation (acceptReport s.now x r.localFlag t) s))) :=
    ((setStation_changes _ s).trans (bumpBasisIf_changes _ _)).trans (syncUnavailable_changes _ _)
  have applied : ∀ {u}, Changes s u → Changes s (if (acceptReport s.now x r.localFlag t).state = .reporting
      then applyReport img t.address r u else u) := by
    intro u hu
    split
    · exact hu.trans (applyReport_changes img _ r u)
    · exact hu
  have dispatched : ∀ {u}, Changes s u → Changes s (if reportDispatches t (acceptReport s.now x r.localFlag t)
      then dispatchTop .plain u else u) := by
    intro u hu
    split
    · exact hu.trans (dispatchTop_changes .plain u)
    · exact hu
  have told := dispatched (applied accepted)
  split
  · exact told.trans (stationNotice_changes _ _ _ _)
  · exact told

theorem holdPlan_changes (p : Plan) (s : State) : Changes s (holdPlan p s) := by
  refine Changes.trans (Changes.trans ?_ (passNotice_changes _ _)) (activateTop_changes .plain _)
  exact .one (.planner _)

theorem strokeMark_changes (e : Nat) (s : State) : Changes s (strokeMark e s) := by
  unfold strokeMark
  split
  · exact .refl s
  · next old ho =>
    split
    · exact .refl s
    · refine Changes.trans (Changes.trans ?_ (bumpBasis_changes _)) (passNotices_changes _ _)
      obtain rfl := State.element?_number ho
      exact updElement_changes (new := { old with faultMark := true }) ho rfl

/-! ### Events -/

/-- One event between commands. -/
inductive Event (s : State) : State → Prop where
  | receiver (rx at') : Event s { s with control := { s.control with rx := rx, rxAt := at' } }
  | silent {t} (h : Changes s t) (hc : t.control = s.control) : Event s t
  | own (f) (h : ∀ c, Changes { s with control := c } (f { s with control := c })) : Event s (ownEvent f s)
  | answer (w f) (hl : w.listed = true → s.control.listed.length < 4)
      (hb : w.listed = false → s.control.busyWaiting.length < 4)
      (h : ∀ c, Changes { s with control := c } (f { s with control := c })) : Event s (pushReply w (inEvent f s))
  | take (h : ∀ b, s.control.line ≠ .reply b) : Event s (takeNext s)
  | sent (b w rest) (hl : s.control.line = .reply b) (hr : s.control.replies = w :: rest) :
      Event s (takeNext { s with control := { s.control with replies := rest } })
  | restart (cause) : Event s (restart cause s)
  | clock (now drawn power pin) :
      Event s { s with partTime := now, drawn := drawn, power := power, resetPin := pin }

/-- A run of events. -/
def Events : State → State → Prop := Relation.ReflTransGen Event

namespace Events

variable {s t u : State}

theorem refl (s : State) : Events s s := Relation.ReflTransGen.refl

theorem one (h : Event s t) : Events s t := Relation.ReflTransGen.single h

theorem step (h : Events s t) (h' : Event t u) : Events s u := Relation.ReflTransGen.tail h h'

theorem trans (h : Events s t) (h' : Events t u) : Events s u := Relation.ReflTransGen.trans h h'

theorem keeps {P : State → Prop} (hP : ∀ s t, Event s t → P s → P t) (h : Events s t) (hs : P s) : P t := by
  induction h with
  | refl => exact hs
  | tail _ hc ih => exact hP _ _ hc ih

theorem foldl {α : Type} {f : State → α → State} (hf : ∀ s a, Events s (f s a)) (l : List α) (s : State) :
    Events s (l.foldl f s) :=
  foldl_keeps (P := Events s) f l (fun u a _ hu => hu.trans (hf u a)) s (.refl s)

end Events

theorem silent_events {s t : State} (h : Changes s t) (hc : t.control = s.control) : Events s t := .one (.silent h hc)

theorem own_events {f : State → State} (h : ∀ s, Changes s (f s)) (s : State) : Events s (ownEvent f s) :=
  .one (.own f fun _ => h _)

/-! ### Requests -/

/-- A reply with no change of the part. -/
theorem reply_events (w : Waiting) {s : State} (hl : w.listed = true → s.control.listed.length < 4)
    (hb : w.listed = false → s.control.busyWaiting.length < 4) : Events s (pushReply w s) := by
  have h := Event.answer (s := s) w id hl hb fun _ => .refl _
  rw [inEvent_id rfl rfl] at h
  exact .one h

theorem huntControl_events (s : State) : Events s (huntControl s) := .one (.receiver [] s.control.rxAt)

theorem takeRequest_events {α : Type} {kind tag : Nat} {body : Body α} {serve : α → State → Served}
    (h : ∀ a, body = .fits a → ∀ s, Changes s (serve a s).1) (s : State) :
    Events s (takeRequest kind tag body serve s) := by
  obtain he | he | ⟨hb, he⟩ | ⟨hl, he⟩ | ⟨hl, a, ha, he⟩ := takeRequest_cases kind tag body serve s <;> rw [he]
  · exact .refl s
  · exact huntControl_events s
  · exact .trans (huntControl_events s) (reply_events _ nofun fun _ => hb)
  · exact .trans (huntControl_events s) (reply_events _ (fun _ => hl) nofun)
  · exact .step (huntControl_events s) (.answer _ _ (fun _ => hl) nofun fun _ => h a ha _)

/-- A request frame is of an unknown kind, or its body goes through the tests of R168 to the rule of its kind. -/
theorem request_form {c : Instr} {kind tag : Nat} (hr : c.request? = some (kind, tag)) :
    c = .unknownKind kind tag ∨ ∃ (α : Type) (body : Body α) (serve : α → State → Served),
      (∀ s, exec c s = .next (takeRequest kind tag body serve s)) ∧ c.fitsLayout = body.isFit ∧
        ∀ a, body = .fits a → Asks c kind tag (serve a) := by
  cases c
  all_goals cases hr
  case unknownKind => exact .inl rfl
  all_goals
    refine .inr ⟨_, _, _, fun _ => rfl, rfl, fun a ha => ?_⟩
    cases ha
    constructor

theorem takeUnknown_events (kind tag : Nat) (s : State) : Events s (takeUnknown kind tag s) := by
  have h4 : Config.pendingLimit = 4 := rfl
  have h5 : Config.busyLimit = 4 := rfl
  unfold takeUnknown
  split
  · exact .refl s
  split
  · exact huntControl_events s
  split
  · split
    · next hb =>
      refine .trans (huntControl_events s) (reply_events _ nofun fun _ => ?_)
      show s.control.busyWaiting.length < 4
      omega
    · exact huntControl_events s
  · next hl =>
    refine .trans (huntControl_events s) (reply_events _ (fun _ => ?_) nofun)
    show s.control.listed.length < 4
    omega

theorem exec_request_events {c : Instr} {kind tag : Nat} (hr : c.request? = some (kind, tag)) (s : State) :
    ∃ t, exec c s = .next t ∧ Events s t := by
  obtain rfl | ⟨α, body, serve, he, -, ha⟩ := request_form hr
  · exact ⟨_, rfl, takeUnknown_events kind tag s⟩
  · exact ⟨_, he s, takeRequest_events (fun a hb u => (ha a hb).changes u) s⟩

/-! ### Lines -/

/-- A frame found among received bytes is taken as the request that it decodes to, or has no effect. -/
theorem takeControlFrame_request (s : State) (f : Frame) : takeControlFrame s f = s ∨
    ((decodeControl f).request? ≠ none ∧ exec (decodeControl f) s = .next (takeControlFrame s f)) := by
  unfold takeControlFrame
  generalize decodeControl f = c
  cases c
  case controlFrameDiscarded | controlFrameGapTimeout | replyTransmitted | noticeTransmitted | report | orderAck
      | fieldFrameDiscarded | fieldFrameGapTimeout | fieldOrderFrameSent | powerOn | resetAssert | resetRelease
      | gapTimerExpiry | silenceExpiry | ventTimerExpiry | rechargeTimerExpiry | customerMinute | deadlineExpiry
      | stationUnavailableExpiry | acknowledgementExpiry | strokeExpiry | planCompletion | saveCompletion
      | boardSupplyFailure =>
    exact .inl rfl
  all_goals exact .inr ⟨nofun, rfl⟩

theorem takeControlFrame_events (s : State) (f : Frame) : Events s (takeControlFrame s f) := by
  obtain h | ⟨hr, he⟩ := takeControlFrame_request s f
  · rw [h]
    exact .refl s
  · obtain ⟨⟨kind, tag⟩, hk⟩ := Option.ne_none_iff_exists'.mp hr
    obtain ⟨t, ht, h⟩ := exec_request_events hk s
    rw [he] at ht
    cases ht
    exact h

theorem controlBytes_events (bytes : List Byte) (s : State) : Events s (controlBytes bytes s) :=
  .step (.foldl takeControlFrame_events _ s) (.receiver _ _)

theorem huntField_events (s : State) : Events s (huntField s) := silent_events (.one (.field _)) rfl

theorem takeReport_events (a : Nat) (body : Body ReportArgs) (s : State) : Events s (takeReport a body s) := by
  unfold takeReport
  split
  · exact .refl s
  · split
    · split
      · exact own_events (reportEvent_changes _ _ _ _) s
      · exact .refl s
    · exact .refl s

theorem State.flightOf?_mem {s : State} {a : Nat} {o : Order} (h : s.flightOf? a = some o) :
    o ∈ s.elements.queue ∧ o.inFlight = true ∧ s.stationOf o = a := by
  have := List.find?_some h
  simp only [Bool.and_eq_true, decide_eq_true_eq] at this
  exact ⟨List.mem_of_find?_eq_some h, this.1, this.2⟩

theorem endOrder_events (o : Order) (x : OrderOutcome) (s : State) :
    Events s (ownEvent (endOrder (hooksTop .plain) o x) s) := own_events (endOrder_changes (lawful_top .plain) o x) s

theorem takeAck_events (tag a : Nat) (body : Body AckArgs) (s : State) : Events s (takeAck tag a body s) := by
  unfold takeAck
  split
  · exact .refl s
  · split
    · next o _ _ hf =>
      split
      · unfold verdictEvent
        obtain ⟨hm, hi, -⟩ := State.flightOf?_mem hf
        split
        · split
          · exact silent_events (acknowledge_changes hm hi) rfl
          · exact endOrder_events _ _ s
        · exact .refl s
      · exact .refl s
    · exact .refl s

theorem takeFieldFrame_events (s : State) (f : Frame) : Events s (takeFieldFrame s f) := by
  unfold takeFieldFrame
  split
  · exact takeReport_events _ _ s
  · exact takeAck_events _ _ _ s
  · exact .refl s

theorem fieldBytes_events (bytes : List Byte) (s : State) : Events s (fieldBytes bytes s) :=
  .trans (.foldl takeFieldFrame_events _ s) (silent_events (.one (.field _)) rfl)

theorem sendFrame_events (s : State) : Events s (sendFrame s) := by
  unfold sendFrame
  split
  · exact .refl s
  · exact silent_events (.one (.field _)) rfl

theorem replySent_events (s : State) : Events s (replySent s) := by
  unfold replySent
  split
  · next b w rest hl hr =>
    split
    · exact .one (.restart _)
    · exact .one (.sent b w rest hl hr)
  · exact .refl s

theorem noticeSent_events (s : State) : Events s (noticeSent s) := by
  unfold noticeSent
  split
  · exact .refl s
  · next h => exact .one (.take (by simp [h]))
  · next h => exact .one (.take (by simp [h]))

/-! ### Power -/

/-- A SAVE that ends where it stands leaves the store broken and nothing to copy (R177). -/
theorem breakSave_events (s : State) : Events s (breakSave s) := by
  unfold breakSave
  split
  · exact silent_events (.one (.store _ nofun nofun)) rfl
  · exact .refl s

theorem hold_events (cause : RestartCause) (s : State) : Events s (hold cause s) :=
  .step (breakSave_events s) (.clock _ _ _ _)

theorem powerUp_events (s : State) : Events s (powerUp s) := by
  unfold powerUp
  split
  · exact hold_events _ s
  · exact .one (.restart _)

theorem assertReset_events (s : State) : Events s (assertReset s) := by
  have pinned : Events s { s with resetPin := true } := .one (.clock _ _ _ _)
  unfold assertReset
  dsimp only
  split
  · exact pinned.trans (hold_events _ _)
  · exact pinned

theorem releaseReset_events (s : State) : Events s (releaseReset s) := by
  have pinned : Events s { s with resetPin := false } := .one (.clock _ _ _ _)
  unfold releaseReset
  dsimp only
  split
  · exact pinned.step (.restart _)
  all_goals exact pinned

theorem supplyFails_events (s : State) : Events s (supplyFails s) := .step (breakSave_events s) (.clock _ _ _ _)

/-! ### Timers -/

theorem gapExpiry_events (s : State) : Events s (gapExpiry s) := by
  unfold gapExpiry
  split
  · split
    · exact .trans (silent_events (setStandby_changes (x := .empty) (by simp) s) rfl) (own_events (passNotice_changes _) _)
    · exact .refl s
  all_goals exact .refl s

theorem silenceExpiry_events (a : Nat) (s : State) : Events s (silenceExpiry a s) := by
  unfold silenceExpiry
  split
  · exact own_events (silenceEvent_changes a) s
  · exact .refl s

theorem ventTimer_events (n : Nat) (s : State) : Events s (ventTimer n s) := by
  unfold ventTimer ventExpiry
  split
  · split
    · exact .refl s
    · next x hx =>
      split
      · next hc => exact .one (.own _ fun _ => becomeDepressurized_changes (recordPassTop_changes .plain) hx hc.1)
      · refine silent_events (updSeg_changes ?_ s) rfl
        exact fun _ => ⟨rfl, rfl⟩
  · exact .refl s

theorem rechargeTimer_events (n : Nat) (s : State) : Events s (rechargeTimer n s) := by
  unfold rechargeTimer rechargeExpiry
  split
  · split
    · exact .refl s
    · next x hx =>
      split
      · next hc => exact .one (.own _ fun _ => becomeLive_changes (recordPassTop_changes .plain) hx hc.1)
      · refine silent_events (updSeg_changes ?_ s) rfl
        exact fun _ => ⟨rfl, rfl⟩
  · exact .refl s

theorem customerMinute_events (n : Nat) (s : State) : Events s (customerMinute n s) := by
  unfold customerMinute
  split
  · exact silent_events (.one (.outage n outageMinute fun _ h => h)) rfl
  · exact .refl s

theorem deadlineExpiry_events (n : Nat) (s : State) : Events s (deadlineExpiry n s) := by
  unfold deadlineExpiry
  split
  · exact .refl s
  · next i hi =>
    split
    · exact .one (.own _ fun _ => setIncident_changes (State.incident?_mem hi).1
        (incidentKept_of_eq rfl rfl rfl rfl rfl rfl))
    · exact .refl s

theorem unavailableExpiry_events (n : Nat) (s : State) : Events s (unavailableExpiry n s) := by
  unfold unavailableExpiry
  split
  · exact .refl s
  · split
    · exact endOrder_events _ _ s
    · exact .refl s

theorem handFrame_control (o : Order) (tag : Nat) (s : State) : (handFrame o tag s).control = s.control := by
  rw [handFrame_frame]

theorem ackExpiry_events (n : Nat) (s : State) : Events s (ackExpiry n s) := by
  unfold ackExpiry ackExpired
  split
  · exact .refl s
  · next o _ =>
    split
    · split
      · exact endOrder_events _ _ s
      · split
        · exact endOrder_events _ _ s
        · exact silent_events (resendOrder_changes o s) (handFrame_control _ _ _)
    · exact .refl s

theorem strokeExpiry_events (n : Nat) (s : State) : Events s (strokeExpiry n s) := by
  unfold strokeExpiry
  split
  · exact .refl s
  · split
    · exact own_events (fun u => (strokeMark_changes _ u).trans (endOrder_changes (lawful_top .plain) _ _ _)) s
    · exact .refl s

theorem completePlan_events (s : State) : Events s (completePlan s) := by
  unfold completePlan
  split
  · split
    · exact own_events (holdPlan_changes _) s
    · exact .refl s
  · exact .refl s

theorem completeSave_events (good : Bool) (s : State) : Events s (completeSave good s) := by
  unfold completeSave
  split
  · exact .refl s
  · next c hc =>
    refine Events.trans ?_ (own_events (passNotice_changes _) _)
    refine silent_events (.one (.store _ ?_ ?_)) rfl
    · intro d k hd
      cases good
      · cases hd
      · cases hd
        exact .inr ⟨c, hc, rfl⟩
    · exact nofun

/-! ### Commands and steps -/

/-- A command that acts on a running part alone. -/
theorem running_events {f : State → State} (hf : ∀ s, Events s (f s)) (s : State) (b : Bool) :
    Events s (if b then f s else s) := by
  split
  · exact hf s
  · exact .refl s

/-- Every command is carried out as a run of events. -/
theorem exec_events (c : Instr) (s : State) : ∃ t, exec c s = .next t ∧ Events s t := by
  cases hr : c.request? with
  | some x => exact exec_request_events (kind := x.1) (tag := x.2) hr s
  | none =>
    cases c
    case controlFrameDiscarded bytes => exact ⟨_, rfl, running_events (controlBytes_events bytes) s _⟩
    case controlFrameGapTimeout => exact ⟨_, rfl, running_events huntControl_events s _⟩
    case replyTransmitted => exact ⟨_, rfl, running_events replySent_events s _⟩
    case noticeTransmitted => exact ⟨_, rfl, running_events noticeSent_events s _⟩
    case report _ a b =>
      exact ⟨_, rfl, running_events (fun u => (huntField_events u).trans (takeReport_events a b _)) s _⟩
    case orderAck t a b =>
      exact ⟨_, rfl, running_events (fun u => (huntField_events u).trans (takeAck_events t a b _)) s _⟩
    case fieldFrameDiscarded bytes => exact ⟨_, rfl, running_events (fieldBytes_events bytes) s _⟩
    case fieldFrameGapTimeout => exact ⟨_, rfl, running_events huntField_events s _⟩
    case fieldOrderFrameSent => exact ⟨_, rfl, running_events sendFrame_events s _⟩
    case powerOn => exact ⟨_, rfl, powerUp_events s⟩
    case resetAssert => exact ⟨_, rfl, assertReset_events s⟩
    case resetRelease => exact ⟨_, rfl, releaseReset_events s⟩
    case boardSupplyFailure => exact ⟨_, rfl, supplyFails_events s⟩
    case gapTimerExpiry => exact ⟨_, rfl, running_events gapExpiry_events s _⟩
    case silenceExpiry a => exact ⟨_, rfl, running_events (silenceExpiry_events a) s _⟩
    case ventTimerExpiry n => exact ⟨_, rfl, running_events (ventTimer_events n) s _⟩
    case rechargeTimerExpiry n => exact ⟨_, rfl, running_events (rechargeTimer_events n) s _⟩
    case customerMinute n => exact ⟨_, rfl, running_events (customerMinute_events n) s _⟩
    case deadlineExpiry n => exact ⟨_, rfl, running_events (deadlineExpiry_events n) s _⟩
    case stationUnavailableExpiry n => exact ⟨_, rfl, running_events (unavailableExpiry_events n) s _⟩
    case acknowledgementExpiry n => exact ⟨_, rfl, running_events (ackExpiry_events n) s _⟩
    case strokeExpiry n => exact ⟨_, rfl, running_events (strokeExpiry_events n) s _⟩
    case planCompletion => exact ⟨_, rfl, running_events completePlan_events s _⟩
    case saveCompletion good => exact ⟨_, rfl, running_events (completeSave_events good) s _⟩
    all_goals cases hr

theorem tick_events (s : State) : Events s (tick s) := by
  unfold tick
  split
  · exact .one (.clock _ _ _ _)
  · exact .one (.clock _ _ _ _)

/-- A property that reads the queue of commands nowhere, and that every event keeps, is kept by every step. -/
theorem step_keeps {P : State → Prop} (hq : ∀ s q, P s → P { s with pending := q })
    (hE : ∀ s t, Event s t → P s → P t) {s t : State} (hs : P s) (h : step s = .next t) : P t := by
  unfold step at h
  split at h
  · cases h
    unfold idleStep
    split
    · exact hs
    · split
      · exact (tick_events s).keeps hE hs
      · next c _ =>
        exact Events.keeps hE (.one (.clock s.partTime (s.drawn + 1) s.power s.resetPin)) (hq s [c] hs)
  · next c rest _ =>
    obtain ⟨u, hu, he⟩ := exec_events c { s with pending := rest }
    rw [hu] at h
    cases h
    exact he.keeps hE (hq s rest hs)

/-- A property of the blocks besides the Control Port is kept by every event where every small change keeps it, a restart
keeps it, and it reads neither the clock nor the power. -/
theorem Event.keeps_of_changes {P : State → Prop} (hc : ∀ s c, P s → P { s with control := c })
    (ht : ∀ s now drawn power pin, P s → P { s with partTime := now, drawn := drawn, power := power, resetPin := pin })
    (hP : ∀ s t, Change s t → P s → P t) (hr : ∀ cause s, P s → P (Machine.restart cause s)) {s t : State} (he : Event s t)
    (hs : P s) : P t := by
  have event : ∀ f s, (∀ c, Changes { s with control := c } (f { s with control := c })) → P s → P (inEvent f s) := by
    intro f s hf hs
    unfold inEvent
    split
    · exact (hf s.control).keeps hP hs
    · unfold closeEvent
      have opened : P (f (openEvent s)) := (hf _).keeps hP (hc s _ hs)
      split
      · rw [passNotices_frame]
        exact hc _ _ (hc _ _ opened)
      · exact opened
  have line : ∀ s, P s → P (startLine s) := by
    intro s hs
    obtain ⟨_, _, he⟩ := startLine_frame s
    rw [he]
    exact hc s _ hs
  have taken : ∀ s, P s → P (takeNext s) := by
    intro s hs
    obtain ⟨_, _, he⟩ := takeNext_frame s
    rw [he]
    exact hc s _ hs
  cases he with
  | receiver => exact hc s _ hs
  | silent h _ => exact h.keeps hP hs
  | own f h => exact line _ (event f s h hs)
  | answer w f _ _ h => exact line _ (hc _ _ (event f s h hs))
  | take => exact taken s hs
  | sent => exact taken _ (hc s _ hs)
  | restart cause => exact hr cause s hs
  | clock => exact ht s _ _ _ _ hs

/-- A property of the blocks besides the Control Port is kept by every step where every small change keeps it, a restart
keeps it, and it reads neither the clock nor the power. -/
theorem step_keeps_of_changes {P : State → Prop} (hc : ∀ s c, P s → P { s with control := c })
    (hq : ∀ s q, P s → P { s with pending := q })
    (ht : ∀ s now drawn power pin, P s → P { s with partTime := now, drawn := drawn, power := power, resetPin := pin })
    (hP : ∀ s t, Change s t → P s → P t) (hr : ∀ cause s, P s → P (restart cause s)) {s t : State} (hs : P s)
    (h : step s = .next t) : P t :=
  step_keeps hq (fun _ _ he hs => he.keeps_of_changes hc ht hP hr hs) hs h

end Sys2Proof.Machine

/-! SUPPORT. The bounds of the Control Port's queues at every step (R169, R171, R172). -/

namespace Sys2Proof.Machine

/-! ### What small changes tell -/

theorem Change.tells {s t : State} (h : Change s t) : Tells s.control t.control := by
  cases h
  case control c hc => exact hc
  case created make i segment _ _ hc =>
    rw [createIncident_frame _ _ _ _ hc]
    exact Tells.refl _
  all_goals exact Tells.refl _

theorem Changes.tells {s t : State} (h : Changes s t) : Tells s.control t.control :=
  h.keeps (P := fun u => Tells s.control u.control) (fun _ _ hc hu => hu.trans hc.tells) (Tells.refl _)

/-! ### Bounds -/

/-- The bounds of the Control Port between events, whatever the line does (R169, R172). -/
structure PortHeld (c : ControlPort) : Prop where
  listed : c.listed.length ≤ 4
  busy : c.busyWaiting.length ≤ 4
  notices : c.notices.length ≤ 64
  number : c.nextNotice < 65536
  gathered : c.gathered = none

theorem PortBounded.held {s : State} (h : PortBounded s) : PortHeld s.control :=
  ⟨h.listed, h.busy, h.notices, h.number, h.gathered⟩

/-- A queued notice keeps the bounds of the notice queue and its numbers (R172). -/
theorem passNotice_held {b : NoticeBody} {s : State} (h : PortHeld s.control) : PortHeld (passNotice b s).control := by
  by_cases hs : b.cls ∈ s.control.subscribed
  · rw [passNotice_queued hs h.gathered]
    unfold queueNotice
    have number : (s.control.nextNotice + 1) % 65536 < 65536 := Nat.mod_lt _ (by decide)
    dsimp only
    split
    · exact ⟨h.listed, h.busy, h.notices, number, h.gathered⟩
    · next hn =>
      refine ⟨h.listed, h.busy, ?_, number, h.gathered⟩
      have : Config.noticeLimit = 64 := rfl
      simp only [List.length_append, List.length_cons, List.length_nil]
      omega
  · rw [passNotice_dropped hs]
    exact h

theorem passNotices_held {l : List NoticeBody} {s : State} (h : PortHeld s.control) :
    PortHeld (passNotices l s).control := by
  induction l generalizing s with
  | nil => exact h
  | cons b l ih => exact ih (passNotice_held h)

/-- An event keeps the bounds, the reply order and the line. -/
theorem inEvent_held {f : State → State} {s : State} (hf : Tells (openEvent s).control (f (openEvent s)).control)
    (h : PortHeld s.control) : PortHeld (inEvent f s).control ∧
      (inEvent f s).control.replies = s.control.replies ∧ (inEvent f s).control.line = s.control.line := by
  obtain ⟨l, sub, o, hc⟩ := hf [] rfl
  have hi : inEvent f s = passNotices l { f (openEvent s) with control :=
      { s.control with gathered := none, subscribed := sub, overrun := o } } := by
    simp only [inEvent, h.gathered, closeEvent, hc]
    rfl
  rw [hi]
  exact ⟨passNotices_held ⟨h.listed, h.busy, h.notices, h.number, rfl⟩, by simp, by simp⟩

/-- After the transmitter has had its turn the port is settled (R171). -/
theorem takeNext_port {s : State} (h : PortHeld s.control) : PortBounded (takeNext s) := by
  obtain ⟨settled, reply⟩ := takeNext_settled s
  have held : PortHeld (takeNext s).control := by
    unfold takeNext
    split
    · exact ⟨h.listed, h.busy, h.notices, h.number, h.gathered⟩
    · split
      · next n ns hn =>
        have shorter := h.notices
        rw [hn, List.length_cons] at shorter
        exact ⟨h.listed, h.busy, by dsimp only; omega, h.number, h.gathered⟩
      · exact ⟨h.listed, h.busy, h.notices, h.number, h.gathered⟩
  exact ⟨held.listed, held.busy, held.notices, held.number, held.gathered, settled, reply⟩

/-- A reply on the line is the oldest of the reply order (R171). -/
def ReplyInOrder (c : ControlPort) : Prop :=
  ∀ frame, c.line = .reply frame → ∃ w rest, c.replies = w :: rest ∧ frame = Wire.replyFrame w

theorem startLine_port {s : State} (h : PortHeld s.control) (hr : ReplyInOrder s.control) : PortBounded (startLine s) := by
  unfold startLine
  split
  · exact takeNext_port h
  · next hl => exact ⟨h.listed, h.busy, h.notices, h.number, h.gathered, fun hf => absurd hf hl, hr⟩

/-- A reply pushed where its list has room keeps the bounds (R169). -/
theorem pushReply_port {w : Waiting} {s : State} (h : PortHeld s.control) (hr : ReplyInOrder s.control)
    (hl : w.listed = true → s.control.listed.length < 4) (hb : w.listed = false → s.control.busyWaiting.length < 4) :
    PortBounded (pushReply w s) := by
  refine startLine_port ?_ fun frame hf => ?_
  · have listed := h.listed
    have busy := h.busy
    refine ⟨?_, ?_, h.notices, h.number, h.gathered⟩
    · cases hw : w.listed <;> simp_all [ControlPort.listed]
    · cases hw : w.listed <;> simp_all [ControlPort.busyWaiting]
  · obtain ⟨v, rest, he, hv⟩ := hr frame hf
    exact ⟨v, rest ++ [w], by simp [he], hv⟩

/-- A restart leaves the port with its STARTED notice alone (R179). -/
theorem restart_port (cause : RestartCause) (s : State) : PortBounded (restart cause s) := by
  have event : ∀ u : State, PortHeld u.control → u.control.line = .free →
      PortBounded (ownEvent (fun s => recompute none 0 id (passNotice (startedNotice s) s)) u) := by
    intro u hu hl
    obtain ⟨held, hr, hline⟩ := inEvent_held (f := fun s => recompute none 0 id (passNotice (startedNotice s) s))
      (recompute_keeps (P := fun v => Tells (openEvent u).control v.control) none 0 id (fun _ h => h)
        (fun v m h => h.trans (moveNotice_changes v m).tells) (fun v l h => h.trans (supplyLoss_changes l 0 v).tells) _
        (tells_passNotice _ (openEvent u))) hu
    refine startLine_port held fun frame hf => ?_
    rw [hline, hl] at hf
    cases hf
  have erased : PortHeld (erase cause s).control := by constructor <;> simp [erase, ControlPort.listed, ControlPort.busyWaiting]
  unfold restart
  dsimp only
  split
  · exact event _ erased rfl
  · exact event _ erased rfl

/-- Every event keeps the bounds of the port. -/
theorem Event.keeps_port {s t : State} (he : Event s t) (h : PortBounded s) : PortBounded t := by
  cases he with
  | receiver => exact ⟨h.listed, h.busy, h.notices, h.number, h.gathered, h.settled, h.reply⟩
  | silent _ hc =>
    constructor <;> rw [hc]
    · exact h.listed
    · exact h.busy
    · exact h.notices
    · exact h.number
    · exact h.gathered
    · exact h.settled
    · exact h.reply
  | own f hf =>
    obtain ⟨held, hr, hl⟩ := inEvent_held (hf _).tells h.held
    exact startLine_port held (by unfold ReplyInOrder; rw [hr, hl]; exact h.reply)
  | answer w f hw hb hf =>
    obtain ⟨held, hr, hl⟩ := inEvent_held (hf _).tells h.held
    refine pushReply_port held (by unfold ReplyInOrder; rw [hr, hl]; exact h.reply) ?_ ?_
    · rwa [ControlPort.listed, hr]
    · rwa [ControlPort.busyWaiting, hr]
  | take => exact takeNext_port h.held
  | sent b w rest hl hr =>
    refine takeNext_port ⟨?_, ?_, h.notices, h.number, h.gathered⟩
    · refine le_trans (List.Sublist.length_le ?_) h.listed
      simp only [ControlPort.listed, hr]
      exact (List.sublist_cons_self w rest).filter _
    · refine le_trans (List.Sublist.length_le ?_) h.busy
      simp only [ControlPort.busyWaiting, hr]
      exact (List.sublist_cons_self w rest).filter _
  | restart cause => exact restart_port cause s
  | clock => exact ⟨h.listed, h.busy, h.notices, h.number, h.gathered, h.settled, h.reply⟩

/-- Settles O15: every event keeps the bounds; its notices are queued within theirs, and the line's take at its end leaves
nothing waiting beside a free line. -/
theorem portBoundsAreKeptByEveryStep : Obligations.PortBoundsAreKeptByEveryStep := fun _ _ hs h =>
  step_keeps (P := PortBounded)
    (fun _ _ h => ⟨h.listed, h.busy, h.notices, h.number, h.gathered, h.settled, h.reply⟩)
    (fun _ _ he h => he.keeps_port h) hs h

end Sys2Proof.Machine

/-! SUPPORT. What validation grants an image (R8), what a restart installs (R179), and O33, the pressures in their range. -/

namespace Sys2Proof.Machine

/-! ### Validation (R8) -/

/-- Validation passes exactly the records of which each passes its checks beside those before it. -/
theorem validateFrom_eq_none_iff (all earlier l : List RawRecord) : validateFrom all earlier l = none ↔
    ∀ a r b, l = a ++ r :: b → recordFault all (earlier ++ a) r = none := by
  induction l generalizing earlier with
  | nil => simp [validateFrom]
  | cons x l ih =>
    unfold validateFrom
    split
    · next f hf =>
      refine ⟨nofun, fun h => ?_⟩
      have := h [] x l rfl
      simp [hf] at this
    · next hf =>
      rw [ih]
      constructor
      · intro h a r b hl
        cases a with
        | nil =>
          cases hl
          simpa using hf
        | cons y a =>
          cases hl
          simpa using h a r b rfl
      · intro h a r b hl
        simpa using h (x :: a) r b (by rw [hl]; rfl)

theorem validate_eq_none_iff (l : List RawRecord) :
    validate l = none ↔ ∀ a r b, l = a ++ r :: b → recordFault l a r = none := validateFrom_eq_none_iff l [] l

/-- Every record of a validated list passes its own checks. -/
theorem recordFault_of_validate {l : List RawRecord} (h : validate l = none) {r : RawRecord} (hr : r ∈ l) :
    ∃ a, recordFault l a r = none := by
  obtain ⟨a, b, hl⟩ := List.append_of_mem hr
  exact ⟨a, (validate_eq_none_iff l).mp h a r b hl⟩

/-- The range of a validated point is in order (R8 SPAN). -/
theorem span_of_recordFault {all earlier : List RawRecord} {p : RawPoint} (h : recordFault all earlier (.point p) = none) :
    p.pl ≤ p.ph := by
  have hs : ((p.ph ≤ p.pl || p.ph - p.pl < 100 || 1000000 < p.ph : Bool)) = false := by
    simp only [recordFault, Option.map_eq_none_iff, List.find?_eq_none] at h
    simpa using h (p.ph ≤ p.pl || p.ph - p.pl < 100 || 1000000 < p.ph, .span) (by simp)
  simp at hs
  omega

/-- A validated record repeats no number of its kind (R8 REPEATED_NUMBER). -/
theorem fresh_of_recordFault {all earlier : List RawRecord} {r : RawRecord} (h : recordFault all earlier r = none) :
    ∀ x ∈ earlier, x.kind = r.kind → x.number ≠ r.number := by
  have hs : (earlier.any fun x => x.kind = r.kind && x.number = r.number) = false := by
    simp only [recordFault, Option.map_eq_none_iff, List.find?_eq_none] at h
    simpa using h (earlier.any fun x => x.kind = r.kind && x.number = r.number, .repeatedNumber) (by simp)
  intro x hx hk hn
  simpa [hk, hn] using List.any_eq_false.mp hs x hx

/-- Validated records of one kind have different numbers. -/
theorem pairwise_of_validate {l : List RawRecord} (h : validate l = none) :
    l.Pairwise fun x y => x.kind = y.kind → x.number ≠ y.number := by
  rw [List.pairwise_iff_forall_sublist]
  intro x y hxy
  obtain ⟨a, b, hl, ha, hb⟩ := List.cons_sublist_iff.mp hxy
  obtain ⟨c, d, hc⟩ := List.append_of_mem (List.singleton_sublist.mp hb)
  have hf := (validate_eq_none_iff l).mp h (a ++ c) y d (by rw [hl, hc, List.append_assoc])
  exact fresh_of_recordFault hf x (List.mem_append_left _ ha)

/-- The points of a made image come from its point records. -/
theorem Image.ofRaw_ranged {n : Nat} {l : List RawRecord} (h : validate l = none) : (Image.ofRaw n l).ranged := by
  intro t ht
  obtain ⟨r, hr, he⟩ := List.mem_filterMap.mp ((sortBy_perm _ _).mem_iff.mp ht)
  cases r with
  | point p =>
    obtain ⟨a, hf⟩ := recordFault_of_validate h hr
    cases he
    exact span_of_recordFault hf
  | segment | element | station => cases he

theorem Image.ranged_of_raw {img : Image} (h : validate img.raw = none) : img.ranged := by
  intro t ht
  obtain ⟨a, hf⟩ := recordFault_of_validate h (r := .point t.raw)
    (List.mem_append_left _ (List.mem_append_right _ (List.mem_map_of_mem ht)))
  exact span_of_recordFault hf

/-- Numbers that a projection of validated records yields are different. -/
theorem nodup_of_validate {α : Type} {l : List RawRecord} (h : validate l = none) {f : RawRecord → Option α}
    {number : α → Nat} {k : RecordKind} (hf : ∀ r x, f r = some x → r.kind = k ∧ number x = r.number) :
    ((l.filterMap f).map number).Nodup := by
  rw [List.Nodup, List.pairwise_map]
  refine List.Pairwise.filterMap f ?_ (pairwise_of_validate h)
  intro r r' hr x hx y hy
  obtain ⟨hk, hn⟩ := hf r x hx
  obtain ⟨hk', hn'⟩ := hf r' y hy
  rw [hn, hn']
  exact hr (hk.trans hk'.symm)

theorem Image.ofRaw_distinct {n : Nat} {l : List RawRecord} (h : validate l = none) :
    NumbersDistinct (Image.ofRaw n l) where
  segments := by
    refine (((sortBy_perm _ _).map _).nodup_iff).mpr (nodup_of_validate (k := .segment) h fun r x hx => ?_)
    cases r with
    | segment s =>
      cases hx
      exact ⟨rfl, rfl⟩
    | element | point | station => cases hx
  elements := by
    refine (((sortBy_perm _ _).map _).nodup_iff).mpr (nodup_of_validate (k := .element) h fun r x hx => ?_)
    cases r with
    | element e =>
      dsimp only [Element.ofRaw] at hx
      split at hx
      · cases hx
        exact ⟨rfl, rfl⟩
      · cases hx
    | segment | point | station => cases hx

theorem Image.distinct_of_raw {img : Image} (h : validate img.raw = none) : NumbersDistinct img := by
  have hp := pairwise_of_validate h
  rw [Image.raw, List.append_assoc, List.append_assoc, List.pairwise_append, List.pairwise_append] at hp
  obtain ⟨hs, ⟨he, -⟩, -⟩ := hp
  constructor
  · rw [List.Nodup, List.pairwise_map]
    exact (List.pairwise_map.mp hs).imp fun hne => hne rfl
  · rw [List.Nodup, List.pairwise_map]
    exact (List.pairwise_map.mp he).imp fun hne => hne rfl

/-! ### Restart (R179) -/

/-- The part as a restart has erased it and installed its store, before STARTED and the recompute (R179 steps 1 to 3). -/
def installed (cause : RestartCause) (s : State) : State :=
  let u := { erase cause s with
    store := { (erase cause s).store with result := (loadStore (erase cause s).store.stored).1 } }
  match (loadStore (erase cause s).store.stored).2 with
  | some c => installImage c u
  | none => u

theorem restart_eq (cause : RestartCause) (s : State) : restart cause s =
    ownEvent (fun s => recompute none 0 id (passNotice (startedNotice s) s)) (installed cause s) := rfl

/-- What the store leaves to install is what was written in it, validated. -/
theorem loadStore_some {x : Stored} {c : StoreContents} (h : (loadStore x).2 = some c) :
    (∃ k, x = .written c k) ∧ validate c.image.raw = none := by
  unfold loadStore at h
  split at h
  · cases h
  · cases h
  · split at h
    · cases h
    · split at h
      · cases h
      · next hv =>
        cases h
        exact ⟨⟨_, rfl⟩, hv⟩

/-- Two shapes of the installed part: nothing was loaded, or validated contents were. -/
theorem installed_cases (cause : RestartCause) (s : State) :
    (∃ result, installed cause s = { erase cause s with store := { (erase cause s).store with result := result } }) ∨
    ∃ c k result, (erase cause s).store.stored = .written c k ∧ validate c.image.raw = none ∧
      installed cause s = installImage c { erase cause s with store := { (erase cause s).store with result := result } } := by
  unfold installed
  dsimp only
  split
  · next c hc =>
    obtain ⟨⟨k, hk⟩, hv⟩ := loadStore_some hc
    exact .inr ⟨c, k, _, hk, hv, rfl⟩
  · exact .inl ⟨_, rfl⟩

/-- A store that holds contents after a restart held them before it. -/
theorem erase_stored {cause : RestartCause} {s : State} {c : StoreContents} {k : BitVec 32}
    (h : (erase cause s).store.stored = .written c k) : s.store.stored = .written c k := by
  simp only [erase, breakSave] at h
  split at h
  · cases h
  · exact h

/-- A property that reads nothing of the Control Port and that every small change keeps holds after a restart where it holds
of the installed part with its recomputed tables. -/
theorem restart_keeps {P : State → Prop} (hc : ∀ s c, P s → P { s with control := c })
    (hP : ∀ s t, Change s t → P s → P t) {cause : RestartCause} {s : State}
    (h : P (recomputeTables none 0 (installed cause s))) : P (restart cause s) := by
  rw [restart_eq, ownEvent]
  obtain ⟨_, _, hl⟩ := startLine_frame
    (inEvent (fun s => recompute none 0 id (passNotice (startedNotice s) s)) (installed cause s))
  rw [hl]
  refine hc _ _ ?_
  have run : ∀ c, P (recompute none 0 id
      (passNotice (startedNotice { installed cause s with control := c }) { installed cause s with control := c })) := by
    intro c
    refine recompute_keeps (P := P) none 0 id (fun _ h => h) (fun u m h => (moveNotice_changes u m).keeps hP h)
      (fun u l h => (supplyLoss_changes l 0 u).keeps hP h) _ ?_
    rw [passNotice_frame]
    exact hc _ _ h
  unfold inEvent
  split
  · exact run (installed cause s).control
  · have opened := run { (installed cause s).control with gathered := some [] }
    unfold closeEvent
    split
    · rw [passNotices_frame]
      exact hc _ _ (hc _ _ opened)
    · exact opened

/-! ### O33: the pressures -/

/-- The point records are sound: the parts of `PressuresSound` that speak of them, record by record. -/
theorem PressuresSound.point {s : State} (h : PressuresSound s) : ∀ r ∈ s.points, r.Sound :=
  fun r hr => ⟨h.range r hr, h.weight r hr, h.p r hr, h.f r hr⟩

/-- A change of the point records alone, each sound. -/
theorem PressuresSound.of_points {s t : State} (h : PressuresSound s) (hs : t.net.standby = s.net.standby)
    (hx : t.store = s.store) (hp : ∀ r ∈ t.points, r.Sound) : PressuresSound t where
  range r hr := (hp r hr).range
  weight r hr := (hp r hr).weight
  p r hr := (hp r hr).p
  f r hr := (hp r hr).f
  complete := hs ▸ h.complete
  pending := hs ▸ h.pending
  stored := hx ▸ h.stored
  saving := hx ▸ h.saving

/-- A change that reaches neither the points, nor the standby image, nor the store. -/
theorem PressuresSound.congr {s t : State} (h : PressuresSound s) (hp : t.points = s.points)
    (hs : t.net.standby = s.net.standby) (hx : t.store = s.store) : PressuresSound t :=
  h.of_points hs hx (hp ▸ h.point)

theorem PointRec.fresh_sound {t : Point} (h : t.pl ≤ t.ph) : (PointRec.fresh t).Sound :=
  ⟨h, ⟨show 1 ≤ 16 by decide, show 16 ≤ 16 by decide⟩, nofun, nofun⟩

theorem carryPoint_sound {old : Option Image} {l : List PointRec} {t : Point} (hl : ∀ r ∈ l, r.Sound)
    (ht : t.pl ≤ t.ph) : (carryPoint old l t).Sound := by
  unfold carryPoint
  split
  · next r hr =>
    split
    · exact hl r (List.mem_of_find?_eq_some hr)
    · exact PointRec.fresh_sound ht
  · exact PointRec.fresh_sound ht

theorem staleCarried_sound {stations : List Station} {t : Point} {r : PointRec} (h : r.Sound) :
    (staleCarried stations t r).Sound := by
  unfold staleCarried
  split
  · exact h
  · exact staleOf_sound h

theorem installPoint_sound {c : StoreContents} {t : Point} (hc : c.weighted) (ht : t.pl ≤ t.ph) :
    (installPoint c.settings t).Sound := by
  unfold installPoint
  split
  · next x hx => exact ⟨ht, hc x (List.mem_of_find?_eq_some hx), nofun, nofun⟩
  · exact PointRec.fresh_sound ht

theorem saveContents_weighted {s : State} (h : PressuresSound s) (img : Image) : (saveContents img s).weighted := by
  intro x hx
  obtain ⟨r, hr, rfl⟩ := List.mem_map.mp hx
  exact h.weight r hr

/-- An image that the standby image may become is in range where the standby image is. -/
theorem StandbyImage.ranged {s : State} {img : Image} (h : StandbyImage s img) (hs : PressuresSound s) : img.ranged := by
  rcases h with h | h | ⟨n, l, rfl, hv⟩
  · exact hs.complete img h
  · exact hs.pending img h
  · exact Image.ofRaw_ranged hv

theorem Change.keeps_pressures {s t : State} (hc : Change s t) (h : PressuresSound s) : PressuresSound t := by
  cases hc with
  | standby x hx =>
    exact
      { range := h.range, weight := h.weight, p := h.p, f := h.f, stored := h.stored, saving := h.saving
        complete := fun img hi => (hx img (.inl hi)).ranged h
        pending := fun img hi => (hx img (.inr hi)).ranged h }
  | activation img hi _ _ =>
    have hr : img.ranged := hi.elim (h.complete img) (h.pending img)
    refine h.of_points rfl rfl fun r hm => ?_
    obtain ⟨x, hx, rfl⟩ := List.mem_map.mp hm
    exact staleCarried_sound (carryPoint_sound h.point (hr x hx))
  | point old new ho hn =>
    refine h.of_points rfl rfl fun r hm => ?_
    obtain ⟨x, hx, rfl⟩ := List.mem_map.mp hm
    split
    · exact hn (h.point old (key_of_find? PointRec.number _ s.points old ho).2)
    · exact h.point x hx
  | store x hs hv =>
    exact
      { range := h.range, weight := h.weight, p := h.p, f := h.f, complete := h.complete, pending := h.pending
        stored := fun c k hck => by
          rcases hs c k hck with hck | ⟨y, hy, rfl⟩
          · exact h.stored c k hck
          · exact h.saving y hy
        saving := fun c hcc => by
          rcases hv c hcc with hcc | ⟨img, hcc⟩
          · exact h.saving c hcc
          · rw [hcc]
            exact saveContents_weighted h img }
  | created make t i segment ht =>
    rw [createIncident_frame make s _ i ht]
    exact h.congr rfl rfl rfl
  | _ => exact h.congr rfl rfl rfl

/-- A part erased by a restart, with whatever store result (R179 step 1). -/
theorem erase_pressures (cause : RestartCause) (result : StoreResult) {s : State} (h : PressuresSound s) :
    PressuresSound { erase cause s with store := { (erase cause s).store with result := result } } where
  range r hr := by cases hr
  weight r hr := by cases hr
  p r hr := by cases hr
  f r hr := by cases hr
  complete img hi := by cases hi
  pending img hi := by cases hi
  stored c k hc := h.stored c k (erase_stored (cause := cause) hc)
  saving c hc := by cases hc

theorem restart_pressures (cause : RestartCause) {s : State} (h : PressuresSound s) :
    PressuresSound (recomputeTables none 0 (installed cause s)) := by
  refine PressuresSound.congr (s := installed cause s) ?_ rfl rfl rfl
  rcases installed_cases cause s with ⟨result, he⟩ | ⟨c, k, result, hk, hv, he⟩
  · rw [he]
    exact erase_pressures cause result h
  · rw [he]
    refine (erase_pressures cause result h).of_points rfl rfl fun r hr => ?_
    obtain ⟨t, ht, rfl⟩ := List.mem_map.mp hr
    exact installPoint_sound (h.stored c k (erase_stored hk)) (Image.ranged_of_raw hv t ht)

/-- Settles O33: every small change and a restart keep every point record sound. -/
theorem pressuresStayWithinTheirRange : Obligations.PressuresStayWithinTheirRange := fun _ _ hs h =>
  step_keeps_of_changes (P := PressuresSound) (fun _ _ h => h.congr rfl rfl rfl) (fun _ _ h => h.congr rfl rfl rfl)
    (fun _ _ _ _ _ h => h.congr rfl rfl rfl) (fun _ _ hc h => hc.keeps_pressures h)
    (fun cause _ h => restart_keeps (fun _ _ h => h.congr rfl rfl rfl) (fun _ _ hc h => hc.keeps_pressures h)
      (restart_pressures cause h)) hs h

end Sys2Proof.Machine

/-! SUPPORT. Numbers that run on (R87, R116), and O46, the bounds of the order queue. -/

namespace Sys2Proof.Machine

/-! ### Numbers that run on -/

/-- The number `i` places after `n` in the cycle 1..`top`. -/
theorem after_iterate {top n : Nat} (h : 1 ≤ n ∧ n ≤ top) (i : Nat) : (after top)^[i] n = (n - 1 + i) % top + 1 := by
  induction i with
  | zero =>
    have : (n - 1) % top = n - 1 := Nat.mod_eq_of_lt (by omega)
    simp [this]
    omega
  | succ i ih =>
    have next : (n - 1 + (i + 1)) % top = ((n - 1 + i) % top + 1 % top) % top := by rw [← Nat.add_assoc, Nat.add_mod]
    rw [Function.iterate_succ_apply', ih, after, next]
    have hlt : (n - 1 + i) % top < top := Nat.mod_lt _ (by omega)
    rcases Nat.lt_or_ge 1 top with ht | ht
    · rw [Nat.mod_eq_of_lt ht]
      split
      · next hn => rw [Nat.mod_eq_of_lt hn]
      · next hn =>
        have : (n - 1 + i) % top + 1 = top := by omega
        rw [this, Nat.mod_self]
    · have : top = 1 := by omega
      subst this
      simp [Nat.mod_one]

/-- A search that ends on a held number has met held numbers alone. -/
theorem iterate_mem_of_freeNumber_mem {top : Nat} {held : List Nat} {fuel n : Nat}
    (h : freeNumber top held fuel n ∈ held) : ∀ i ≤ fuel, (after top)^[i] n ∈ held := by
  induction fuel generalizing n with
  | zero =>
    intro i hi
    obtain rfl := Nat.le_zero.mp hi
    exact h
  | succ fuel ih =>
    unfold freeNumber at h
    split at h
    · next hn =>
      intro i hi
      cases i with
      | zero => exact hn
      | succ i =>
        rw [Function.iterate_succ_apply]
        exact ih h i (by omega)
    · next hn => exact absurd h hn

/-- A search from inside the cycle, over more numbers than are held, ends on a free one. -/
theorem freeNumber_fresh_of_range {top : Nat} {held : List Nat} {fuel n : Nat} (h : 1 ≤ n ∧ n ≤ top)
    (hl : held.length ≤ fuel) (hf : fuel < top) : freeNumber top held fuel n ∉ held := by
  intro hm
  have distinct : ((List.range (fuel + 1)).map fun i => (after top)^[i] n).Nodup := by
    refine List.Nodup.map_on (fun i hi j hj hij => ?_) List.nodup_range
    rw [List.mem_range] at hi hj
    rw [after_iterate h, after_iterate h] at hij
    have hmod : n - 1 + i ≡ n - 1 + j [MOD top] := Nat.succ_injective hij
    exact (Nat.ModEq.add_left_cancel' _ hmod).eq_of_lt_of_lt (by omega) (by omega)
  have within : ((List.range (fuel + 1)).map fun i => (after top)^[i] n) ⊆ held := by
    intro x hx
    obtain ⟨i, hi, rfl⟩ := List.mem_map.mp hx
    exact iterate_mem_of_freeNumber_mem hm i (by rw [List.mem_range] at hi; omega)
  have := (List.subperm_of_subset distinct within).length_le
  simp at this
  omega

/-- A search over two more numbers than are held ends on a free one, from wherever it starts. -/
theorem freeNumber_fresh {top : Nat} {held : List Nat} {fuel n : Nat} (hl : held.length ≤ fuel) (hf : fuel < top) :
    freeNumber top held (fuel + 1) n ∉ held := by
  unfold freeNumber
  split
  · exact freeNumber_fresh_of_range (after_range _ _ (by omega)) hl hf
  · next hn => exact hn

/-! ### O46: the order queue -/

/-- A change that reaches neither the queue, nor its counters, nor the active image. -/
theorem QueueSound.congr {s t : State} (h : QueueSound s) (hq : t.elements.queue = s.elements.queue)
    (ht : t.elements.nextTag = s.elements.nextTag) (ho : t.elements.nextOrder = s.elements.nextOrder)
    (ha : t.net.active = s.net.active) : QueueSound t := by
  have hs : t.stationOf = s.stationOf := by
    funext o
    simp only [State.stationOf, State.elemTopo?, ha]
  constructor
  · exact hq ▸ h.length
  · exact hq ▸ h.element
  · exact hq ▸ h.number
  · rw [State.flightCount, hq]
    exact h.flight
  · rw [hq, hs]
    exact h.station
  · exact hq ▸ h.tags
  · exact ht ▸ h.nextTag
  · exact ho ▸ h.nextOrder

/-- A part without orders. -/
theorem QueueSound.of_empty {t : State} (hq : t.elements.queue = [])
    (ht : 1 ≤ t.elements.nextTag ∧ t.elements.nextTag ≤ 255)
    (ho : 1 ≤ t.elements.nextOrder ∧ t.elements.nextOrder ≤ 65535) : QueueSound t := by
  constructor <;> simp [hq, State.flightCount, ht, ho]

/-- Orders that leave the queue. -/
theorem QueueSound.of_sublist {s : State} (h : QueueSound s) {l : List Order} (hl : l.Sublist s.elements.queue) :
    QueueSound { s with elements := { s.elements with queue := l } } where
  length := hl.length_le.trans h.length
  element := h.element.sublist (hl.map _)
  number := h.number.sublist (hl.map _)
  flight := (hl.filter _).length_le.trans h.flight
  station := h.station.sublist ((hl.filter _).map _)
  tags o ho := h.tags o (hl.subset ho)
  nextTag := h.nextTag
  nextOrder := h.nextOrder

/-- Orders changed in what the bounds do not read. -/
theorem QueueSound.of_map {s : State} (h : QueueSound s) {g : Order → Order}
    (hg : ∀ o ∈ s.elements.queue, OrderKept o (g o)) :
    QueueSound { s with elements := { s.elements with queue := s.elements.queue.map g } } := by
  have flying : ((s.elements.queue.map g).filter (·.inFlight)) = (s.elements.queue.filter (·.inFlight)).map g := by
    rw [List.filter_map]
    congr 1
    exact List.filter_congr fun o ho => by simp [(hg o ho).flight]
  have elements : (s.elements.queue.map g).map (·.element) = s.elements.queue.map (·.element) := by
    rw [List.map_map]
    exact List.map_congr_left fun o ho => (hg o ho).element
  have numbers : (s.elements.queue.map g).map (·.number) = s.elements.queue.map (·.number) := by
    rw [List.map_map]
    exact List.map_congr_left fun o ho => (hg o ho).number
  constructor
  · simpa using h.length
  · rw [elements]
    exact h.element
  · rw [numbers]
    exact h.number
  · simp only [State.flightCount, flying, List.length_map]
    exact h.flight
  · rw [flying, List.map_map, List.map_congr_left (g := s.stationOf) fun o ho => ?_]
    · exact h.station
    · simp only [Function.comp, State.stationOf, (hg o (List.mem_of_mem_filter ho)).element]
      rfl
  · intro o ho hf
    obtain ⟨r, hr, rfl⟩ := List.mem_map.mp ho
    rw [(hg r hr).tag]
    exact h.tags r hr ((hg r hr).flight ▸ hf)
  · exact h.nextTag
  · exact h.nextOrder

/-- A list whose members have different keys, changed at one member alone. -/
theorem map_at_member {α : Type} (key : α → Nat) {a b : List α} {x : α} (h : ((a ++ x :: b).map key).Nodup) (g : α → α) :
    ((a ++ x :: b).map fun r => if key r = key x then g r else r) = a ++ g x :: b := by
  rw [List.map_append, List.map_cons, List.nodup_middle] at h
  obtain ⟨hx, -⟩ := List.nodup_cons.mp h
  simp only [List.mem_append, List.mem_map, not_or, not_exists, not_and] at hx
  have same : ∀ l : List α, (∀ y ∈ l, key y ≠ key x) → (l.map fun r => if key r = key x then g r else r) = l := by
    intro l hl
    conv_rhs => rw [← List.map_id l]
    exact List.map_congr_left fun y hy => by simp [hl y hy]
  rw [List.map_append, List.map_cons, if_pos rfl, same a fun y hy => hx.1 y hy, same b fun y hy => hx.2 y hy]

/-- The first send of an eligible order keeps the bounds: there are at most three in flight, none at its station (R120). -/
theorem QueueSound.sent {s : State} (h : QueueSound s) {o : Order} (ho : o ∈ s.elements.queue) (hq : o.state = .queued)
    (he : eligible s o = true) : QueueSound
      { s with elements :=
          { s.elements with
            queue := s.elements.queue.map fun r => if r.number = o.number then
                { r with tag := s.elements.nextTag, state := .sent, unavailableAt := none, sendsLeft := 2
                         ackAt := some (s.now + 3) }
              else r
            nextTag := after 255 s.elements.nextTag } } := by
  obtain ⟨a, b, hl⟩ := List.append_of_mem ho
  simp only [eligible, Bool.and_eq_true, decide_eq_true_eq] at he
  obtain ⟨⟨hcount, -⟩, hfree⟩ := he
  change s.flightCount < 4 at hcount
  rw [Option.isNone_iff_eq_none, State.flightOf?, List.find?_eq_none] at hfree
  have hnum := h.number
  rw [hl] at hnum
  have hf : o.inFlight = false := by simp [Order.inFlight, hq]
  have hcount' : ((a.filter (·.inFlight)) ++ (b.filter (·.inFlight))).length < 4 := by
    simpa [State.flightCount, hl, List.filter_append, List.filter_cons, hf] using hcount
  have hstation : ((a.filter (·.inFlight) ++ b.filter (·.inFlight)).map s.stationOf).Nodup := by
    simpa [hl, List.filter_append, List.filter_cons, hf] using h.station
  rw [hl, map_at_member Order.number hnum]
  generalize hy : ({ o with tag := s.elements.nextTag, state := .sent, unavailableAt := none, sendsLeft := 2
                            ackAt := some (s.now + 3) } : Order) = y
  have hyf : y.inFlight = true := by simp [← hy, Order.inFlight]
  have flying : (a ++ y :: b).filter (·.inFlight) = a.filter (·.inFlight) ++ y :: b.filter (·.inFlight) := by
    rw [List.filter_append, List.filter_cons, if_pos hyf]
  constructor
  · simpa [hl] using h.length
  · simpa [hl, ← hy] using h.element
  · simpa [hl, ← hy] using h.number
  · simp only [State.flightCount, flying]
    simp at hcount' ⊢
    omega
  · simp only [flying, List.map_append, List.map_cons]
    rw [List.nodup_middle, List.nodup_cons, ← List.map_append]
    refine ⟨fun hm => ?_, hstation⟩
    obtain ⟨r, hr, hst⟩ := List.mem_map.mp hm
    rw [← List.filter_append, List.mem_filter] at hr
    refine hfree r (by rw [hl]; simp at hr ⊢; tauto) ?_
    rw [hr.2, Bool.true_and, decide_eq_true_eq]
    rw [← hy] at hst
    exact hst
  · intro r hr hrf
    simp only [List.mem_append, List.mem_cons] at hr
    rcases hr with hr | rfl | hr
    · exact h.tags r (by rw [hl]; simp [hr]) hrf
    · rw [← hy]
      exact h.nextTag
    · exact h.tags r (by rw [hl]; simp [hr]) hrf
  · exact after_range _ _ (by decide)
  · exact h.nextOrder

/-- What the tests of R117 grant a placement that joins the queue: fewer than 32 orders stay, none of its element. -/
theorem Placed.room {s : State} (h : QueueSound s) {action : Action} {o : Order} (hp : Placed s action o) :
    (afterReplacement o.element action s).elements.queue.Sublist s.elements.queue ∧
    (afterReplacement o.element action s).elements.queue.length < 32 ∧
    ∀ r ∈ (afterReplacement o.element action s).elements.queue, r.element ≠ o.element := by
  have ht := hp.test
  unfold placeTest at ht
  split at ht
  case h_2 => cases ht
  next t r _ hr =>
    split at ht
    · cases ht
    split at ht
    · next x hx =>
      split at ht
      · cases ht
      split at ht
      · cases ht
      next ha hf =>
        have hrep : replacedOrder o.element action s = some x := by simp [replacedOrder, hx, ha, hf]
        obtain ⟨hxm, hxe⟩ := State.orderOf?_mem hx
        simp only [afterReplacement, hrep, finishOrder_elements]
        refine ⟨List.filter_sublist, ?_, fun y hy => ?_⟩
        · refine Nat.lt_of_lt_of_le ?_ h.length
          exact List.length_filter_lt_length_iff_exists.mpr ⟨x, hxm, by simp⟩
        · obtain ⟨hym, hyn⟩ := List.mem_filter.mp hy
          intro hye
          obtain rfl := List.inj_on_of_nodup_map h.element hym hxm (hye.trans hxe.symm)
          simp at hyn
    · next hx =>
      split at ht
      · next hroom =>
        have hrep : replacedOrder o.element action s = none := by simp [replacedOrder, hx]
        simp only [afterReplacement, hrep]
        have haway := hp.away
        rw [hr] at haway
        refine ⟨List.Sublist.refl _, ?_, fun y hy => ?_⟩
        · exact hroom.resolve_left (by simpa using haway)
        · simpa using List.find?_eq_none.mp hx y hy
      · cases ht

/-- An order placed behind its tests keeps the bounds (R116, R117, R118). -/
theorem QueueSound.placed {s : State} (h : QueueSound s) {action : Action} {o : Order} (hp : Placed s action o) :
    QueueSound { s with elements := { s.elements with
      queue := (afterReplacement o.element action s).elements.queue ++ [o], nextOrder := after 65535 o.number } } := by
  obtain ⟨hsub, hlen, hel⟩ := hp.room h
  have hnum : o.number ∉ (afterReplacement o.element action s).elements.queue.map (·.number) := by
    rw [hp.number, placeNumber, orderNumber]
    exact freeNumber_fresh (fuel := 32) (by rw [List.length_map]; omega) (by decide)
  have hf : o.inFlight = false := by simp [Order.inFlight, hp.state]
  have hb := h.of_sublist hsub
  have joined : ∀ (l : List Nat) (a : Nat), l.Nodup → a ∉ l → (l ++ [a]).Nodup := fun l a hl ha => by
    simpa using hl.concat ha
  constructor
  · simpa using hlen
  · rw [List.map_append]
    exact joined _ _ hb.element (by simpa using hel)
  · rw [List.map_append]
    exact joined _ _ hb.number hnum
  · simpa [State.flightCount, List.filter_append, List.filter_cons, hf] using hb.flight
  · have flying : ((afterReplacement o.element action s).elements.queue ++ [o]).filter (·.inFlight) =
        (afterReplacement o.element action s).elements.queue.filter (·.inFlight) := by
      simp [List.filter_append, hf]
    rw [flying]
    exact hb.station
  · intro r hr hrf
    rcases List.mem_append.mp hr with hr | hr
    · exact hb.tags r hr hrf
    · rw [List.mem_singleton.mp hr, hf] at hrf
      cases hrf
  · exact h.nextTag
  · exact after_range _ _ (by decide)

theorem Change.keeps_queue {s t : State} (hc : Change s t) (h : QueueSound s) : QueueSound t := by
  cases hc with
  | activation img _ hq => exact .of_empty hq h.nextTag h.nextOrder
  | leave n => exact h.of_sublist List.filter_sublist
  | nextOrder n hn =>
    exact
      { length := h.length, element := h.element, number := h.number, flight := h.flight, station := h.station
        tags := h.tags, nextTag := h.nextTag, nextOrder := hn }
  | orders g hg => exact h.of_map fun o _ => hg o
  | acknowledged o ho hf =>
    refine h.of_map fun r hr => ?_
    split
    · next hn =>
      obtain rfl := List.inj_on_of_nodup_map h.number hr ho hn
      exact ⟨rfl, rfl, rfl, hf.symm⟩
    · exact ⟨rfl, rfl, rfl, rfl⟩
  | sent o ho hq he => exact h.sent ho hq he
  | placed action o hp => exact h.placed hp
  | created make t i segment ht =>
    rw [createIncident_frame make s _ i ht]
    exact h.congr rfl rfl rfl rfl
  | _ => exact h.congr rfl rfl rfl rfl

theorem restart_queue (cause : RestartCause) (s : State) : QueueSound (recomputeTables none 0 (installed cause s)) := by
  rcases installed_cases cause s with ⟨_, he⟩ | ⟨_, _, _, _, _, he⟩
  all_goals
    rw [he]
    exact .of_empty rfl ⟨Nat.le_refl 1, show 1 ≤ 255 by decide⟩ ⟨Nat.le_refl 1, show 1 ≤ 65535 by decide⟩

/-- Settles O46: every small change and a restart keep the bounds of the order queue. -/
theorem orderQueueBoundsAreKeptByEveryStep : Obligations.OrderQueueBoundsAreKeptByEveryStep := fun _ _ hs h =>
  step_keeps_of_changes (P := QueueSound) (fun _ _ h => h.congr rfl rfl rfl rfl) (fun _ _ h => h.congr rfl rfl rfl rfl)
    (fun _ _ _ _ _ h => h.congr rfl rfl rfl rfl) (fun _ _ hc h => hc.keeps_queue h)
    (fun cause s _ => restart_keeps (fun _ _ h => h.congr rfl rfl rfl rfl) (fun _ _ hc h => hc.keeps_queue h)
      (restart_queue cause s)) hs h

end Sys2Proof.Machine

/-! SUPPORT. O53, the incident table. -/

namespace Sys2Proof.Machine

/-! ### O53: the incident table -/

/-- A change that leaves the slots. -/
theorem IncidentsSound.congr {s t : State} (h : IncidentsSound s) (ht : t.incidents.slots = s.incidents.slots) :
    IncidentsSound t := by
  have hl : t.incidentList = s.incidentList := by simp only [State.incidentList, ht]
  exact ⟨ht ▸ h.slots, hl ▸ h.numbers, hl ▸ h.segments, hl ▸ h.deadline⟩

/-- Incidents changed one by one, none opened again. -/
theorem IncidentsSound.of_map {s t : State} (h : IncidentsSound s) {g : Incident → Incident}
    (hg : ∀ i ∈ s.incidentList, IncidentKept i (g i)) (hs : t.incidents.slots.length = s.incidents.slots.length)
    (hl : t.incidentList = s.incidentList.map g) : IncidentsSound t := by
  have numbers : (s.incidentList.map g).map (·.number) = s.incidentList.map (·.number) := by
    rw [List.map_map]
    exact List.map_congr_left fun i hi => (hg i hi).number
  have still_open : s.incidentList.filter ((fun i => decide (i.state ≠ .closed)) ∘ g) =
      (s.incidentList.filter fun i => i.state ≠ .closed).filter ((fun i => decide (i.state ≠ .closed)) ∘ g) := by
    rw [List.filter_filter]
    refine List.filter_congr fun i hi => ?_
    have hc := (hg i hi).closed
    by_cases hs : i.state = .closed
    · simp [hs, hc hs]
    · simp [hs]
  have segments : ((s.incidentList.map g).filter fun i => i.state ≠ .closed).map (·.segment) =
      (s.incidentList.filter ((fun i => decide (i.state ≠ .closed)) ∘ g)).map (·.segment) := by
    rw [List.filter_map, List.map_map]
    exact List.map_congr_left fun i hi => (hg i (List.mem_of_mem_filter hi)).segment
  constructor
  · rw [hs]
    exact h.slots
  · rw [hl, numbers]
    exact h.numbers
  · rw [hl, segments, still_open]
    exact h.segments.sublist (List.filter_sublist.map _)
  · intro i hi
    rw [hl] at hi
    obtain ⟨j, hj, rfl⟩ := List.mem_map.mp hi
    exact (hg j hj).deadline (h.deadline j hj)

theorem IncidentsSound.updIncident {s : State} (h : IncidentsSound s) {n : Nat} {g : Incident → Incident}
    (hg : ∀ i ∈ s.incidentList, i.number = n → IncidentKept i (g i)) : IncidentsSound (s.updIncident n g) := by
  refine h.of_map (fun i hi => ?_) (by simp) (incidentList_updIncident s n g)
  split
  · next hn => exact hg i hi hn
  · exact .refl i

/-- What a list of slots holds after one is written. -/
theorem filterMap_set {α : Type} {l : List (Option α)} {k : Nat} (h : k < l.length) (x : Option α) :
    (l.set k x).filterMap id = (l.take k).filterMap id ++ (x.toList ++ (l.drop (k + 1)).filterMap id) := by
  rw [List.set_eq_take_append_cons_drop, if_pos h, List.filterMap_append]
  cases x <;> rfl

/-- A slot chosen is a slot of the table. -/
theorem chooseSlot_lt {slots : List (Option Incident)} {k : Nat} (h : chooseSlot slots = some k) : k < slots.length := by
  unfold chooseSlot at h
  split at h
  · next j hj =>
    cases h
    exact (List.findIdx?_eq_some_iff_getElem.mp hj).1
  · split at h
    · cases h
    · next c cs hl =>
      cases h
      have chosen : ∀ (l : List (Nat × Incident)) (c : Nat × Incident), l.foldl earlierClosed c ∈ c :: l := by
        intro l
        induction l with
        | nil => exact fun c => List.mem_singleton.mpr rfl
        | cons d l ih =>
          intro c
          have := ih (earlierClosed c d)
          simp only [List.foldl_cons, List.mem_cons] at this ⊢
          have step : earlierClosed c d = c ∨ earlierClosed c d = d := by
            unfold earlierClosed
            dsimp only
            split
            · exact .inr rfl
            · exact .inl rfl
          rcases this with he | he
          · rw [he]
            tauto
          · exact .inr (.inr he)
      have hm := chosen cs c
      rw [← hl] at hm
      obtain ⟨x, hx, hb⟩ := List.mem_filterMap.mp hm
      obtain ⟨i, -, hi⟩ := Option.bind_eq_some_iff.mp hb
      split at hi
      · obtain ⟨o, j⟩ := x
        have := (List.mem_zipIdx hx).2.1
        rw [← Option.some.inj hi]
        simpa using this
      · cases hi

/-- The table with a new incident in it: its slot, what stays, and a number that no incident that stays holds (R87). -/
theorem createIncident_some {make : Nat → Incident} {s t : State} {i : Incident} (h : createIncident make s = some (t, i)) :
    ∃ k n, chooseSlot s.incidents.slots = some k ∧ i = make n ∧
      n = freeNumber 65535 (((s.incidents.slots.set k none).filterMap id).map (·.number)) 65 s.incidents.nextNumber ∧
      t = { s with incidents := { s.incidents with slots := s.incidents.slots.set k (some i), nextNumber := after 65535 n } } := by
  unfold createIncident at h
  split at h
  · cases h
  · next k hk =>
    cases h
    exact ⟨k, _, hk, rfl, rfl, by rw [List.set_set]⟩

/-- A new incident on a segment without a non-CLOSED one, with a deadline in bounds. -/
theorem IncidentsSound.created {make : Nat → Incident} {s t : State} {i : Incident} {segment : Nat} (h : IncidentsSound s)
    (hc : createIncident make s = some (t, i))
    (hm : ∀ n, (make n).number = n ∧ (make n).segment = segment ∧ DeadlineSound (make n))
    (hs : ∀ j ∈ s.incidentList, j.state ≠ .closed → j.segment ≠ segment) : IncidentsSound t := by
  obtain ⟨k, n, hk, rfl, hn, rfl⟩ := createIncident_some hc
  have hlt := chooseSlot_lt hk
  obtain ⟨hnum, hseg, hdead⟩ := hm n
  have stay : ((s.incidents.slots.take k).filterMap id ++ (s.incidents.slots.drop (k + 1)).filterMap id).Sublist
      s.incidentList := by
    rw [State.incidentList, ← List.filterMap_append]
    refine List.Sublist.filterMap _ ?_
    rw [← List.eraseIdx_eq_take_drop_succ]
    exact List.eraseIdx_sublist _ _
  have fresh : n ∉ ((s.incidents.slots.take k).filterMap id ++ (s.incidents.slots.drop (k + 1)).filterMap id).map (·.number) := by
    rw [filterMap_set hlt] at hn
    rw [hn]
    refine freeNumber_fresh (fuel := 64) ?_ (by decide)
    have h1 := stay.length_le
    have h2 : s.incidentList.length ≤ s.incidents.slots.length := List.length_filterMap_le ..
    have h3 := h.slots
    simp at h1 ⊢
    omega
  have list : ({ s with incidents :=
      { s.incidents with slots := s.incidents.slots.set k (some (make n)), nextNumber := after 65535 n } } : State).incidentList =
      (s.incidents.slots.take k).filterMap id ++ make n :: (s.incidents.slots.drop (k + 1)).filterMap id :=
    filterMap_set hlt (some (make n))
  constructor
  · simpa using h.slots
  · rw [list, List.map_append, List.map_cons, List.nodup_middle, ← List.map_append, hnum]
    exact List.nodup_cons.mpr ⟨fresh, h.numbers.sublist (stay.map _)⟩
  · have stays := (stay.filter fun i => i.state ≠ .closed).map Incident.segment
    rw [list, List.filter_append, List.filter_cons]
    rw [List.filter_append] at stays
    split
    · rw [List.map_append, List.map_cons, List.nodup_middle, ← List.map_append, hseg]
      refine List.nodup_cons.mpr ⟨fun hx => ?_, h.segments.sublist stays⟩
      obtain ⟨j, hj, he⟩ := List.mem_map.mp hx
      rw [← List.filter_append, List.mem_filter] at hj
      exact hs j (stay.subset hj.1) (by simpa using hj.2) he
    · exact h.segments.sublist stays
  · rw [list]
    intro j hj
    rw [List.mem_append, List.mem_cons] at hj
    rcases hj with hj | rfl | hj
    · exact h.deadline j (stay.subset (List.mem_append_left _ hj))
    · exact hdead
    · exact h.deadline j (stay.subset (List.mem_append_right _ hj))

theorem Change.keeps_incidents {s t : State} (hc : Change s t) (h : IncidentsSound s) : IncidentsSound t := by
  cases hc with
  | incident old new ho hk =>
    refine h.updIncident fun i hi hn => ?_
    obtain rfl := List.inj_on_of_nodup_map h.numbers hi ho hn
    exact hk
  | incidents n g hg => exact h.updIncident fun i _ _ => hg i
  | created make t i segment hc hm hs => exact h.created hc hm hs
  | _ => exact h.congr rfl

theorem restart_incidents (cause : RestartCause) (s : State) :
    IncidentsSound (recomputeTables none 0 (installed cause s)) := by
  have erased : IncidentsSound (erase cause s) := by
    have empty : (erase cause s).incidentList = [] := by simp [State.incidentList, erase]
    exact ⟨rfl, by simp [empty], by simp [empty], by simp [empty]⟩
  rcases installed_cases cause s with ⟨_, he⟩ | ⟨_, _, _, _, _, he⟩
  all_goals
    rw [he]
    exact erased.congr rfl

/-- Settles O53: every small change and a restart keep the incident table sound. -/
theorem incidentTableIsKeptSoundByEveryStep : Obligations.IncidentTableIsKeptSoundByEveryStep := fun _ _ hs h =>
  step_keeps_of_changes (P := IncidentsSound) (fun _ _ h => h.congr rfl) (fun _ _ h => h.congr rfl)
    (fun _ _ _ _ _ h => h.congr rfl) (fun _ _ hc h => hc.keeps_incidents h)
    (fun cause s _ => restart_keeps (fun _ _ h => h.congr rfl) (fun _ _ hc h => hc.keeps_incidents h)
      (restart_incidents cause s)) hs h

end Sys2Proof.Machine

/-! SUPPORT. What a recompute makes of the supply records (R69 to R71), and O48, supply state and reachability. -/

namespace Sys2Proof.Machine

/-! ### Reachability -/

/-- Whether an element passes gas, after a record is written that passes gas as the one before it. -/
theorem passable_updElement {s : State} {n : Nat} {g : ElementRec → ElementRec}
    (hn : ∀ r : ElementRec, r.number = n → (g r).number = n)
    (hp : ∀ r, s.element? n = some r → (g r).state.passes = r.state.passes) :
    (s.updElement n g).passable = s.passable := by
  funext m
  unfold State.passable
  rw [element?_updElement s n m g hn]
  cases hm : s.element? m with
  | none => rfl
  | some r =>
    dsimp only [Option.map_some]
    split
    · next he =>
      obtain rfl := he
      rw [State.element?_number hm] at hp
      exact hp r hm
    · rfl

theorem reachable_congr {s t : State} (ha : t.net.active = s.net.active) (hp : t.passable = s.passable) :
    t.reachable = s.reachable := by
  unfold State.reachable
  rw [ha, hp]

theorem passable_congr {s t : State} (h : t.elements.table = s.elements.table) : t.passable = s.passable := by
  funext n
  unfold State.passable State.element?
  rw [h]

/-! ### The records before a recompute -/

/-- What the supply records hold at all times but for reachability: the parts of `SupplySound` that a change of position
leaves, and from which a recompute makes the whole. -/
structure SupplyBase (s : State) : Prop where
  active : ∀ img, s.net.active = some img → NumbersDistinct img
  complete : ∀ img, s.net.standby = .complete img → NumbersDistinct img
  pending : ∀ img, s.net.standby = .pending img → NumbersDistinct img
  table : s.elements.table.map (·.number) = s.elementsOf.map (·.number)
  segments : s.supply.segs.map (·.segment) = ((s.net.active.map (·.segments)).getD []).map (·.number)
  entry : ∀ x ∈ s.supply.segs, x.state ≠ .live ↔ x.segment ∈ s.supply.outages.map (·.segment)
  owner : ∀ o ∈ s.supply.outages, o.segment ∈ s.supply.segs.map (·.segment)
  entries : (s.supply.outages.map (·.segment)).Nodup

theorem SupplySound.base {s : State} (h : SupplySound s) : SupplyBase s :=
  ⟨h.active, h.complete, h.pending, h.table, h.segments, h.entry, h.owner, h.entries⟩

theorem SupplyBase.sound {s : State} (h : SupplyBase s)
    (hr : ∀ x ∈ s.supply.segs, (x.state = .live ∨ x.state = .recharging) ↔ x.segment ∈ s.reachable) : SupplySound s :=
  ⟨h.active, h.complete, h.pending, h.table, h.segments, hr, h.entry, h.owner, h.entries⟩

/-- No two records are of one segment. -/
theorem SupplyBase.segs_nodup {s : State} (h : SupplyBase s) : (s.supply.segs.map (·.segment)).Nodup := by
  rw [h.segments]
  cases ha : s.net.active with
  | none => exact List.nodup_nil
  | some img => exact (h.active img ha).segments

/-- The topology of every segment that has a record. -/
theorem SupplyBase.segTopo? {s : State} (h : SupplyBase s) {x : SegSupply} (hx : x ∈ s.supply.segs) :
    ∃ t, s.segTopo? x.segment = some t ∧ t.number = x.segment := by
  have hm : x.segment ∈ s.supply.segs.map (·.segment) := List.mem_map_of_mem hx
  rw [h.segments] at hm
  unfold State.segTopo?
  cases ha : s.net.active with
  | none => simp [ha] at hm
  | some img =>
    simp only [ha, Option.map_some, Option.getD_some] at hm
    obtain ⟨t, ht, he⟩ := List.mem_map.mp hm
    have hs : (img.segment? x.segment).isSome = true := by
      simp only [Image.segment?, List.find?_isSome]
      exact ⟨t, ht, by simpa using he⟩
    obtain ⟨u, hu⟩ := Option.isSome_iff_exists.mp hs
    exact ⟨u, hu, (key_of_find? Segment.number _ img.segments u hu).1⟩

/-! ### Recompute (R70, R71) -/

/-- R70's table, by the state it moves from. -/
theorem supplyMove_table (b : Bool) :
    supplyMove .live b = (if b then none else some .cut) ∧ supplyMove .recharging b = (if b then none else some .cut) ∧
    supplyMove .cut b = (if b then some .recharging else none) ∧
    supplyMove .depressurized b = (if b then some .recharging else none) := by
  cases b <;> exact ⟨rfl, rfl, rfl, rfl⟩

/-- A recompute leaves the segment of a record. -/
@[simp] theorem recomputeSeg_segment (now : Nat) (g : Globals) (b : Bool) (x : SegSupply) :
    (recomputeSeg now g b x).segment = x.segment := by
  unfold recomputeSeg
  split <;> rfl

/-- The supply state after a recompute (R70). -/
theorem recomputeSeg_state (now : Nat) (g : Globals) (b : Bool) (x : SegSupply) :
    (recomputeSeg now g b x).state = (supplyMove x.state b).getD x.state := by
  unfold recomputeSeg
  cases hx : x.state <;> cases b <;> simp [supplyMove, enterCut, enterRecharging, hx]

/-- After a recompute gas is in a segment exactly where it is reached (R68, R70). -/
theorem recomputeSeg_reached (now : Nat) (g : Globals) (b : Bool) (x : SegSupply) :
    ((recomputeSeg now g b x).state = .live ∨ (recomputeSeg now g b x).state = .recharging) ↔ b = true := by
  rw [recomputeSeg_state]
  cases x.state <;> cases b <;> simp [supplyMove]

/-- A recompute leaves LIVE the segments alone that were LIVE and are reached. -/
theorem recomputeSeg_live (now : Nat) (g : Globals) (b : Bool) (x : SegSupply) :
    (recomputeSeg now g b x).state = .live ↔ x.state = .live ∧ b = true := by
  rw [recomputeSeg_state]
  cases x.state <;> cases b <;> simp [supplyMove]

/-- The entries that a recompute opens: one for each segment that leaves LIVE (R71 step 1, R78). -/
def openedEntries (origin : Option Nat) (element : Nat) (s : State) : List Outage :=
  ((recomputeMoves s).filter fun m => m.2.1 = .live).filterMap fun m =>
    (s.segTopo? m.1).map (newOutage s.now (outageCauseOf origin element))

theorem recomputeTables_segs (origin : Option Nat) (element : Nat) (s : State) :
    (recomputeTables origin element s).supply.segs =
      s.supply.segs.map fun x => recomputeSeg s.now s.supply.globals (s.reachable.contains x.segment) x := rfl

theorem recomputeTables_outages (origin : Option Nat) (element : Nat) (s : State) :
    (recomputeTables origin element s).supply.outages =
      (openedEntries origin element s).foldl (fun l o => insertBy (·.segment) o l) s.supply.outages := rfl

/-- The segments that a recompute takes from LIVE. -/
def leavesLive (s : State) (x : SegSupply) : Bool := x.state = .live && !s.reachable.contains x.segment

/-- The moves from LIVE, by the records that make them. -/
theorem movesFromLive (s : State) : ((recomputeMoves s).filter fun m => m.2.1 = .live).map (·.1) =
    (s.supply.segs.filter (leavesLive s)).map (·.segment) := by
  unfold recomputeMoves
  dsimp only
  induction s.supply.segs with
  | nil => rfl
  | cons x l ih =>
    rw [List.filterMap_cons, List.filter_cons]
    cases hx : x.state <;> cases hr : s.reachable.contains x.segment <;>
      simp [supplyMove_table, leavesLive, hx, hr, ih, -List.contains_eq_mem]

/-- The segments of the entries opened are those that leave LIVE, in the order of the records. -/
theorem openedEntries_segments {s : State} (h : ∀ x ∈ s.supply.segs, ∃ t, s.segTopo? x.segment = some t ∧ t.number = x.segment)
    (origin : Option Nat) (element : Nat) :
    (openedEntries origin element s).map (·.segment) = (s.supply.segs.filter (leavesLive s)).map (·.segment) := by
  rw [← movesFromLive, openedEntries]
  have topo : ∀ m ∈ (recomputeMoves s).filter (fun m => m.2.1 = .live), ∃ t, s.segTopo? m.1 = some t ∧ t.number = m.1 := by
    intro m hm
    obtain ⟨x, hx, he⟩ := List.mem_filterMap.mp (List.mem_of_mem_filter hm)
    obtain ⟨y, -, rfl⟩ := Option.map_eq_some_iff.mp he
    exact h x hx
  revert topo
  generalize (recomputeMoves s).filter (fun m => m.2.1 = .live) = l
  intro topo
  induction l with
  | nil => rfl
  | cons m l ih =>
    obtain ⟨t, ht, hn⟩ := topo m List.mem_cons_self
    simp [ht, newOutage, hn, ih fun m hm => topo m (List.mem_cons_of_mem _ hm)]

theorem foldl_insertBy_perm {α : Type} (key : α → Nat) (l m : List α) :
    (l.foldl (fun m x => insertBy key x m) m).Perm (l ++ m) := by
  induction l generalizing m with
  | nil => exact .refl _
  | cons x l ih => exact (ih _).trans (((insertBy_perm key x m).append_left l).trans List.perm_middle)

/-- A recompute brings supply state and reachability into agreement and gives each segment that leaves LIVE its entry. -/
theorem SupplyBase.recompute {s : State} (h : SupplyBase s) (origin : Option Nat) (element : Nat) :
    SupplySound (recomputeTables origin element s) := by
  have hreach : (recomputeTables origin element s).reachable = s.reachable := reachable_congr rfl (passable_congr rfl)
  have hseg := openedEntries_segments (fun _ => h.segTopo?) origin element
  have hperm : ((recomputeTables origin element s).supply.outages.map (·.segment)).Perm
      ((s.supply.segs.filter (leavesLive s)).map (·.segment) ++ s.supply.outages.map (·.segment)) := by
    rw [recomputeTables_outages, ← hseg, ← List.map_append]
    exact (foldl_insertBy_perm _ _ _).map _
  have hsegments : (recomputeTables origin element s).supply.segs.map (·.segment) = s.supply.segs.map (·.segment) := by
    rw [recomputeTables_segs, List.map_map]
    exact List.map_congr_left fun x _ => recomputeSeg_segment _ _ _ x
  have fallen : ∀ n, n ∈ (s.supply.segs.filter (leavesLive s)).map (·.segment) →
      ∃ x ∈ s.supply.segs, x.segment = n ∧ x.state = .live ∧ n ∉ s.reachable := by
    intro n hn
    obtain ⟨x, hx, rfl⟩ := List.mem_map.mp hn
    obtain ⟨hx, hl⟩ := List.mem_filter.mp hx
    refine ⟨x, hx, rfl, ?_⟩
    simpa [leavesLive] using hl
  refine SupplyBase.sound ⟨h.active, h.complete, h.pending, h.table, hsegments.trans h.segments, ?_, ?_, ?_⟩ ?_
  · intro y hy
    obtain ⟨x, hx, rfl⟩ := List.mem_map.mp hy
    rw [Ne, recomputeSeg_live, recomputeSeg_segment, hperm.mem_iff, List.mem_append, ← h.entry x hx]
    by_cases hl : x.state = .live
    · constructor
      · intro hr
        refine .inl (List.mem_map_of_mem (List.mem_filter.mpr ⟨hx, ?_⟩))
        simpa [leavesLive, hl] using hr
      · rintro (hm | hm) ⟨-, hr⟩
        · obtain ⟨-, -, -, -, hn⟩ := fallen _ hm
          exact hn (by simpa using hr)
        · exact hm hl
    · simp [hl]
  · intro o ho
    rw [hsegments]
    have hm := hperm.mem_iff.mp (List.mem_map_of_mem (f := Outage.segment) ho)
    rcases List.mem_append.mp hm with hm | hm
    · obtain ⟨x, hx, he, -⟩ := fallen _ hm
      exact he ▸ List.mem_map_of_mem hx
    · obtain ⟨p, hp, he⟩ := List.mem_map.mp hm
      exact he ▸ h.owner p hp
  · rw [hperm.nodup_iff, List.nodup_append]
    refine ⟨h.segs_nodup.sublist (List.filter_sublist.map _), h.entries, ?_⟩
    rintro n hn _ ho rfl
    obtain ⟨x, hx, rfl, hl, -⟩ := fallen n hn
    exact (h.entry x hx).mpr ho hl
  · intro y hy
    obtain ⟨x, hx, rfl⟩ := List.mem_map.mp hy
    rw [recomputeSeg_reached, recomputeSeg_segment, hreach]
    simp

/-! ### O48: the other changes -/

/-- A change that reaches neither the images, nor the elements, nor the supply records. -/
theorem SupplyBase.congr {s t : State} (h : SupplyBase s) (ha : t.net.active = s.net.active)
    (hs : t.net.standby = s.net.standby) (he : t.elements.table.map (·.number) = s.elements.table.map (·.number))
    (hg : t.supply.segs = s.supply.segs) (ho : t.supply.outages = s.supply.outages) : SupplyBase t := by
  constructor
  · exact ha ▸ h.active
  · exact hs ▸ h.complete
  · exact hs ▸ h.pending
  · rw [he, h.table, State.elementsOf, State.elementsOf, ha]
  · rw [hg, h.segments, ha]
  · rw [hg, ho]
    exact h.entry
  · rw [hg, ho]
    exact h.owner
  · rw [ho]
    exact h.entries

theorem SupplySound.congr {s t : State} (h : SupplySound s) (ha : t.net.active = s.net.active)
    (hs : t.net.standby = s.net.standby) (he : t.elements.table = s.elements.table)
    (hg : t.supply.segs = s.supply.segs) (ho : t.supply.outages = s.supply.outages) : SupplySound t := by
  refine (h.base.congr ha hs (by rw [he]) hg ho).sound ?_
  rw [hg, reachable_congr ha (passable_congr he)]
  exact h.reach

/-- Segment records changed without a change between the states with gas and those without, and the entries of the segments
that became LIVE taken away. -/
theorem SupplySound.of_segs {s t : State} (h : SupplySound s) {g : SegSupply → SegSupply} {p : Outage → Bool}
    (hg : ∀ x ∈ s.supply.segs, (g x).segment = x.segment ∧
      (((g x).state = .live ∨ (g x).state = .recharging) ↔ (x.state = .live ∨ x.state = .recharging)))
    (hp : ∀ x ∈ s.supply.segs, ∀ o ∈ s.supply.outages, o.segment = x.segment → (p o = true ↔ (g x).state ≠ .live))
    (hl : ∀ x ∈ s.supply.segs, x.state = .live → (g x).state = .live)
    (ha : t.net = s.net) (he : t.elements.table = s.elements.table) (hs : t.supply.segs = s.supply.segs.map g)
    (ho : t.supply.outages = s.supply.outages.filter p) : SupplySound t := by
  have segments : (s.supply.segs.map g).map (·.segment) = s.supply.segs.map (·.segment) := by
    rw [List.map_map]
    exact List.map_congr_left fun x hx => (hg x hx).1
  constructor
  · exact ha ▸ h.active
  · exact ha ▸ h.complete
  · exact ha ▸ h.pending
  · rw [he, h.table, State.elementsOf, State.elementsOf, ha]
  · rw [hs, segments, h.segments, ha]
  · rw [hs, reachable_congr (congrArg _ ha) (passable_congr he)]
    intro y hy
    obtain ⟨x, hx, rfl⟩ := List.mem_map.mp hy
    rw [(hg x hx).1, (hg x hx).2]
    exact h.reach x hx
  · rw [hs, ho]
    intro y hy
    obtain ⟨x, hx, rfl⟩ := List.mem_map.mp hy
    rw [(hg x hx).1, List.mem_map]
    constructor
    · intro hn
      have hx' : x.state ≠ .live := fun hx' => hn (hl x hx hx')
      obtain ⟨o, hom, hos⟩ := List.mem_map.mp ((h.entry x hx).mp hx')
      exact ⟨o, List.mem_filter.mpr ⟨hom, (hp x hx o hom hos).mpr hn⟩, hos⟩
    · rintro ⟨o, hom, hos⟩
      obtain ⟨hom, hpo⟩ := List.mem_filter.mp hom
      exact (hp x hx o hom hos).mp hpo
  · rw [hs, ho, segments]
    exact fun o hom => h.owner o (List.mem_of_mem_filter hom)
  · rw [ho]
    exact h.entries.sublist (List.filter_sublist.map _)

/-- The record of a segment is the one its number finds. -/
theorem SupplySound.eq_of_seg? {s : State} (h : SupplySound s) {n : Nat} {x y : SegSupply} (hx : s.seg? n = some x)
    (hy : y ∈ s.supply.segs) (hn : y.segment = n) : y = x := by
  obtain ⟨hxn, hxm⟩ := key_of_find? SegSupply.segment n s.supply.segs x hx
  exact List.inj_on_of_nodup_map h.base.segs_nodup hy hxm (hn.trans hxn.symm)

/-- An entry of a segment stands exactly while it is not LIVE. -/
theorem SupplySound.not_live {s : State} (h : SupplySound s) {x : SegSupply} (hx : x ∈ s.supply.segs) {o : Outage}
    (ho : o ∈ s.supply.outages) (he : o.segment = x.segment) : x.state ≠ .live :=
  (h.entry x hx).mpr (he ▸ List.mem_map_of_mem ho)

/-- An image that the standby image may become repeats no number where the standby image repeats none. -/
theorem StandbyImage.distinct {s : State} {img : Image} (h : StandbyImage s img) (hs : SupplySound s) :
    NumbersDistinct img := by
  rcases h with h | h | ⟨n, l, rfl, hv⟩
  · exact hs.complete img h
  · exact hs.pending img h
  · exact Image.ofRaw_distinct hv

@[simp] theorem carryElement_number (now : Nat) (old : Option Image) (l : List ElementRec) (e : Element) :
    (carryElement now old l e).number = e.number := by
  unfold carryElement
  split
  · next r _ hr =>
    split
    · exact (key_of_find? ElementRec.number _ l r hr).1
    · rfl
  · rfl

/-- A segment's record carried over is the record it had, or LIVE where it had none (R85). -/
theorem carrySegment_cases (now : Nat) (img : Image) (old : List SegSupply) (seg : Segment) :
    (carrySegment now img old seg).segment = seg.number ∧
    ((∃ x ∈ old, x.segment = seg.number ∧ (carrySegment now img old seg).state = x.state) ∨
      seg.number ∉ old.map (·.segment) ∧ (carrySegment now img old seg).state = .live) := by
  unfold carrySegment
  split
  · next x hx =>
    obtain ⟨hn, hm⟩ := key_of_find? SegSupply.segment _ old x hx
    exact ⟨hn, .inl ⟨x, hm, hn, rfl⟩⟩
  · next hx =>
    refine ⟨rfl, .inr ⟨fun hm => ?_, rfl⟩⟩
    obtain ⟨x, hx', he⟩ := List.mem_map.mp hm
    have := List.find?_eq_none.mp hx x hx'
    simp [he] at this

/-- Behind the conflict test every outage entry is of a segment of the new image (R22). -/
theorem conflictTest_outages {img : Image} {s : State} (h : conflictTest img s = none) {o : Outage}
    (ho : o ∈ s.supply.outages) : ∃ seg ∈ img.segments, seg.number = o.segment := by
  unfold conflictTest at h
  split at h
  · cases h
  · rw [Option.map_eq_none_iff, List.find?_eq_none] at h
    have hs : (img.segment? o.segment).isSome = true := by
      have := h o.segment (by
        rw [State.workedSegments, mem_sortBy]
        exact List.mem_append_left _ (List.mem_map_of_mem ho))
      simpa [Option.isNone_iff_eq_none, Option.isSome_iff_ne_none] using this
    obtain ⟨seg, hseg⟩ := Option.isSome_iff_exists.mp hs
    obtain ⟨hn, hm⟩ := key_of_find? Segment.number _ img.segments seg hseg
    exact ⟨seg, hm, hn⟩

/-- The tables of a new image behind the conflict test (R25, R85). -/
theorem SupplySound.carryOver {s : State} (h : SupplySound s) {img : Image} (hi : NumbersDistinct img)
    (hc : conflictTest img s = none) : SupplyBase (carryOver img s) := by
  have segments : (img.segments.map (carrySegment s.now img s.supply.segs)).map (·.segment) = img.segments.map (·.number) := by
    rw [List.map_map]
    exact List.map_congr_left fun seg _ => (carrySegment_cases _ _ _ seg).1
  constructor
  · intro j hj
    cases hj
    exact hi
  · exact h.complete
  · exact h.pending
  · show (img.elements.map (carryElement s.now s.net.active s.elements.table)).map (·.number) = img.elements.map (·.number)
    rw [List.map_map]
    exact List.map_congr_left fun e _ => carryElement_number _ _ _ e
  · exact segments
  · intro y hy
    obtain ⟨seg, hseg, rfl⟩ := List.mem_map.mp hy
    obtain ⟨hn, ⟨x, hx, hxn, hst⟩ | ⟨hno, hst⟩⟩ := carrySegment_cases s.now img s.supply.segs seg
    · rw [hn, hst, ← hxn]
      exact h.entry x hx
    · rw [hn, hst]
      refine ⟨fun hne => absurd rfl hne, fun hm => ?_⟩
      obtain ⟨o, ho, he⟩ := List.mem_map.mp hm
      exact absurd (he ▸ h.owner o ho) hno
  · intro o ho
    show o.segment ∈ (img.segments.map (carrySegment s.now img s.supply.segs)).map (·.segment)
    obtain ⟨seg, hseg, he⟩ := conflictTest_outages hc ho
    rw [segments]
    exact he ▸ List.mem_map_of_mem hseg
  · exact h.entries

theorem Change.keeps_supply {s t : State} (hc : Change s t) (h : SupplySound s) : SupplySound t := by
  cases hc with
  | standby x hx =>
    exact
      { active := h.active, table := h.table, segments := h.segments, reach := h.reach, entry := h.entry
        owner := h.owner, entries := h.entries
        complete := fun img hi => (hx img (.inl hi)).distinct h
        pending := fun img hi => (hx img (.inr hi)).distinct h }
  | activation img hi _ hc =>
    exact (h.carryOver (hi.elim (h.complete img) (h.pending img)) hc).recompute none 0
  | record n g hn hp =>
    refine (h.base.congr (t := s.updElement n g) rfl rfl (map_key_upd ElementRec.number n g hn _) rfl rfl).sound ?_
    rw [reachable_congr (s := s) (t := s.updElement n g) rfl (passable_updElement hn hp)]
    exact h.reach
  | moved new origin =>
    exact (h.base.congr (t := s.updElement new.number fun _ => new) rfl rfl
      (map_key_upd ElementRec.number new.number (fun _ => new) (fun _ _ => rfl) _) rfl rfl).recompute _ _
  | segments g hg =>
    refine h.of_segs (g := g) (p := fun _ => true) (fun x _ => ⟨(hg x).1, by rw [(hg x).2]⟩) (fun x hx o ho he => ?_)
      (fun x _ hl => (hg x).2.trans hl) rfl rfl rfl (List.filter_true _).symm
    rw [(hg x).2]
    exact iff_of_true rfl (h.not_live hx ho he)
  | emptied n x g hx hcut hg =>
    have now : ∀ y ∈ s.supply.segs, y.segment = n → y.state = .cut := fun y hy hn => h.eq_of_seg? hx hy hn ▸ hcut
    refine h.of_segs (p := fun _ => true) (fun y hy => ?_) (fun y hy o ho he => ?_) (fun y hy hl => ?_) rfl rfl rfl
      (List.filter_true _).symm
    · split
      · next hn => simp [hg y, now y hy hn]
      · exact ⟨rfl, Iff.rfl⟩
    · refine iff_of_true rfl ?_
      split
      · simp [hg y]
      · exact h.not_live hy ho he
    · split
      · next hn =>
        rw [now y hy hn] at hl
        cases hl
      · exact hl
  | refilled n x g hx hrec hg =>
    have now : ∀ y ∈ s.supply.segs, y.segment = n → y.state = .recharging := fun y hy hn => h.eq_of_seg? hx hy hn ▸ hrec
    refine h.of_segs (p := fun r => r.segment ≠ n) (fun y hy => ?_) (fun y hy o ho he => ?_) (fun y hy hl => ?_) rfl rfl
      rfl rfl
    · split
      · next hn => simp [hg y, now y hy hn]
      · exact ⟨rfl, Iff.rfl⟩
    · rw [he]
      split
      · next hn => simp [hg y, hn]
      · next hn => simp [hn, h.not_live hy ho he]
    · split
      · exact (hg y).2
      · exact hl
  | outage n g hg =>
    have segments : (s.supply.outages.map fun r => if r.segment = n then g r else r).map (·.segment) =
        s.supply.outages.map (·.segment) := map_key_upd Outage.segment n g hg _
    constructor
    · exact h.active
    · exact h.complete
    · exact h.pending
    · exact h.table
    · exact h.segments
    · exact h.reach
    · rw [State.updOutage_supply, segments]
      exact h.entry
    · intro o ho
      have hm := List.mem_map_of_mem (f := Outage.segment) ho
      rw [State.updOutage_supply, segments] at hm
      obtain ⟨p, hp, he⟩ := List.mem_map.mp hm
      exact he ▸ h.owner p hp
    · rw [State.updOutage_supply, segments]
      exact h.entries
  | created make t i segment ht =>
    rw [createIncident_frame make s _ i ht]
    exact h.congr rfl rfl rfl rfl rfl
  | _ => exact h.congr rfl rfl rfl rfl rfl

theorem restart_supply (cause : RestartCause) (s : State) :
    SupplySound (recomputeTables none 0 (installed cause s)) := by
  refine SupplyBase.recompute ?_ none 0
  rcases installed_cases cause s with ⟨_, he⟩ | ⟨c, _, _, _, hv, he⟩
  · rw [he]
    exact ⟨nofun, nofun, nofun, rfl, rfl, nofun, nofun, List.nodup_nil⟩
  · rw [he]
    have hd := Image.distinct_of_raw hv
    refine ⟨fun img hi => ?_, nofun, nofun, ?_, ?_, fun y hy => ?_, nofun, List.nodup_nil⟩
    · cases hi
      exact hd
    · show (c.image.elements.map fun e => freshElement 0 e.number).map (·.number) = c.image.elements.map (·.number)
      rw [List.map_map]
      rfl
    · show (c.image.segments.map fun x => liveSegment 0 x.number).map (·.segment) = c.image.segments.map (·.number)
      rw [List.map_map]
      rfl
    · obtain ⟨x, _, rfl⟩ := List.mem_map.mp hy
      exact ⟨fun hne => absurd rfl hne, nofun⟩

/-- Settles O48: every small change and a restart keep supply state and reachability in agreement. -/
theorem supplyAgreesWithReachabilityAtEveryStep : Obligations.SupplyAgreesWithReachabilityAtEveryStep := fun _ _ hs h =>
  step_keeps_of_changes (P := SupplySound) (fun _ _ h => h.congr rfl rfl rfl rfl rfl)
    (fun _ _ h => h.congr rfl rfl rfl rfl rfl) (fun _ _ _ _ _ h => h.congr rfl rfl rfl rfl rfl)
    (fun _ _ hc h => hc.keeps_supply h)
    (fun cause s _ => restart_keeps (fun _ _ h => h.congr rfl rfl rfl rfl rfl) (fun _ _ hc h => hc.keeps_supply h)
      (restart_supply cause s)) hs h

end Sys2Proof.Machine

/-! SUPPORT. Steps and commands (O1 to O4, O60), notices and the transmitter (O5, O6), and the tests of R168 and R169 (O7,
O8). -/

namespace Sys2Proof.Machine

/-! ### Steps -/

/-- Settles O1: a step with a command waiting is that command. -/
theorem stepRunsTheFrontCommand : Obligations.StepRunsTheFrontCommand := by
  intro s c rest h
  simp only [step, h]

theorem step_of_empty {s : State} (h : s.pending = []) : step s = .next (idleStep s) := by simp only [step, h]

theorem running_iff (s : State) : s.running = true ↔ s.power = .running := by simp [State.running]

theorem tick_of_next_second {s : State} (h : s.partTime ≠ 0xFFFFFFFF#32) :
    tick s = { s with partTime := s.partTime + 1 } := if_neg h

/-- Settles O2: the idle step by the events due. -/
theorem emptyQueueLetsASecondPassOrADueEventCome : Obligations.EmptyQueueLetsASecondPassOrADueEventCome := by
  intro s hs
  rw [step_of_empty hs]
  have quiet : s.power = .running → dueEvents s = [] → idleStep s = tick s := by
    intro hp hd
    simp [idleStep, (running_iff s).mpr hp, hd]
  refine ⟨fun hp => ?_, fun hp hd ht => ?_, fun hp hd ht => ?_, fun hp hd => ?_⟩
  · simp [idleStep, State.running, hp]
  · rw [quiet hp hd, tick_of_next_second ht]
  · refine ⟨Config.partTimePastEnd s.drawn, ?_⟩
    rw [quiet hp hd, tick, if_pos ht]
    rfl
  · have hlt : Config.dueChoice s.drawn % (dueEvents s).length < (dueEvents s).length :=
      Nat.mod_lt _ (List.length_pos_iff.mpr hd)
    refine ⟨_, List.getElem_mem hlt, ?_⟩
    simp only [idleStep, (running_iff s).mpr hp, List.getElem?_eq_getElem hlt]
    rfl

theorem Change.keeps_pending {s t : State} (h : Change s t) : t.pending = s.pending := by
  cases h
  case created make i segment _ _ hc => rw [createIncident_frame _ _ _ _ hc]
  all_goals rfl

/-- A restart leaves the commands that wait (log 14). -/
theorem restart_pending (cause : RestartCause) (s : State) : (restart cause s).pending = s.pending := by
  refine restart_keeps (P := fun u => u.pending = s.pending) (fun _ _ h => h)
    (fun _ _ hc h => hc.keeps_pending.trans h) ?_
  rcases installed_cases cause s with ⟨_, he⟩ | ⟨_, _, _, _, _, he⟩
  all_goals
    rw [he]
    rfl

/-- Settles O3: every command is a run of events, each of which leaves the commands that wait. -/
theorem everyCommandCompletesAndLeavesTheQueue : Obligations.EveryCommandCompletesAndLeavesTheQueue := by
  intro c s
  obtain ⟨t, ht, he⟩ := exec_events c s
  refine ⟨t, ht, he.keeps (P := fun u => u.pending = s.pending) (fun u v hv hu => ?_) rfl⟩
  exact hv.keeps_of_changes (P := fun u => u.pending = s.pending) (fun _ _ h => h) (fun _ _ _ _ _ h => h)
    (fun _ _ hc h => hc.keeps_pending.trans h) (fun cause w h => (restart_pending cause w).trans h) hu

/-! ### A part that is deaf (R171, R178) -/

theorem takeUnknown_of_not_running {s : State} (kind tag : Nat) (h : s.power ≠ .running) : takeUnknown kind tag s = s := by
  simp [takeUnknown, State.running, h]

/-- A part that does not run carries out the board's events alone (R178). -/
theorem exec_of_not_running {c : Instr} {s : State} (hb : c.isBoard = false) (h : s.power ≠ .running) :
    exec c s = .next s := by
  have hr : s.running = false := by simp [State.running, h]
  cases hq : c.request? with
  | some x =>
    obtain rfl | ⟨α, body, serve, he, -, -⟩ := request_form (kind := x.1) (tag := x.2) hq
    · exact congrArg Host.Outcome.next (takeUnknown_of_not_running _ _ h)
    · rw [he, takeRequest_of_not_running _ _ _ _ s h]
  | none =>
    cases c
    case powerOn | resetAssert | resetRelease | boardSupplyFailure => cases hb
    case controlFrameDiscarded => simp [exec, execControlFrameDiscarded, hr]
    case controlFrameGapTimeout => simp [exec, execControlFrameGapTimeout, hr]
    case replyTransmitted => simp [exec, execReplyTransmitted, hr]
    case noticeTransmitted => simp [exec, execNoticeTransmitted, hr]
    case report => simp [exec, execReport, hr]
    case orderAck => simp [exec, execOrderAck, hr]
    case fieldFrameDiscarded => simp [exec, execFieldFrameDiscarded, hr]
    case fieldFrameGapTimeout => simp [exec, execFieldFrameGapTimeout, hr]
    case fieldOrderFrameSent => simp [exec, execFieldOrderFrameSent, hr]
    case gapTimerExpiry => simp [exec, execGapTimerExpiry, hr]
    case silenceExpiry => simp [exec, execSilenceExpiry, hr]
    case ventTimerExpiry => simp [exec, execVentTimerExpiry, hr]
    case rechargeTimerExpiry => simp [exec, execRechargeTimerExpiry, hr]
    case customerMinute => simp [exec, execCustomerMinute, hr]
    case deadlineExpiry => simp [exec, execDeadlineExpiry, hr]
    case stationUnavailableExpiry => simp [exec, execStationUnavailableExpiry, hr]
    case acknowledgementExpiry => simp [exec, execAcknowledgementExpiry, hr]
    case strokeExpiry => simp [exec, execStrokeExpiry, hr]
    case planCompletion => simp [exec, execPlanCompletion, hr]
    case saveCompletion => simp [exec, execSaveCompletion, hr]
    all_goals cases hq

/-- Settles O4: the test of the part's running stands ahead of every command but the board's, that of the RESTART ahead of
every request. -/
theorem deafPartDiscardsWhatArrives : Obligations.DeafPartDiscardsWhatArrives := by
  refine ⟨fun c s hb hp => exec_of_not_running hb hp, fun c s kind tag hq hp hr => ?_⟩
  obtain rfl | ⟨α, body, serve, he, -, -⟩ := request_form hq
  · simp [exec, execUnknownKind, takeUnknown, State.running, hp, hr]
  · rw [he, takeRequest_of_restarting _ _ _ _ s hp hr]

/-! ### The tests of R168 and R169 -/

section

variable {s : State} {kind tag : Nat}

/-- A full pending-request list answers BUSY, or discards beside four BUSY refusals (R169). -/
theorem takeRequest_of_full {α : Type} {body : Body α} {serve : α → State → Served} (hp : s.power = .running)
    (hr : s.control.restarting = false) (hl : 4 ≤ s.control.listed.length) :
    takeRequest kind tag body serve s =
      if s.control.busyWaiting.length < 4 then
        pushReply { tag := tag, kind := kind, reply := .refused (.plain .busy), listed := false } (huntControl s)
      else huntControl s := by
  simp [takeRequest, State.running, hp, hr, show Config.pendingLimit ≤ s.control.listed.length from hl,
    show Config.busyLimit = 4 from rfl]

theorem takeUnknown_of_full (hp : s.power = .running)
    (hr : s.control.restarting = false) (hl : 4 ≤ s.control.listed.length) :
    takeUnknown kind tag s =
      if s.control.busyWaiting.length < 4 then
        pushReply { tag := tag, kind := kind, reply := .refused (.plain .busy), listed := false } (huntControl s)
      else huntControl s := by
  simp [takeUnknown, State.running, hp, hr, show Config.pendingLimit ≤ s.control.listed.length from hl,
    show Config.busyLimit = 4 from rfl]

/-- Tag 0, or a body that does not fit, is MALFORMED (R168). -/
theorem takeRequest_malformed {α : Type} {body : Body α} {serve : α → State → Served} (hp : s.power = .running)
    (hr : s.control.restarting = false) (hl : s.control.listed.length < 4) (hm : tag = 0 ∨ body.isFit = false) :
    takeRequest kind tag body serve s = answered kind tag (.refused (.plain .malformed)) (huntControl s) := by
  have room : ¬Config.pendingLimit ≤ s.control.listed.length := Nat.not_le.mpr hl
  by_cases ht : tag = 0
  · simp [takeRequest, State.running, hp, hr, room, ht, answered]
  · cases body with
    | misfit b => simp [takeRequest, State.running, hp, hr, room, ht, answered]
    | fits a => exact absurd (hm.resolve_left ht) (by simp [Body.isFit])

end

/-- Settles O7: the test of the list stands ahead of the kind, the tag and the body. -/
theorem fullListRefusesBusyOrDiscards : Obligations.FullListRefusesBusyOrDiscards := by
  intro c s kind tag hq hp hr hl
  have full : exec c s = .next (if s.control.busyWaiting.length < 4 then
        pushReply { tag := tag, kind := kind, reply := .refused (.plain .busy), listed := false } (huntControl s)
      else huntControl s) := by
    obtain rfl | ⟨α, body, serve, he, -, -⟩ := request_form hq
    · exact congrArg Host.Outcome.next (takeUnknown_of_full hp hr hl)
    · rw [he, takeRequest_of_full hp hr hl]
  rw [full]
  refine ⟨fun hb => ?_, fun hb => ?_⟩
  · rw [if_pos hb]
  · rw [if_neg (Nat.not_lt.mpr hb)]

/-- Settles O8: the tests behind a list with room. -/
theorem unknownKindsAndMalformedBodiesAreRefused : Obligations.UnknownKindsAndMalformedBodiesAreRefused := by
  refine ⟨fun s kind tag hp hr hl => ?_, fun c s kind tag hq hp hr hl hc hm => ?_⟩
  · have room : ¬Config.pendingLimit ≤ s.control.listed.length := Nat.not_le.mpr hl
    simp [exec, execUnknownKind, takeUnknown, State.running, hp, hr, room, answered]
  · obtain rfl | ⟨α, body, serve, he, hf, -⟩ := request_form hq
    · exact absurd rfl hc
    · rw [he, takeRequest_malformed hp hr hl (hf ▸ hm)]

/-! ### Notices (R65, R106, R172) -/

/-- A merged notice has the subject of the later one. -/
theorem sameSubject_of_merge? {a b c : NoticeBody} (h : a.merge? b = some c) (x : NoticeBody) :
    x.sameSubject c ↔ x.sameSubject b := by
  unfold NoticeBody.merge? at h
  split at h
  · split at h
    · cases h
      cases x <;> exact Iff.rfl
    · cases h
  · split at h
    · cases h
      cases x <;> exact Iff.rfl
    · cases h
  · cases h

/-- A notice that finds one earlier notice of its subject takes it up and stands last. -/
theorem gather_merges {b x c : NoticeBody} {before after : List NoticeBody} (hm : x.merge? b = some c)
    (h : ∀ a ∈ before ++ after, ¬a.sameSubject b) : gather b (before ++ x :: after) = before ++ after ++ [c] := by
  induction before with
  | nil =>
    rw [List.nil_append, gather, hm]
    exact gather_append fun a ha => (sameSubject_of_merge? hm a).not.mpr (h a ha)
  | cons y before ih =>
    rw [List.cons_append, gather, (merge?_eq_none y b).mpr (h y List.mem_cons_self)]
    exact congrArg (y :: ·) (ih fun a ha => h a (List.mem_cons_of_mem _ ha))

/-- What an event's notices hold after one more: those before, and one of its subject. -/
theorem mem_gather {b z : NoticeBody} {l : List NoticeBody} (h : z ∈ gather b l) :
    z ∈ l ∨ ∀ x : NoticeBody, x.sameSubject z ↔ x.sameSubject b := by
  induction l generalizing b with
  | nil =>
    rw [gather, List.mem_singleton] at h
    exact .inr fun _ => h ▸ Iff.rfl
  | cons a l ih =>
    unfold gather at h
    split at h
    · next c hc =>
      rcases ih h with hz | hz
      · exact .inl (List.mem_cons_of_mem _ hz)
      · exact .inr fun x => (hz x).trans (sameSubject_of_merge? hc x)
    · rcases List.mem_cons.mp h with rfl | h
      · exact .inl List.mem_cons_self
      · exact (ih h).imp_left (List.mem_cons_of_mem _)

/-- An event keeps at most one notice for an incident and for a point. -/
theorem gather_pairwise {b : NoticeBody} {l : List NoticeBody} (h : l.Pairwise fun x y => ¬x.sameSubject y) :
    (gather b l).Pairwise fun x y => ¬x.sameSubject y := by
  induction l generalizing b with
  | nil => exact List.pairwise_singleton _ _
  | cons a l ih =>
    obtain ⟨ha, hl⟩ := List.pairwise_cons.mp h
    unfold gather
    split
    · exact ih hl
    · next hn =>
      refine List.pairwise_cons.mpr ⟨fun z hz => ?_, ih hl⟩
      rcases mem_gather hz with hz | hz
      · exact ha z hz
      · exact (hz a).not.mpr ((merge?_eq_none a b).mp hn)

/-- Settles O5: the notice's way to the queue, and its gathering in an event. -/
theorem noticeIsDroppedQueuedOrDiscarded : Obligations.NoticeIsDroppedQueuedOrDiscarded := by
  intro b s
  have limit : Config.noticeLimit = 64 := rfl
  refine ⟨passNotice_dropped, fun hs hg hl => ?_, fun hs hg hl => ?_, fun f t l hg hf hl => ?_,
    fun l hs hg => passNotice_gathered hs hg, fun l => gather_append, fun before after x y hb hx h => ?_,
    fun before after x y hb hx h => ?_, fun l => gather_pairwise⟩
  · rw [passNotice_queued hs hg, queueNotice]
    dsimp only
    rw [if_neg (by omega)]
    rfl
  · rw [passNotice_queued hs hg, queueNotice]
    dsimp only
    rw [if_pos (by omega)]
  · have ho : f (openEvent s) = t := hf
    simp only [inEvent, hg, closeEvent, ho, hl]
  · subst hb
    refine gather_merges ?_ h
    rw [NoticeBody.merge?, if_pos hx, IncidentNotice.merge]
    cases hc : y.call <;> cases hj : y.joined <;> simp [EventSet.union, EventSet.joins]
  · subst hb
    refine gather_merges ?_ h
    rw [NoticeBody.merge?, if_pos hx, PointNotice.merge]

/-! ### The transmitter (R171) -/

/-- The end of a reply that restarts nothing (R169, R171). -/
theorem exec_replyTransmitted {s : State} {frame : List Byte} {w : Waiting} {rest : List Waiting} (hp : s.power = .running)
    (hl : s.control.line = .reply frame) (hr : s.control.replies = w :: rest)
    (hw : ¬(w.listed = true ∧ w.kind = 0x04 ∧ w.reply = .done .nothing)) :
    exec .replyTransmitted s = .next (takeNext { s with control := { s.control with replies := rest } }) := by
  have hn : w.restarts = false := by
    rw [Waiting.restarts, ← Bool.not_eq_true]
    simpa [and_assoc] using hw
  simp only [exec, execReplyTransmitted, (running_iff s).mpr hp, replySent, hl, hr, hn]
  rfl

/-- The end of a notice, or a free line (R171). -/
theorem exec_noticeTransmitted {s : State} (hp : s.power = .running) (hl : ∀ frame, s.control.line ≠ .reply frame) :
    exec .noticeTransmitted s = .next (takeNext s) := by
  simp only [exec, execNoticeTransmitted, (running_iff s).mpr hp, noticeSent, if_true]
  split
  · next b hb => exact absurd hb (hl b)
  all_goals rfl

/-- Settles O6: the transmitter at the end of a frame, and a reply that joins its order. -/
theorem transmitterTakesRepliesAheadOfNotices : Obligations.TransmitterTakesRepliesAheadOfNotices := by
  refine ⟨fun s frame w rest hp hl hr hw => ?_, fun s hp hl => ?_, fun w s => ⟨by simp, fun hl => ?_, fun hl hr => ?_⟩⟩
  · rw [exec_replyTransmitted hp hl hr hw]
    refine ⟨fun v more h => ?_, fun n ns h hm => ?_, fun h hm => ?_⟩
    · simp [takeNext, h]
    · simp [takeNext, h, hm]
    · simp [takeNext, h, hm]
  · rw [exec_noticeTransmitted hp hl]
    refine ⟨fun v more h => ?_, fun n ns h hm => ?_, fun h hm => ?_⟩
    · simp [takeNext, h]
    · simp [takeNext, h, hm]
    · simp [takeNext, h, hm]
  · rw [pushReply_of_busy w s hl]
  · simp [pushReply, startLine, hl, takeNext, hr]

/-! ### Reset -/

/-- Settles O60: the part at reset holds no order, no segment, no incident and no point. -/
theorem resetMeetsEveryInvariant : Obligations.ResetMeetsEveryInvariant := by
  have empty : State.reset.incidentList = [] := rfl
  refine ⟨?_, .of_empty rfl (by decide) (by decide), ?_, ?_, ?_⟩
  · exact ⟨by decide, by decide, by decide, by decide, rfl, nofun, nofun⟩
  · exact ⟨nofun, nofun, nofun, rfl, rfl, nofun, nofun, nofun, List.nodup_nil⟩
  · exact ⟨rfl, by simp [empty], by simp [empty], by simp [empty]⟩
  · have points : State.reset.points = [] := rfl
    have standby : State.reset.net.standby = .empty := rfl
    have stored : State.reset.store.stored = .blank := rfl
    have save : State.reset.store.save = none := rfl
    constructor <;> simp [points, standby, stored, save]

end Sys2Proof.Machine

/-! SUPPORT. Requests carried out as one event, STATUS and SUBSCRIBE (O11, O12), the lines and the receiver (O13, O14). -/

namespace Sys2Proof.Machine

/-! ### Requests whose rule is known -/

section

variable {c : Instr} {s t : State} {kind tag : Nat} {f : State → Served} {reply : ReplyBody}

/-- An admitted request whose rule makes one change and passes notices of different subjects, whatever the Control Port
holds. -/
theorem Asks.exec_notices (h : Asks c kind tag f) (ha : Admits s tag) {l : List NoticeBody}
    (hf : ∀ d, f { s with control := d } = (passNotices l { t with control := d }, reply))
    (hl : l.Pairwise fun a b => ¬a.sameSubject b) :
    exec c s = .next (answered kind tag reply (passNotices l { t with control := (huntControl s).control })) := by
  have served : f (huntControl s) = _ := hf (huntControl s).control
  rw [h.exec_eq ha, served]
  refine congrArg (fun u => Host.Outcome.next (answered kind tag reply u)) ?_
  exact inEvent_notices (s := huntControl s) (t := t) (fun d => congrArg Prod.fst (hf d)) hl

/-- An admitted request whose rule makes one change and passes no notice. -/
theorem Asks.exec_change (h : Asks c kind tag f) (ha : Admits s tag)
    (hf : ∀ d, f { s with control := d } = ({ t with control := d }, reply)) :
    exec c s = .next (answered kind tag reply { t with control := (huntControl s).control }) :=
  h.exec_notices ha (l := []) hf List.Pairwise.nil

/-- An admitted request whose rule makes one change and passes one notice. -/
theorem Asks.exec_notice (h : Asks c kind tag f) (ha : Admits s tag) {b : NoticeBody}
    (hf : ∀ d, f { s with control := d } = (passNotice b { t with control := d }, reply)) :
    exec c s = .next (answered kind tag reply (passNotice b { t with control := (huntControl s).control })) :=
  h.exec_notices ha (l := [b]) hf (List.pairwise_singleton _ _)

/-- An admitted request whose rule changes nothing. -/
theorem Asks.exec_same (h : Asks c kind tag f) (ha : Admits s tag)
    (hf : ∀ d, f { s with control := d } = ({ s with control := d }, reply)) :
    exec c s = .next (answered kind tag reply (huntControl s)) := h.exec_change ha hf

end

/-- An event that passes no notice, but changes what else the Control Port holds. -/
theorem inEvent_silent {f : State → State} {s t : State} (ht : t.control.gathered = s.control.gathered)
    (hf : ∀ g, f { s with control := { s.control with gathered := g } } =
      { t with control := { t.control with gathered := g } }) : inEvent f s = t := by
  unfold inEvent
  split
  · have same := hf s.control.gathered
    rw [← ht] at same
    exact (congrArg (fun g => f { s with control := { s.control with gathered := g } }) ht).symm.trans same
  · next hg =>
    have ho : f (openEvent s) = { t with control := { t.control with gathered := some [] } } := hf _
    rw [ho]
    exact closeEvent_openEvent (ht.trans hg)

/-! ### The tests of R13 and R14 inside an event

An event's rule meets the part with another Control Port than the one the request was judged by. -/

section

variable {s : State} {img : Image} {n : Nat} (d : ControlPort)

theorem needImage_at (serve : Image → State → Served) (hi : s.net.active = some img) :
    needImage serve { s with control := d } = serve img { s with control := d } := needImage_some _ _ img hi

theorem withPoint_at {t : Point} {r : PointRec} (serve : Point → PointRec → State → Served) (hi : s.net.active = some img)
    (ht : img.point? n = some t) (hr : s.point? n = some r) :
    withPoint n serve { s with control := d } = serve t r { s with control := d } := withPoint_some _ _ img n t r hi ht hr

theorem withStation_at {x : StationTopo} {t : Station} (serve : StationTopo → Station → State → Served)
    (hi : s.net.active = some img) (hx : img.station? n = some x) (ht : s.station? n = some t) :
    withStation n serve { s with control := d } = serve x t { s with control := d } :=
  withStation_some _ _ img n x t hi hx ht

theorem withElement_at {e : Element} {r : ElementRec} (serve : Element → ElementRec → State → Served)
    (hi : s.net.active = some img) (he : img.element? n = some e) (hr : s.element? n = some r) :
    withElement n serve { s with control := d } = serve e r { s with control := d } :=
  withElement_some _ _ img n e r hi he hr

theorem withSegment_at {t : Segment} {x : SegSupply} (serve : Segment → SegSupply → State → Served)
    (hi : s.net.active = some img) (ht : img.segment? n = some t) (hx : s.seg? n = some x) :
    withSegment n serve { s with control := d } = serve t x { s with control := d } :=
  withSegment_some _ _ img n t x hi ht hx

theorem withIncident_at {i : Incident} (serve : Incident → State → Served) (hi : s.net.active = some img)
    (hn : s.incident? n = some i) : withIncident n serve { s with control := d } = serve i { s with control := d } :=
  withIncident_some _ _ img n i hi hn

end

/-! ### STATUS and SUBSCRIBE (R173, R174) -/

theorem Standby.code_eq (x : Standby) : x.code = match x with
    | .empty => 1
    | .loading _ => 2
    | .complete _ => 3
    | .pending _ => 4 := by cases x <;> rfl

theorem PlanBuffer.code_eq (x : PlanBuffer) : x.code = match x with
    | .empty => 1
    | .computing _ _ => 2
    | .held _ => 3 := by cases x <;> rfl

/-- Settles O11: the values of STATUS, and the two flags it clears. -/
theorem statusReportsThePartAndClearsItsFlags : Obligations.StatusReportsThePartAndClearsItsFlags := by
  intro s tag ha
  have event : inEvent (fun u => (serveStatus () u).1) (huntControl s) =
      { s with
        control := { s.control with rx := [], overrun := false }
        incidents := { s.incidents with full := false } } := inEvent_silent rfl fun _ => rfl
  rw [(Asks.status tag ()).exec_eq ha, event]
  refine congrArg (fun r => Host.Outcome.next (answered 0x01 tag r _)) ?_
  have overdue : (s.incidentList.filter fun i => i.state ≠ .closed).filter (·.overdue) =
      s.incidentList.filter fun i => i.state ≠ .closed ∧ i.overdue = true := by
    rw [List.filter_filter]
    exact List.filter_congr fun i _ => by simp [Bool.and_comm]
  have queued : (s.elements.queue.filter fun o => !o.inFlight) = s.elements.queue.filter fun o => o.state = .queued :=
    List.filter_congr fun o _ => by simp [Order.inFlight]
  have image : (s.net.active.map (·.number)).getD 0 = match s.net.active with
      | some img => img.number
      | none => 0 := by cases s.net.active <;> rfl
  have standby := Standby.code_eq s.net.standby
  have plan := PlanBuffer.code_eq s.planner.buffer
  show ReplyBody.done (.status (statusOf (huntControl s))) = _
  unfold statusOf
  simp only [State.openIncidents]
  have list : (huntControl s).incidentList = s.incidentList := rfl
  simp only [list, overdue, huntControl_elements, queued, huntControl_net, image, standby, huntControl_planner, plan]
  rfl

theorem NoticeClass.mem_all (c : NoticeClass) : c ∈ NoticeClass.all := by cases c <;> decide

theorem NoticeClass.code_range (c : NoticeClass) : 1 ≤ c.code ∧ c.code ≤ 10 := by cases c <;> decide

/-- The codes of the ten classes are 1 to 10 (11.4). -/
theorem NoticeClass.ofCode_isSome (n : Nat) : (NoticeClass.ofCode n).isSome = true ↔ 1 ≤ n ∧ n ≤ 10 := by
  simp only [NoticeClass.ofCode, List.find?_isSome, decide_eq_true_eq]
  constructor
  · rintro ⟨c, -, rfl⟩
    exact c.code_range
  · rintro ⟨h1, h2⟩
    interval_cases n
    exacts [⟨.point, by decide⟩, ⟨.station, by decide⟩, ⟨.element, by decide⟩, ⟨.order, by decide⟩,
      ⟨.incident, by decide⟩, ⟨.plan, by decide⟩, ⟨.outage, by decide⟩, ⟨.topology, by decide⟩, ⟨.store, by decide⟩,
      ⟨.system, by decide⟩]

/-- Notices told one after another tell the Control Port alone, by what it held and the part time. -/
theorem passNotices_congr (l : List NoticeBody) (s t : State) (hc : s.control = t.control) (ht : s.partTime = t.partTime) :
    (passNotices l s).control = (passNotices l t).control := by
  induction l generalizing s t with
  | nil => exact hc
  | cons b l ih => exact ih _ _ (passNotice_congr b s t hc ht) (by simp [ht])

/-- A state reached by notices alone, as far as the Control Port and the clock show. -/
def Told (s t : State) : Prop := t.partTime = s.partTime ∧ ∃ l, t.control = (passNotices l s).control

theorem Told.refl (s : State) : Told s s := ⟨rfl, [], rfl⟩

theorem Told.of_eq {s t u : State} (h : Told s t) (hc : u.control = t.control) (hp : u.partTime = t.partTime) : Told s u :=
  ⟨hp.trans h.1, h.2.imp fun _ hl => hc.trans hl⟩

theorem Told.passNotices {s t : State} (h : Told s t) (m : List NoticeBody) : Told s (passNotices m t) := by
  obtain ⟨hp, l, hl⟩ := h
  refine ⟨by simp [hp], l ++ m, ?_⟩
  rw [passNotices_append]
  exact passNotices_congr m t _ hl (by simp [hp])

theorem Told.moveNotice {s t : State} (h : Told s t) (m : Nat × SupplyState × SupplyState) : Told s (moveNotice t m) := by
  unfold Machine.moveNotice
  split
  · exact h.passNotices [_]
  · exact h

theorem Told.autoEvent {s t : State} (h : Told s t) (e : AutoEvent) (also : Incident → Incident) :
    Told s (autoEvent e also t) := by
  unfold Machine.autoEvent
  split
  · exact h
  · split
    · exact (h.of_eq (u := t.updIncident _ _) rfl rfl).passNotices _
    · split
      · next u i hu =>
        have frame := createIncident_frame _ _ _ _ hu
        exact (h.of_eq (u := u) (by rw [frame]) (by rw [frame])).passNotices _
      · exact (h.of_eq (u := { t with incidents := { t.incidents with full := true } }) rfl rfl).passNotices [_]

theorem Told.supplyLoss {s t : State} (h : Told s t) (l : List Nat) (e : Nat) : Told s (supplyLoss l e t) := by
  cases l with
  | nil => exact h
  | cons n l => exact h.autoEvent _ _

/-- The STARTED notice of a restart and those of its recompute, as the event gathers them (R179 steps 4 and 5). -/
theorem restart_told (cause : RestartCause) (s : State) :
    Told (openEvent (installed cause s)) (recompute none 0 id
      (passNotice (startedNotice (openEvent (installed cause s))) (openEvent (installed cause s)))) :=
  recompute_keeps (P := Told (openEvent (installed cause s))) none 0 id (fun _ h => h) (fun _ m h => h.moveNotice m)
    (fun _ l h => h.supplyLoss l 0) _
    (((Told.refl (openEvent (installed cause s))).passNotices
      [startedNotice (openEvent (installed cause s))]).of_eq rfl rfl)

theorem installed_control (cause : RestartCause) (s : State) : (installed cause s).control = (erase cause s).control := by
  rcases installed_cases cause s with ⟨_, he⟩ | ⟨_, _, _, _, _, he⟩
  · rw [he]
  · rw [he]
    rfl

/-- After a restart every class is subscribed (R173). -/
theorem restart_subscribed (cause : RestartCause) (s : State) :
    (restart cause s).control.subscribed = NoticeClass.all := by
  have hg : (installed cause s).control.gathered = none := by rw [installed_control]; rfl
  have hs : (installed cause s).control.subscribed = NoticeClass.all := by rw [installed_control]; rfl
  obtain ⟨-, l, hl⟩ := restart_told cause s
  have told : (recompute none 0 id (passNotice (startedNotice (openEvent (installed cause s)))
      (openEvent (installed cause s)))).control.subscribed = NoticeClass.all := by
    rw [hl, passNotices_subscribed]
    exact hs
  rw [restart_eq, ownEvent, startLine_subscribed, inEvent, hg]
  dsimp only
  unfold closeEvent
  split
  · rw [passNotices_subscribed]
    exact told
  · exact told

/-- A subscribed notice outside an event takes a number (R172). -/
theorem passNotice_ne {b : NoticeBody} {s : State} (hs : b.cls ∈ s.control.subscribed) (hg : s.control.gathered = none) :
    passNotice b s ≠ s := by
  intro h
  have hn := congrArg (fun u => u.control.nextNotice) h
  rw [passNotice_queued hs hg, queueNotice] at hn
  dsimp only at hn
  split at hn
  all_goals
    dsimp only at hn
    omega

/-- Settles O12: what SUBSCRIBE stores, and where the set is read. -/
theorem subscribeReplacesTheSubscriptionSet : Obligations.SubscribeReplacesTheSubscriptionSet := by
  refine ⟨fun s tag l ha => ⟨fun hl => ?_, fun hl => ?_⟩, fun b s => ⟨passNotice_dropped, passNotice_ne⟩,
    fun s n rest hp hl hr hn => ?_, fun cause s c => ?_⟩
  · have known : (l.all fun n => (NoticeClass.ofCode n).isSome) = true := by
      rw [List.all_eq_true]
      exact fun n hn => (NoticeClass.ofCode_isSome n).mpr (hl n hn)
    refine ⟨NoticeClass.all.filter fun c => l.contains c.code, fun c => ?_, ?_⟩
    · simp [NoticeClass.mem_all]
    · have event : inEvent (fun u => (serveSubscribe l u).1) (huntControl s) =
          { s with control := { s.control with
              rx := [], subscribed := NoticeClass.all.filter fun c => l.contains c.code } } :=
        inEvent_silent rfl fun g => by simp only [serveSubscribe, known, if_true]; rfl
      rw [(Asks.subscribe tag l).exec_eq ha, event]
      simp only [serveSubscribe, known, if_true]
  · have unknown : ¬(l.all fun n => (NoticeClass.ofCode n).isSome) = true := by
      obtain ⟨n, hn, h⟩ := hl
      rw [List.all_eq_true]
      intro hall
      have := (NoticeClass.ofCode_isSome n).mp (hall n hn)
      omega
    exact (Asks.subscribe tag l).exec_same ha fun d => if_neg unknown
  · rw [exec_noticeTransmitted hp hl]
    simp [takeNext, hr, hn]
  · rw [restart_subscribed]
    exact c.mem_all

/-! ### The lines (R28, R42, R167) -/

/-- Settles O13: bytes without a whole frame, the gap timeout, and the frame that leaves. -/
theorem linesHoldDropAndSendFrames : Obligations.LinesHoldDropAndSendFrames := by
  refine ⟨fun s bytes held hp hr => ?_, fun s bytes held hp hr => ?_, fun s hp hx ht => ?_, fun s hp hx ht => ?_,
    fun s f rest hp hf => ?_⟩
  · simp only [exec, execControlFrameDiscarded, (running_iff s).mpr hp, controlBytes, hr, if_true, List.foldl_nil,
      List.isEmpty_iff]
    rfl
  · simp only [exec, execFieldFrameDiscarded, (running_iff s).mpr hp, fieldBytes, hr, if_true, List.foldl_nil,
      List.isEmpty_iff]
    rfl
  · have due : partialDue s.now s.control.rx s.control.rxAt = true := by
      simpa [partialDue, hx, State.now] using ht
    simp only [exec, execControlFrameGapTimeout, (running_iff s).mpr hp, due, Bool.and_self, if_true]
    rfl
  · have due : partialDue s.now s.field.rx s.field.rxAt = true := by
      simpa [partialDue, hx, State.now] using ht
    simp only [exec, execFieldFrameGapTimeout, (running_iff s).mpr hp, due, Bool.and_self, if_true]
    rfl
  · simp only [exec, execFieldOrderFrameSent, (running_iff s).mpr hp, sendFrame, hf, if_true]
    cases ha : f.action <;> simp [Wire.orderFrame, ha, leBytes, Action.code]

end Sys2Proof.Machine

namespace Sys2Proof

/-! ### The receiver (R28, R167) -/

/-- The receiver at one byte: what begins no frame is passed over, a frame begun is held or judged by its length and its
check. -/
theorem receive_cons (b : Byte) (rest : List Byte) : receive (b :: rest) =
    if b ≠ 0xC3#8 then receive rest
    else if rest.length < 2 then ([], b :: rest)
    else if 1024 < leNat (rest.take 2) then receive rest
    else if rest.length < leNat (rest.take 2) + 6 then ([], b :: rest)
    else if leNat ((rest.drop (leNat (rest.take 2) + 4)).take 2) =
        (crc16 (rest.take (leNat (rest.take 2) + 4))).toNat then
      ({ kind := leNat (((rest.take (leNat (rest.take 2) + 4)).drop 2).take 1)
         tag := leNat (((rest.take (leNat (rest.take 2) + 4)).drop 3).take 1)
         body := (rest.take (leNat (rest.take 2) + 4)).drop 4 } ::
          (receive (rest.drop (leNat (rest.take 2) + 6))).1, (receive (rest.drop (leNat (rest.take 2) + 6))).2)
    else receive rest := by
  have behind : ∀ k, receiveLoop (rest.length + 1) (rest.drop k) = receive (rest.drop k) := fun k =>
    receiveLoop_bound _ _ _ (by simp) (by omega)
  conv_lhs => rw [receive, List.length_cons, receiveLoop]
  dsimp only
  rw [behind]
  rfl

theorem receive_of_no_start {b : Byte} (h : b ≠ 0xC3#8) (rest : List Byte) : receive (b :: rest) = receive rest := by
  rw [receive_cons, if_pos h]

theorem leNat_pair (lo hi : Byte) : leNat [lo, hi] = lo.toNat + 256 * hi.toNat := rfl

theorem receive_of_long {lo hi : Byte} {rest : List Byte} (h : 1024 < lo.toNat + 256 * hi.toNat) :
    receive (0xC3#8 :: lo :: hi :: rest) = receive (lo :: hi :: rest) := by
  rw [receive_cons]
  simp [leNat_pair, h]

/-- A start byte with a whole frame behind it: the covered bytes and the two check bytes (11.2). -/
theorem receive_of_whole {lo hi : Byte} {covered : List Byte} {a b : Byte} {rest : List Byte}
    (hl : lo.toNat + 256 * hi.toNat ≤ 1024) (hc : covered.length = lo.toNat + 256 * hi.toNat + 2) :
    receive (0xC3#8 :: lo :: hi :: (covered ++ a :: b :: rest)) =
      if a.toNat + 256 * b.toNat = (crc16 (lo :: hi :: covered)).toNat then
        ({ kind := leNat (covered.take 1), tag := leNat ((covered.drop 1).take 1), body := covered.drop 2 } ::
          (receive rest).1, (receive rest).2)
      else receive (lo :: hi :: (covered ++ a :: b :: rest)) := by
  have whole : lo :: hi :: (covered ++ a :: b :: rest) = (lo :: hi :: covered) ++ ([a, b] ++ rest) := by simp
  have length : (lo :: hi :: covered).length = lo.toNat + 256 * hi.toNat + 4 := by simp [hc]
  rw [receive_cons]
  have len : leNat ((lo :: hi :: (covered ++ a :: b :: rest)).take 2) = lo.toNat + 256 * hi.toNat := leNat_pair lo hi
  rw [len, if_neg (by simp), if_neg (by simp), if_neg (by omega), if_neg (by simp [hc]; omega)]
  have taken : (lo :: hi :: (covered ++ a :: b :: rest)).take (lo.toNat + 256 * hi.toNat + 4) = lo :: hi :: covered := by
    rw [whole, ← length, List.take_left]
  have check : ((lo :: hi :: (covered ++ a :: b :: rest)).drop (lo.toNat + 256 * hi.toNat + 4)).take 2 = [a, b] := by
    rw [whole, ← length, List.drop_left]
    rfl
  have behind : (lo :: hi :: (covered ++ a :: b :: rest)).drop (lo.toNat + 256 * hi.toNat + 6) = rest := by
    rw [whole, ← List.append_assoc]
    exact List.drop_left' (by simp [hc])
  rw [taken, check, behind, leNat_pair]
  rfl

/-- A frame as transmitted, by its length bytes (11.2). -/
theorem receive_frame (f : Frame) (rest : List Byte) (hk : f.kind < 256) (ht : f.tag < 256) (hb : f.body.length ≤ 1024) :
    receive (f.bytes ++ rest) = (f :: (receive rest).1, (receive rest).2) := by
  have crc := (crc16 f.checked).isLt
  have two : ∀ n, n < 65536 → (BitVec.ofNat 8 n : Byte).toNat + 256 * (BitVec.ofNat 8 (n / 256) : Byte).toNat = n := by
    intro n hn
    simp only [BitVec.toNat_ofNat]
    omega
  have bytes : f.bytes ++ rest = 0xC3#8 :: BitVec.ofNat 8 f.body.length :: BitVec.ofNat 8 (f.body.length / 256) ::
      ((BitVec.ofNat 8 f.kind :: BitVec.ofNat 8 f.tag :: f.body) ++
        BitVec.ofNat 8 (crc16 f.checked).toNat :: BitVec.ofNat 8 ((crc16 f.checked).toNat / 256) :: rest) := by
    simp [Frame.bytes, Frame.checked, leBytes]
  have checked : (BitVec.ofNat 8 f.body.length : Byte) :: BitVec.ofNat 8 (f.body.length / 256) ::
      BitVec.ofNat 8 f.kind :: BitVec.ofNat 8 f.tag :: f.body = f.checked := by
    simp [Frame.checked, leBytes]
  have one : ∀ n, n < 256 → leNat [(BitVec.ofNat 8 n : Byte)] = n := by
    intro n hn
    simp only [leNat, BitVec.toNat_ofNat]
    omega
  have len := two f.body.length (by omega)
  rw [bytes, receive_of_whole (by rw [len]; exact hb) (by rw [len]; simp), checked, if_pos (two _ crc)]
  simp only [List.take_succ_cons, List.take_zero, List.drop_succ_cons, List.drop_zero, one _ hk, one _ ht]

end Sys2Proof

namespace Sys2Proof.Machine

/-- Settles O14: the receiver at a whole frame, at a byte that begins none, and at a start byte that is refused. -/
theorem receiverFindsEveryGoodFrame : Obligations.ReceiverFindsEveryGoodFrame :=
  ⟨receive_frame, fun _ rest h => receive_of_no_start h rest, fun _ _ _ h => receive_of_long h,
    fun lo hi covered a b rest hl hc hx => by rw [receive_of_whole hl hc, if_neg hx]⟩

end Sys2Proof.Machine

/-! SUPPORT. Globals, SAVE, the board's events and restarts (O16 to O20). -/

namespace Sys2Proof.Machine

/-! ### Globals (R76) -/

theorem clampNat_eq {lo hi : Nat} (n : Nat) (h : lo ≤ hi) : clampNat lo hi n = max lo (min hi n) := by
  unfold clampNat
  split
  · omega
  · split <;> omega

/-- Settles O16: the clamped globals and the timers aimed by them. -/
theorem setGlobalsClampsAndReaims : Obligations.SetGlobalsClampsAndReaims := by
  intro s tag a ha hs
  have saving : ¬s.saving = true := by simp [State.saving, hs]
  have clamped : clampGlobals a =
      { dead := max 50 (min 5000 a.dead), vent := max 60 (min 7200 a.vent), recharge := max 60 (min 7200 a.recharge) } := by
    simp only [clampGlobals, clampNat_eq _ (show 50 ≤ 5000 by decide), clampNat_eq _ (show 60 ≤ 7200 by decide)]
  have run := (Asks.setGlobals tag a).exec_change ha (t := { s with supply := { s.supply with
    globals := clampGlobals a, segs := s.supply.segs.map (reaim s.now (clampGlobals a)) } }) fun d => if_neg saving
  rw [clamped] at run
  exact run

/-! ### SAVE (R175 to R177) -/

/-- A request that a SAVE in progress holds back (R177). -/
theorem Asks.exec_saving {c : Instr} {kind tag : Nat} {f : State → Served} {s : State} {img : Image}
    (h : Asks c kind tag f) (ha : Admits s tag) (hk : kind ∈ [0x03, 0x05, 0x12, 0x20, 0x21]) (hi : s.net.active = some img)
    (hs : s.store.save.isSome)
    (hn : ∀ x n, c.named? = some (x, n) → ∃ t r, img.point? n = some t ∧ s.point? n = some r) :
    exec c s = .next (answered kind tag (.refused (.plain .busy)) (huntControl s)) := by
  refine h.exec_same ha fun d => ?_
  cases h
  case setGlobals => exact if_pos hs
  case save =>
    rw [serveSave, needImage_at d _ hi]
    exact if_pos hs
  case topoCommit => exact if_pos hs
  case pointTune a =>
    obtain ⟨t, r, ht, hr⟩ := hn _ _ rfl
    rw [servePointTune, withPoint_at d _ hi ht hr]
    exact if_pos hs
  case pointLimits a =>
    obtain ⟨t, r, ht, hr⟩ := hn _ _ rfl
    rw [servePointLimits, withPoint_at d _ hi ht hr]
    exact if_pos hs
  all_goals exact absurd hk (by decide)

theorem breakSave_none {s : State} (h : s.store.save = none) : breakSave s = s := by simp [breakSave, h]

theorem breakSave_some {s : State} {c : SaveCopy} (h : s.store.save = some c) :
    breakSave s = { s with store := { s.store with stored := .broken, save := none } } := by simp [breakSave, h]

/-- Settles O17: the copy of a SAVE, what it holds back, and its ends. -/
theorem saveRunsFromItsCopyToItsEnd : Obligations.SaveRunsFromItsCopyToItsEnd := by
  refine ⟨fun s tag img ha hi hs hb => ?_, fun s tag img ha hi hb => ?_, fun s c kind tag img hq ha hf hk hi hs hn _ => ?_,
    fun s c good hp hs => ?_, fun s c hs => ⟨?_, fun hp => ?_⟩⟩
  · have free : s.net.standby.holdsSave = false := by
      rcases hb with hb | ⟨j, hb⟩
      · rw [hb]; rfl
      · rw [hb]; rfl
    refine (Asks.save tag ()).exec_change ha (t := { s with store := { s.store with
      save := some { contents := saveContents img s, acceptedAt := s.now } } }) fun d => ?_
    rw [serveSave, needImage_at d _ hi]
    simp only [State.saving, hs, free]
    rfl
  · have held : s.net.standby.holdsSave = true := by
      rcases hb with ⟨l, hb⟩ | ⟨j, hb⟩
      · rw [hb]; rfl
      · rw [hb]; rfl
    refine (Asks.save tag ()).exec_refused ha fun u hu => ?_
    rw [serveSave, needImage_some _ u img (hu ▸ hi)]
    simp only [hu, held, if_true, ite_self]
  · obtain ⟨f, h⟩ := exists_asks hq hf
    exact h.exec_saving ha hk hi hs hn
  · simp only [exec, execSaveCompletion, (running_iff s).mpr hp, completeSave, hs, ownEvent, inEvent_notice, if_true]
    rfl
  · simp only [exec, execBoardSupplyFailure, supplyFails, breakSave_some hs]
  · have hr : ({ s with resetPin := true } : State).running = true := (running_iff s).mpr hp
    simp only [exec, execResetAssert, assertReset, hr, hold, if_true]
    rw [breakSave_some (s := { s with resetPin := true }) hs]

/-! ### The board (R178) -/

/-- Settles O18: what holds the part and what restarts it. -/
theorem restartsFollowTheirCauses : Obligations.RestartsFollowTheirCauses := by
  refine ⟨fun s h => ?_, fun s h hs => ?_, fun s hp hs => ?_, fun s hp => ?_, fun s c hp => ?_, fun s hp => ?_,
    fun s hs => ?_, fun s tag ha => ?_, fun s frame w rest hp hl hr hw hk hd => ?_⟩
  · simp [exec, execPowerOn, powerUp, h]
  · simp [exec, execPowerOn, powerUp, h, hold, breakSave_none hs]
  · have hr : ({ s with resetPin := true } : State).running = true := (running_iff s).mpr hp
    simp only [exec, execResetAssert, assertReset, hr, hold, if_true]
    rw [breakSave_none (s := { s with resetPin := true }) hs]
  · have hr : ¬({ s with resetPin := true } : State).running = true := mt (running_iff s).mp hp
    simp only [exec, execResetAssert, assertReset, if_neg hr]
  · simp only [exec, execResetRelease, releaseReset, hp]
  · simp only [exec, execResetRelease, releaseReset]
    split
    · next c hc => exact absurd hc (hp c)
    all_goals rfl
  · simp only [exec, execBoardSupplyFailure, supplyFails, breakSave_none hs]
  · exact (Asks.restart tag ()).exec_same ha fun d => rfl
  · have restarts : w.restarts = true := by simp [Waiting.restarts, hw, hk, hd]
    simp only [exec, execReplyTransmitted, (running_iff s).mpr hp, replySent, hl, hr, restarts, if_true]

/-! ### Restart (R179) -/

theorem recompute_of_no_segments {origin : Option Nat} {element : Nat} {hook : State → State} {s : State}
    (h : s.supply.segs = []) : recompute origin element hook s = s := by
  have moves : recomputeMoves s = [] := by simp [recomputeMoves, h]
  have tables : recomputeTables origin element s = s := by
    simp only [recomputeTables, moves, h, List.filter_nil, List.filterMap_nil, List.map_nil, List.foldl_nil]
    rw [← h]
  simp only [recompute, moves, tables, List.foldl_nil, List.filter_nil, List.map_nil, supplyLoss, ite_self]

/-- A restart that installs no segment sends STARTED and recomputes nothing. -/
theorem restart_of_no_segments {cause : RestartCause} {s : State} (h : (installed cause s).supply.segs = []) :
    restart cause s = startLine (passNotice (startedNotice (installed cause s)) (installed cause s)) := by
  rw [restart_eq, ownEvent]
  refine congrArg startLine ?_
  refine inEvent_notices (t := installed cause s) (l := [startedNotice (installed cause s)]) (fun d => ?_)
    (List.pairwise_singleton _ _)
  refine recompute_of_no_segments ?_
  rw [passNotice_supply]
  exact h

/-- The first notice of a settled port is numbered 0 and taken (R171, R172). -/
theorem startLine_first {b : NoticeBody} {s : State} (hs : s.control.subscribed = NoticeClass.all)
    (hg : s.control.gathered = none) (hn : s.control.notices = []) (hx : s.control.nextNotice = 0)
    (hr : s.control.replies = []) (hl : s.control.line = .free) :
    startLine (passNotice b s) = { s with control :=
      { s.control with nextNotice := 1, line := .notice (Wire.noticeFrame { number := 0, time := s.now, body := b }) } } := by
  rw [passNotice_queued (by rw [hs]; exact b.cls.mem_all) hg]
  simp only [queueNotice, hn, hx, startLine, hl, takeNext, hr]
  rcases s with ⟨_, _, _, ⟨_, _, _, _, _, _, _, _, _⟩, _, _, _, _, _, _, _, _, _, _, _⟩
  dsimp only at hn
  subst hn
  rfl

theorem erase_store (cause : RestartCause) (s : State) : (erase cause s).store.stored =
    if s.store.save.isSome then .broken else s.store.stored := by
  cases h : s.store.save with
  | none => simp [erase, breakSave_none h]
  | some c => simp [erase, breakSave_some h]

/-- The part that nothing was loaded into (R179). -/
theorem installed_of_none {cause : RestartCause} {s : State} {result : StoreResult}
    (h : loadStore (erase cause s).store.stored = (result, none)) : installed cause s =
      { erase cause s with store := { (erase cause s).store with result := result } } := by
  unfold installed
  rw [h]

theorem installed_of_some {cause : RestartCause} {s : State} {result : StoreResult} {c : StoreContents}
    (h : loadStore (erase cause s).store.stored = (result, some c)) : installed cause s =
      installImage c { erase cause s with store := { (erase cause s).store with result := result } } := by
  unfold installed
  rw [h]

/-- Settles O19: a restart that loads nothing. -/
theorem restartWithoutAValidStoreErasesEverything : Obligations.RestartWithoutAValidStoreErasesEverything := by
  intro cause s stored result hs hr
  have kept : (erase cause s).store.stored = stored := (erase_store cause s).trans hs.symm
  have loaded : loadStore stored = (result, none) := by
    rcases hr with ⟨rfl, rfl⟩ | ⟨rfl, rfl⟩ | ⟨c, k, rfl, hbad, rfl⟩
    · rfl
    · rfl
    · unfold loadStore
      dsimp only
      split
      · rfl
      · next hk =>
        split
        · rfl
        · next hv => exact absurd hv (hbad.resolve_left (by simpa [StoreContents.check] using hk))
  have inst := installed_of_none (kept.symm ▸ loaded)
  rw [restart_of_no_segments (by rw [inst]; rfl), inst,
    startLine_first rfl rfl rfl rfl rfl rfl]
  show ({ erase cause s with store := { (erase cause s).store with result := result }, control := _ } : State) = _
  rw [show (erase cause s).store = { (erase cause s).store with stored := stored } by rw [← kept]]
  rfl

/-- What a restart makes of the installed part: its recomputed tables, with the incidents and the port that follow. -/
theorem restart_frame (cause : RestartCause) (s : State) : restart cause s =
    { recomputeTables none 0 (installed cause s) with
      incidents := (restart cause s).incidents, control := (restart cause s).control } := by
  have hg : (installed cause s).control.gathered = none := by rw [installed_control]; rfl
  have run : ∃ i c, recompute none 0 id (passNotice (startedNotice (openEvent (installed cause s)))
      (openEvent (installed cause s))) = { recomputeTables none 0 (installed cause s) with incidents := i, control := c } := by
    refine recompute_keeps
      (P := fun u => ∃ i c, u = { recomputeTables none 0 (installed cause s) with incidents := i, control := c }) none 0 id
      (fun _ h => h) (fun u m h => ?_) (fun u l h => ?_) _ ?_
    · obtain ⟨i, c, rfl⟩ := h
      exact ⟨i, _, moveNotice_frame _ m⟩
    · obtain ⟨i, c, rfl⟩ := h
      exact ⟨_, _, supplyLoss_frame l 0 _⟩
    · rw [passNotice_frame]
      exact ⟨_, _, rfl⟩
  have whole : ∃ i c, restart cause s = { recomputeTables none 0 (installed cause s) with incidents := i, control := c } := by
    rw [restart_eq, ownEvent, inEvent, hg]
    obtain ⟨i, c, he⟩ := run
    dsimp only
    rw [he]
    unfold closeEvent
    split
    · rw [passNotices_frame]
      obtain ⟨_, _, hl⟩ := startLine_frame { recomputeTables none 0 (installed cause s) with
        incidents := i
        control := (passNotices _ { recomputeTables none 0 (installed cause s) with
          incidents := i, control := { c with gathered := none } }).control }
      exact ⟨i, _, hl⟩
    · obtain ⟨_, _, hl⟩ := startLine_frame { recomputeTables none 0 (installed cause s) with incidents := i, control := c }
      exact ⟨i, _, hl⟩
  obtain ⟨i, c, he⟩ := whole
  rw [he]

/-- The first notice gathered stays first where no later one is of its subject. -/
theorem passNotices_gathered_head {b : NoticeBody} (hb : ∀ x : NoticeBody, ¬b.sameSubject x) (l : List NoticeBody)
    {s : State} (h : ∃ rest, s.control.gathered = some (b :: rest)) :
    ∃ rest, (passNotices l s).control.gathered = some (b :: rest) := by
  induction l generalizing s with
  | nil => exact h
  | cons x l ih =>
    rw [passNotices_cons]
    refine ih ?_
    obtain ⟨rest, hr⟩ := h
    by_cases hs : x.cls ∈ s.control.subscribed
    · rw [passNotice_gathered hs hr]
      refine ⟨gather x rest, ?_⟩
      rw [gather, (merge?_eq_none b x).mpr (hb x)]
    · rw [passNotice_dropped hs]
      exact ⟨rest, hr⟩

/-- Notices queued stand behind those that wait. -/
theorem passNotices_notices {n : Notice} (l : List NoticeBody) {s : State} (hg : s.control.gathered = none)
    (h : ∃ rest, s.control.notices = n :: rest) : ∃ rest, (passNotices l s).control.notices = n :: rest := by
  induction l generalizing s with
  | nil => exact h
  | cons x l ih =>
    rw [passNotices_cons]
    refine ih ((passNotice_gathered_none x s).mpr hg) ?_
    obtain ⟨rest, hr⟩ := h
    by_cases hs : x.cls ∈ s.control.subscribed
    · rw [passNotice_queued hs hg, queueNotice]
      dsimp only
      split
      · exact ⟨rest, hr⟩
      · exact ⟨_, by rw [hr]; rfl⟩
    · rw [passNotice_dropped hs]
      exact ⟨rest, hr⟩

/-- Inside an event the queue and the numbers wait for its end. -/
theorem passNotices_inside (l : List NoticeBody) {s : State} (h : ∃ held, s.control.gathered = some held) :
    (passNotices l s).control.notices = s.control.notices ∧
    (passNotices l s).control.nextNotice = s.control.nextNotice := by
  induction l generalizing s with
  | nil => exact ⟨rfl, rfl⟩
  | cons x l ih =>
    obtain ⟨held, hh⟩ := h
    rw [passNotices_cons]
    by_cases hs : x.cls ∈ s.control.subscribed
    · rw [passNotice_gathered hs hh]
      exact ih ⟨_, rfl⟩
    · rw [passNotice_dropped hs]
      exact ih ⟨held, hh⟩

/-- After a restart no reply waits and STARTED, numbered 0, is on the line (R171, R179). -/
theorem restart_line (cause : RestartCause) (s : State) : (restart cause s).control.replies = [] ∧
    (restart cause s).control.line = .notice (Wire.noticeFrame
      { number := 0, time := 0, body := startedNotice (installed cause s) }) := by
  have hc := installed_control cause s
  have hg : (installed cause s).control.gathered = none := by rw [hc]; rfl
  generalize hb : startedNotice (installed cause s) = b
  have distinct : ∀ x : NoticeBody, ¬b.sameSubject x := by
    intro x
    rw [← hb]
    cases x <;> exact not_false
  have started : startedNotice (openEvent (installed cause s)) = b := hb
  have sub : ∀ x : NoticeBody, x.cls ∈ NoticeClass.all := fun x => x.cls.mem_all
  have hu : (openEvent (installed cause s)).control.subscribed = NoticeClass.all := by
    show (installed cause s).control.subscribed = _
    rw [hc]
    rfl
  generalize hR : recompute none 0 id (passNotice b (openEvent (installed cause s))) = R
  have told : Told (passNotice b (openEvent (installed cause s))) R := by
    rw [← hR]
    exact recompute_keeps (P := Told (passNotice b (openEvent (installed cause s)))) none 0 id (fun _ h => h)
      (fun _ m h => h.moveNotice m) (fun _ l h => h.supplyLoss l 0) _ ((Told.refl _).of_eq rfl rfl)
  obtain ⟨htime, l, hl⟩ := told
  have first : passNotice b (openEvent (installed cause s)) = _ :=
    passNotice_gathered (hu ▸ sub b) (openEvent_gathered _)
  obtain ⟨rest, hrest⟩ := passNotices_gathered_head (s := passNotice b (openEvent (installed cause s))) distinct l
    ⟨[], by rw [first]; rfl⟩
  have hRg : R.control.gathered = some (b :: rest) := hl ▸ hrest
  have hRc : R.control.line = .free ∧ R.control.replies = [] ∧ R.control.subscribed = NoticeClass.all := by
    rw [hl, passNotices_line, passNotices_replies, passNotices_subscribed, passNotice_line, passNotice_replies,
      passNotice_subscribed]
    refine ⟨?_, ?_, hu⟩
    · show (installed cause s).control.line = _
      rw [hc]
      rfl
    · show (installed cause s).control.replies = _
      rw [hc]
      rfl
  have hRq : R.control.notices = [] ∧ R.control.nextNotice = 0 := by
    obtain ⟨hn, hx⟩ := passNotices_inside l (s := passNotice b (openEvent (installed cause s))) ⟨_, by rw [first]⟩
    rw [hl, hn, hx, first]
    show (installed cause s).control.notices = [] ∧ (installed cause s).control.nextNotice = 0
    rw [hc]
    exact ⟨rfl, rfl⟩
  have htime0 : R.now = 0 := by
    rw [State.now, htime, passNotice_partTime]
    show (installed cause s).partTime.toNat = 0
    rcases installed_cases cause s with ⟨_, he⟩ | ⟨_, _, _, _, _, he⟩
    · rw [he]; rfl
    · rw [he]; rfl
  obtain ⟨hline, hreplies, hsub⟩ := hRc
  obtain ⟨hnot, hnext⟩ := hRq
  have event : restart cause s = startLine (passNotices rest
      (queueNotice b { R with control := { R.control with gathered := none } })) := by
    rw [restart_eq, ownEvent, inEvent, hg]
    dsimp only
    rw [started, hR, closeEvent, hRg]
    dsimp only
    rw [passNotices_cons, passNotice_queued (s := { R with control := { R.control with gathered := none } })
      (hsub ▸ sub b) rfl]
  have queued : queueNotice b { R with control := { R.control with gathered := none } } = { R with control :=
      { R.control with gathered := none, nextNotice := 1, notices := [{ number := 0, time := 0, body := b }] } } := by
    have hnow : R.partTime.toNat = 0 := htime0
    simp only [queueNotice, hnot, hnext, State.now, hnow]
    rfl
  obtain ⟨more, hmore⟩ := passNotices_notices (n := { number := 0, time := 0, body := b }) rest
    (s := queueNotice b { R with control := { R.control with gathered := none } }) (by rw [queued]) ⟨[], by rw [queued]⟩
  rw [event]
  refine ⟨?_, ?_⟩
  · rw [startLine_replies, passNotices_replies, queued]
    exact hreplies
  · have free : (passNotices rest (queueNotice b { R with control := { R.control with gathered := none } })).control.line =
        .free := by
      rw [passNotices_line, queued]
      exact hline
    have none_waits : (passNotices rest (queueNotice b { R with control :=
        { R.control with gathered := none } })).control.replies = [] := by
      rw [passNotices_replies, queued]
      exact hreplies
    rw [startLine, if_pos free, takeNext, none_waits]
    dsimp only
    rw [hmore]

/-- Settles O20: a restart that loads its store. -/
theorem restartInstallsAValidStore : Obligations.RestartInstallsAValidStore := by
  intro cause s c hs hw hv
  have stored : (erase cause s).store.stored = .written c (crc32 c.bytes) := by
    rw [erase_store, hs]
    exact hw
  have loaded : loadStore (erase cause s).store.stored = (.valid, some c) := by
    rw [stored, loadStore, if_neg (by simp [StoreContents.check]), hv]
  have inst := installed_of_some loaded
  have frame := restart_frame cause s
  obtain ⟨replies, line⟩ := restart_line cause s
  generalize hi : (restart cause s).incidents = i at frame
  generalize hc : (restart cause s).control = d at frame replies line
  rw [inst] at frame line
  refine ⟨_, frame, rfl, rfl, rfl, rfl, rfl, rfl, rfl, rfl, ?_, fun x hx => ?_, rfl, rfl, ?_, replies, line⟩
  · show ((recomputeTables none 0 _).supply.segs).map (·.segment) = _
    rw [recomputeTables_segs, List.map_map]
    show ((c.image.segments.map fun x => liveSegment 0 x.number).map _) = _
    rw [List.map_map]
    exact List.map_congr_left fun x _ => by simp [liveSegment]
  · obtain ⟨y, hy, rfl⟩ := List.mem_map.mp hx
    obtain ⟨z, hz, rfl⟩ := List.mem_map.mp hy
    rw [recomputeSeg_segment]
    have state := recomputeSeg_state (installImage c { erase cause s with
        store := { (erase cause s).store with result := .valid } }).now c.globals
      ((installImage c { erase cause s with store := { (erase cause s).store with result := .valid } }).reachable.contains
        z.number) (liveSegment 0 z.number)
    refine ⟨fun hr => state.trans ?_, fun hr => state.trans ?_⟩
    · have : (installImage c { erase cause s with
        store := { (erase cause s).store with result := .valid } }).reachable.contains z.number = true :=
        List.contains_iff_mem.mpr hr
      rw [this]
      rfl
    · have : (installImage c { erase cause s with
        store := { (erase cause s).store with result := .valid } }).reachable.contains z.number = false :=
        Bool.not_eq_true _ ▸ mt List.contains_iff_mem.mp hr
      rw [this]
      rfl
  · show ({ (erase cause s).store with result := .valid } : ConfigStore) = _
    rw [← stored]
    rfl

end Sys2Proof.Machine

/-! SUPPORT. The topology requests and the activation (O21 to O24). -/

namespace Sys2Proof.Machine

/-! ### Events that go on from a changed part -/

/-- An event whose rule first changes the part is the rest of the rule on the changed part. -/
theorem inEvent_from {f g : State → State} {s t : State} (h : ∀ d, f { s with control := d } = g { t with control := d }) :
    inEvent f s = inEvent g { t with control := s.control } := by
  have hs : f s = g { t with control := s.control } := h s.control
  have ho : f (openEvent s) = g (openEvent { t with control := s.control }) := h _
  unfold inEvent
  rw [hs, ho]

/-- An admitted request whose rule changes the part and goes on with a run of its own. -/
theorem Asks.exec_event {c : Instr} {s t : State} {kind tag : Nat} {f : State → Served} {g : State → State}
    {reply : ReplyBody} (h : Asks c kind tag f) (ha : Admits s tag)
    (hf : ∀ d, f { s with control := d } = (g { t with control := d }, reply)) :
    exec c s = .next (answered kind tag reply (inEvent g { t with control := (huntControl s).control })) := by
  have served : f (huntControl s) = _ := hf (huntControl s).control
  rw [h.exec_eq ha, served]
  refine congrArg (fun u => Host.Outcome.next (answered kind tag reply u)) ?_
  exact inEvent_from (s := huntControl s) fun d => congrArg Prod.fst (hf d)

/-- An event that leaves the part in a known shape beside the incidents and the port, with the replies as they were. -/
theorem inEvent_frame {f : State → State} {s x : State}
    (hf : ∀ d, d.replies = s.control.replies →
      ∃ i c, f { s with control := d } = { x with incidents := i, control := c } ∧ c.replies = s.control.replies) :
    ∃ i c, inEvent f s = { x with incidents := i, control := c } ∧ c.replies = s.control.replies := by
  unfold inEvent
  split
  · exact hf s.control rfl
  · obtain ⟨i, c, he, hc⟩ := hf { s.control with gathered := some [] } rfl
    have ho : f (openEvent s) = { x with incidents := i, control := c } := he
    rw [ho]
    unfold closeEvent
    split
    · rw [passNotices_frame]
      exact ⟨i, _, rfl, by rw [passNotices_replies]; exact hc⟩
    · exact ⟨i, c, rfl, hc⟩

/-! ### TOPO_BEGIN and the gap timer (R16, R18) -/

/-- Settles O21: the load begun, and its gap timer. -/
theorem loadBeginsAndTimesOut : Obligations.LoadBeginsAndTimesOut := by
  have limits : Config.segmentLimit = 256 ∧ Config.elementLimit = 512 ∧ Config.pointLimit = 192 ∧
      Config.stationLimit = 64 := ⟨rfl, rfl, rfl, rfl⟩
  obtain ⟨l1, l2, l3, l4⟩ := limits
  refine ⟨fun s tag a ha => ⟨fun h0 h1 h2 h3 h4 => ?_, fun h => ?_⟩, fun s l hp hl => ⟨fun h => ?_, fun h => ?_⟩⟩
  · refine (Asks.topoBegin tag a).exec_change ha (t := s.setStandby _) fun d => if_neg ?_
    omega
  · refine (Asks.topoBegin tag a).exec_same ha fun d => if_pos ?_
    omega
  · have due : l.gapAt ≤ s.now := h
    simp only [exec, execGapTimerExpiry, (running_iff s).mpr hp, gapExpiry, hl, if_pos due, if_true, ownEvent,
      inEvent_notice]
    rfl
  · have due : ¬l.gapAt ≤ s.now := Nat.not_le.mpr h
    simp only [exec, execGapTimerExpiry, (running_iff s).mpr hp, gapExpiry, hl, if_neg due, if_true]

/-! ### TOPO_PART (R17, R21) -/

theorem partRaw_kind {r : PartRecords} {k : RecordKind} (h : partKind r = some k) : ∀ x ∈ partRaw r, x.kind = k := by
  intro x hx
  cases r
  case unknown => cases h
  all_goals
    cases h
    obtain ⟨y, -, rfl⟩ := List.mem_map.mp hx
    rfl

/-- A part adds as many records of its kind as it holds. -/
theorem countKind_part {r : PartRecords} {k : RecordKind} (h : partKind r = some k) (l : List RawRecord) :
    countKind k (l ++ partRaw r) = countKind k l + (partRaw r).length := by
  have all : (partRaw r).filter (fun x => x.kind = k) = partRaw r :=
    List.filter_eq_self.mpr fun x hx => by simpa using partRaw_kind h x hx
  simp [countKind, List.filter_append, all]

/-- Settles O22: a part that is taken, and one that is refused. -/
theorem topoPartIsAddedOrLeavesTheLoadAsItWas : Obligations.TopoPartIsAddedOrLeavesTheLoadAsItWas := by
  intro s tag a ha
  have h := Asks.topoPart tag a
  cases hs : s.net.standby with
  | loading l =>
    have serve : ∀ d, serveTopoPart a { s with control := d } = match partKind a.records with
        | none => refuse .range { s with control := d }
        | some k =>
          if a.sequence ≠ l.next then refuse .sequence { s with control := d }
          else if k.top < countKind k l.records + (partRaw a.records).length then refuse .range { s with control := d }
          else (State.setStandby { s with control := d } (.loading (addPart s.now a l)),
            .done (heldCounts (addPart s.now a l).records)) := by
      intro d
      unfold serveTopoPart
      simp only [hs]
      rfl
    refine .inr ⟨l, rfl, fun hk => ?_, fun k hk => ⟨fun hn => ?_, fun hn hc => ?_, fun hn hc => ?_⟩⟩
    · refine h.exec_same ha fun d => ?_
      rw [serve, hk]
      rfl
    · refine h.exec_same ha fun d => ?_
      rw [serve, hk]
      exact if_pos hn
    · rw [countKind_part hk] at hc
      refine h.exec_same ha fun d => ?_
      rw [serve, hk]
      dsimp only
      rw [if_neg (not_not.mpr hn), if_pos hc]
      rfl
    · rw [countKind_part hk] at hc
      refine h.exec_change ha (t := s.setStandby (.loading (addPart s.now a l))) fun d => ?_
      rw [serve, hk]
      dsimp only
      rw [if_neg (not_not.mpr hn), if_neg (Nat.not_lt.mpr hc)]
      rfl
  | _ =>
    refine .inl ⟨nofun, h.exec_same ha fun d => ?_⟩
    unfold serveTopoPart
    simp only [hs]
    rfl

/-! ### TOPO_COMMIT (R20, R22, R23) -/

section

variable {s : State} {tag check : Nat}

/-- The counts test, kind by kind (R20 test 1). -/
theorem countFault_eq (l : Loading) : countFault l =
    if countKind .segment l.records ≠ l.segments then
      some (.countMismatch .segment l.segments (countKind .segment l.records))
    else if countKind .element l.records ≠ l.elements then
      some (.countMismatch .element l.elements (countKind .element l.records))
    else if countKind .point l.records ≠ l.points then
      some (.countMismatch .point l.points (countKind .point l.records))
    else if countKind .station l.records ≠ l.stations then
      some (.countMismatch .station l.stations (countKind .station l.records))
    else none := by
  unfold countFault
  simp only [List.find?_cons, List.find?_nil, Loading.declared]
  by_cases h1 : countKind .segment l.records = l.segments
  · by_cases h2 : countKind .element l.records = l.elements
    · by_cases h3 : countKind .point l.records = l.points
      · by_cases h4 : countKind .station l.records = l.stations
        · simp [h1, h2, h3, h4]
        · simp [h1, h2, h3, h4]
      · simp [h1, h2, h3]
    · simp [h1, h2]
  · simp [h1]

theorem idle_iff (s : State) :
    s.idle = true ↔ s.elements.queue = [] ∧ ∀ p c, s.planner.buffer ≠ .computing p c := by
  unfold State.idle
  cases s.planner.buffer <;> simp

theorem not_idle_iff (s : State) :
    ¬s.idle = true ↔ s.elements.queue ≠ [] ∨ ∃ p c, s.planner.buffer = .computing p c := by
  rw [idle_iff]
  constructor
  · intro h
    by_cases hq : s.elements.queue = []
    · refine .inr ?_
      by_contra hb
      exact h ⟨hq, fun p c hp => hb ⟨p, c, hp⟩⟩
    · exact .inl hq
  · rintro (h | ⟨p, c, h⟩) ⟨hq, hb⟩
    · exact h hq
    · exact hb p c h

theorem serveTopoCommit_loading {l : Loading} (hs : s.store.save = none) (hl : s.net.standby = .loading l) :
    serveTopoCommit check s = match commitFault l check with
      | some d => (s.setStandby .empty, .refused d)
      | none => commitImage (Image.ofRaw l.image l.records)
          (s.setStandby (.complete (Image.ofRaw l.image l.records))) := by
  have saving : ¬s.saving = true := by simp [State.saving, hs]
  rw [serveTopoCommit, if_neg saving]
  simp only [hl] <;> rfl

theorem serveTopoCommit_complete {img : Image} (hs : s.store.save = none) (hl : s.net.standby = .complete img) :
    serveTopoCommit check s = commitImage img s := by
  have saving : ¬s.saving = true := by simp [State.saving, hs]
  rw [serveTopoCommit, if_neg saving, hl]

/-- A commit that a conflict stops leaves the image COMPLETE (R22). -/
theorem commitImage_conflict {img : Image} {k : RecordKind} {n : Nat} (h : conflictTest img s = some (k, n)) :
    commitImage img s = (s.setStandby (.complete img), .refused (.conflict k n)) := by
  rw [commitImage, h]

theorem commitImage_waits {img : Image} (h : conflictTest img s = none) (hi : ¬s.idle = true) :
    commitImage img s = (s.setStandby (.pending img), .done (.commit false)) := by
  rw [commitImage, h]
  exact if_neg hi

theorem commitImage_activates {img : Image} (h : conflictTest img s = none) (hi : s.idle = true) :
    commitImage img s = (activate (passInActivation .plain) img s, .done (.commit true)) := by
  rw [commitImage, h]
  exact if_pos hi

end

/-- A commit of a loaded image past its three tests that activates it (R23). -/
theorem exec_topoCommit_activates {s : State} {tag check : Nat} {l : Loading} (ha : Admits s tag)
    (hs : s.store.save = none) (hl : s.net.standby = .loading l) (hf : commitFault l check = none)
    (hc : conflictTest (Image.ofRaw l.image l.records) s = none) (hq : s.elements.queue = [])
    (hb : ∀ p c, s.planner.buffer ≠ .computing p c) :
    exec (.topoCommit tag (.fits check)) s = .next (answered 0x12 tag (.done (.commit true))
      (inEvent (activate (passInActivation .plain) (Image.ofRaw l.image l.records))
        { huntControl s with net := { s.net with standby := .complete (Image.ofRaw l.image l.records) } })) := by
  refine (Asks.topoCommit tag check).exec_event ha
    (t := s.setStandby (.complete (Image.ofRaw l.image l.records))) fun d => ?_
  rw [serveTopoCommit_loading (s := { s with control := d }) hs hl, hf]
  exact commitImage_activates (s := State.setStandby { s with control := d } (.complete (Image.ofRaw l.image l.records)))
    hc ((idle_iff _).mpr ⟨hq, hb⟩)

/-- Settles O23: the tests of a commit in their order. -/
theorem commitTestsEndTheLoadOrLeaveItPending : Obligations.CommitTestsEndTheLoadOrLeaveItPending := by
  intro s tag check ha
  have h := Asks.topoCommit tag check
  have saving : s.store.save = none → ¬s.saving = true := fun hs => by simp [State.saving, hs]
  refine ⟨fun hs => ?_, fun hs hl => ?_, fun img hs hl => ?_, fun l hs hl => ?_, fun img hs hl => ⟨?_, ?_, ?_⟩⟩
  · exact h.exec_same ha fun d => if_pos hs
  · refine h.exec_same ha fun d => (if_neg (saving hs)).trans ?_
    simp only [hl]
    rfl
  · refine h.exec_same ha fun d => (if_neg (saving hs)).trans ?_
    simp only [hl]
  · intro withStandby img counted mismatch sound
    have refused : ∀ d, commitFault l check = some d → exec (.topoCommit tag (.fits check)) s =
        .next (answered 0x12 tag (.refused d) (withStandby .empty)) := by
      intro d hd
      refine h.exec_change ha (t := s.setStandby .empty) fun e => ?_
      rw [serveTopoCommit_loading (s := { s with control := e }) hs hl, hd]
      rfl
    have no_count : counted → countFault l = none := by
      rintro ⟨h1, h2, h3, h4⟩
      simp [countFault_eq, h1, h2, h3, h4]
    have no_fault : sound → commitFault l check = none := by
      rintro ⟨hc, hk, hv⟩
      rw [commitFault, no_count hc, checkFault, if_pos (show crc32Final l.check = BitVec.ofNat 32 check from hk), hv]
      rfl
    refine ⟨fun hc => refused _ ?_, fun hc hk => refused _ ?_, fun d hc hk hv => refused _ ?_, fun k n hso hcf => ?_,
      fun hso hcf hw => ?_, fun hso hcf hq hb => exec_topoCommit_activates ha hs hl (no_fault hso) hcf hq hb⟩
    · have : countFault l = some mismatch := by
        rw [countFault_eq]
        by_cases h1 : countKind .segment l.records = l.segments
        · by_cases h2 : countKind .element l.records = l.elements
          · by_cases h3 : countKind .point l.records = l.points
            · have h4 : countKind .station l.records ≠ l.stations := fun h4 => hc ⟨h1, h2, h3, h4⟩
              simp [mismatch, h1, h2, h3, h4]
            · simp [mismatch, h1, h2, h3]
          · simp [mismatch, h1, h2]
        · simp [mismatch, h1]
      rw [commitFault, this]
      rfl
    · rw [commitFault, no_count hc, checkFault, if_neg (show crc32Final l.check ≠ BitVec.ofNat 32 check from hk)]
      rfl
    · rw [commitFault, no_count hc, checkFault, if_pos (show crc32Final l.check = BitVec.ofNat 32 check from hk), hv]
      rfl
    · refine h.exec_change ha (t := s.setStandby (.complete img)) fun d => ?_
      rw [serveTopoCommit_loading (s := { s with control := d }) hs hl, no_fault hso]
      exact commitImage_conflict (s := State.setStandby { s with control := d } (.complete img)) hcf
    · refine h.exec_change ha (t := s.setStandby (.pending img)) fun d => ?_
      rw [serveTopoCommit_loading (s := { s with control := d }) hs hl, no_fault hso]
      exact commitImage_waits (s := State.setStandby { s with control := d } (.complete img)) hcf ((not_idle_iff _).mpr hw)
  · intro k n hcf
    have kept : s.setStandby (.complete img) = s := by rw [State.setStandby, ← hl]
    refine h.exec_same ha fun d => ?_
    rw [serveTopoCommit_complete (s := { s with control := d }) hs hl, commitImage_conflict (s := { s with control := d }) hcf]
    exact Prod.ext (congrArg (fun u : State => { u with control := d }) kept) rfl
  · intro hcf hw
    refine h.exec_change ha (t := s.setStandby (.pending img)) fun d => ?_
    rw [serveTopoCommit_complete (s := { s with control := d }) hs hl]
    exact commitImage_waits (s := { s with control := d }) hcf ((not_idle_iff _).mpr hw)
  · intro hcf hq hb
    refine h.exec_event ha (t := s) fun d => ?_
    rw [serveTopoCommit_complete (s := { s with control := d }) hs hl]
    exact commitImage_activates (s := { s with control := d }) hcf ((idle_iff _).mpr ⟨hq, hb⟩)

end Sys2Proof.Machine

/-! SUPPORT. Activation and reachability (O24, O26, O27). -/

namespace Sys2Proof.Machine

/-! ### Without a record in use -/

/-- No isolation record is in use. -/
def NoRecords (s : State) : Prop := ∀ r ∈ s.register.records, r = none

section

variable {s : State}

theorem NoRecords.record? (h : NoRecords s) (k : Nat) : s.record? k = none := by
  unfold State.record?
  cases hk : s.register.records[k]? with
  | none => rfl
  | some r => rw [h r (List.mem_of_getElem? hk)]; rfl

theorem NoRecords.recordOf (h : NoRecords s) (n : Nat) : s.recordOf n = none := by
  simp [State.recordOf, h.record?]

theorem NoRecords.congr {t : State} (h : NoRecords s) (hr : t.register = s.register) : NoRecords t := by
  unfold NoRecords
  rw [hr]
  exact h

/-- With no record in use a record pass has nothing to do, whatever waits PENDING. -/
theorem NoRecords.recordPass (h : NoRecords s) (c : Ctx) (hooks : Hooks) : recordPass c hooks s = s := by
  unfold Machine.recordPass
  generalize List.range Config.recordLimit = l
  induction l with
  | nil => rfl
  | cons k l ih =>
    have : passRecord c hooks k s = s := by simp [passRecord, h.record?]
    rw [List.foldl_cons, this, ih]

theorem NoRecords.handOutcome (h : NoRecords s) (o : Order) (x : OrderOutcome) : handOutcome o x s = s := by
  unfold Machine.handOutcome
  cases o.origin.incident with
  | none => rfl
  | some n => simp [h.recordOf n]

theorem Quiet.noRecords (h : Quiet s) : NoRecords s := h.records

end

/-! ### The first activation (R23, R25 to R27) -/

theorem keptPoint_none (t : Point) : keptPoint none t = false := rfl

theorem carryPoint_none (l : List PointRec) (t : Point) : carryPoint none l t = PointRec.fresh t := by
  unfold carryPoint
  split <;> rfl

theorem staleCarried_fresh (l : List Station) (t : Point) : staleCarried l t (PointRec.fresh t) = PointRec.fresh t := by
  unfold staleCarried
  split <;> rfl

theorem staleNotices_none {img : Image} {s : State} (h : s.net.active = none) : staleNotices img s = [] := by
  have : img.points.filter (keptPoint s.net.active) = [] := by
    rw [List.filter_eq_nil_iff, h]
    exact fun _ _ => Bool.false_ne_true
  unfold staleNotices
  simp only [this, List.filterMap_nil]

/-- The tables of the first image: every record as it starts. -/
theorem carryOver_first {img : Image} {s : State} (ha : s.net.active = none) (hf : s.field.stations = [])
    (hs : s.supply.segs = []) : carryOver img s =
      { s with
        net := { s.net with active := some img }
        field := { s.field with stations := img.stations.map fun x => freshStation x.address }
        points := img.points.map PointRec.fresh
        elements := { s.elements with table := img.elements.map fun e => freshElement s.now e.number }
        supply := { s.supply with segs := img.segments.map fun x => liveSegment s.now x.number } } := by
  have points : (img.points.map fun t => staleCarried (img.stations.map (carryStation s.field.stations)) t
      (carryPoint s.net.active s.points t)) = img.points.map PointRec.fresh :=
    List.map_congr_left fun t _ => by rw [ha, carryPoint_none, staleCarried_fresh]
  have elements : img.elements.map (carryElement s.now s.net.active s.elements.table) =
      img.elements.map fun e => freshElement s.now e.number :=
    List.map_congr_left fun e _ => by rw [ha]; rfl
  unfold carryOver
  dsimp only
  rw [points, elements, hf, hs]
  rfl

/-- The state after the tables of an activation: its recompute and what follows reach the incidents and the port alone, where
no record is in use and no image waits. -/
theorem recompute_frame {hook : State → State} {u : State} (hh : ∀ v : State, v.register = u.register →
    v.net.standby = u.net.standby → hook v = v) (origin : Option Nat) (e : Nat) :
    ∃ i c, recompute origin e hook u = { recomputeTables origin e u with incidents := i, control := c } ∧
      c.replies = u.control.replies := by
  refine recompute_keeps (P := fun v => ∃ i c, v = { recomputeTables origin e u with incidents := i, control := c } ∧
    c.replies = u.control.replies) origin e hook (fun v h => ?_) (fun v m h => ?_) (fun v l h => ?_) u ⟨_, _, rfl, rfl⟩
  · obtain ⟨i, c, rfl, hc⟩ := h
    exact ⟨i, c, hh { recomputeTables origin e u with incidents := i, control := c } rfl rfl, hc⟩
  · obtain ⟨i, c, rfl, hc⟩ := h
    obtain ⟨-, l, hl⟩ := (Told.refl _).moveNotice (t := { recomputeTables origin e u with incidents := i, control := c }) m
    exact ⟨i, _, moveNotice_frame _ m, by rw [hl, passNotices_replies]; exact hc⟩
  · obtain ⟨i, c, rfl, hc⟩ := h
    obtain ⟨-, m, hm⟩ := (Told.refl _).supplyLoss (t := { recomputeTables origin e u with incidents := i, control := c }) l e
    exact ⟨_, _, supplyLoss_frame l e _, by rw [hm, passNotices_replies]; exact hc⟩

theorem elapsedStations_fresh {s : State} {img : Image}
    (h : s.field.stations = img.stations.map fun x => freshStation x.address) : elapsedStations s = [] := by
  have : s.field.stations.filter (fun t => t.silenceAt.any fun x => x ≤ s.now) = [] := by
    rw [List.filter_eq_nil_iff, h]
    intro t ht
    obtain ⟨x, -, rfl⟩ := List.mem_map.mp ht
    exact Bool.false_ne_true
  rw [elapsedStations, this]
  rfl

/-- The first activation with nothing in hand (R27). -/
theorem activate_first {s : State} {img : Image} (ha : s.net.active = none)
    (hb : s.planner.buffer = .empty) (hr : NoRecords s) (hf : s.field.stations = []) (hs : s.supply.segs = []) :
    ∃ i c, activate (passInActivation .plain) img s =
      { recomputeTables none 0 (carryOver img (bumpBasis s)) with
        net := { active := some img, standby := .empty, basis := s.net.basis + 1 }, incidents := i, control := c } ∧
      c.replies = s.control.replies := by
  have discarded : discardPlan s = s := by
    unfold discardPlan
    dsimp only
    rw [hb]
    dsimp only
    rw [← hb]
  obtain ⟨i, c, he, hc⟩ := recompute_frame (u := carryOver img (bumpBasis s)) (hook := passInActivation .plain)
    (fun v hv _ => (hr.congr hv).recordPass _ _) none 0
  have first := carryOver_first (s := bumpBasis s) (img := img) ha hf hs
  unfold activate
  dsimp only
  rw [discarded, staleNotices_none (s := bumpBasis s) ha, he, passNotices_nil, elapsedStations_fresh (img := img),
    List.foldl_nil, passNotice_frame]
  · exact ⟨i, _, rfl, by rw [passNotice_replies]; exact hc⟩
  · rw [passNotice_field]
    show (carryOver img (bumpBasis s)).field.stations = _
    rw [first]

/-- The records of a first image after the recompute: LIVE where gas reaches, CUT elsewhere (R67, R70). -/
theorem recomputeSeg_liveSegment (now m n : Nat) (g : Globals) (b : Bool) :
    (recomputeSeg now g b (liveSegment m n)).segment = n ∧
    (recomputeSeg now g b (liveSegment m n)).state = if b then .live else .cut := by
  cases b <;> exact ⟨rfl, rfl⟩

/-- The segment records that the first activation leaves. -/
theorem first_segs {u : State} {img : Image} (ha : u.net.active = none) (hf : u.field.stations = [])
    (hs : u.supply.segs = []) : (recomputeTables none 0 (carryOver img u)).supply.segs =
      img.segments.map fun x => recomputeSeg u.now u.supply.globals ((carryOver img u).reachable.contains x.number)
        (liveSegment u.now x.number) := by
  have segs : (carryOver img u).supply.segs = img.segments.map fun x => liveSegment u.now x.number := by
    rw [carryOver_first ha hf hs]
  rw [recomputeTables_segs, segs, List.map_map]
  rfl

/-- What the first activation leaves of the part, told of the event's outcome `t`. -/
theorem first_activation {s t : State} {img : Image} {i : IncidentTable} {c : ControlPort} (ha : s.net.active = none)
    (hf : s.field.stations = []) (hs : s.supply.segs = [])
    (ht : t = { recomputeTables none 0 (carryOver img (bumpBasis s)) with
      net := { active := some img, standby := .empty, basis := s.net.basis + 1 }, incidents := i, control := c }) :
    t.elements = { s.elements with table := img.elements.map fun e => freshElement s.now e.number } ∧
    t.field = { s.field with stations := img.stations.map fun x => freshStation x.address } ∧
    t.points = img.points.map PointRec.fresh ∧
    t.supply.segs.map (·.segment) = img.segments.map (·.number) ∧
    (∀ x ∈ t.supply.segs, (x.segment ∈ t.reachable → x.state = .live) ∧ (x.segment ∉ t.reachable → x.state = .cut)) := by
  have first := carryOver_first (img := img) (s := bumpBasis s) ha hf hs
  have segs : t.supply.segs = img.segments.map fun x => recomputeSeg (bumpBasis s).now (bumpBasis s).supply.globals
      ((carryOver img (bumpBasis s)).reachable.contains x.number) (liveSegment (bumpBasis s).now x.number) := by
    rw [ht]
    exact first_segs ha hf hs
  have reached : t.reachable = (carryOver img (bumpBasis s)).reachable := by
    rw [ht]
    exact reachable_congr rfl (passable_congr rfl)
  refine ⟨?_, ?_, ?_, ?_, fun x hx => ?_⟩
  · rw [ht]
    exact congrArg State.elements first
  · rw [ht]
    exact congrArg State.field first
  · rw [ht]
    exact congrArg State.points first
  · rw [segs, List.map_map]
    exact List.map_congr_left fun x _ => (recomputeSeg_liveSegment ..).1
  · rw [segs] at hx
    obtain ⟨z, -, rfl⟩ := List.mem_map.mp hx
    rw [(recomputeSeg_liveSegment ..).1, (recomputeSeg_liveSegment ..).2, reached]
    by_cases hr : z.number ∈ (carryOver img (bumpBasis s)).reachable
    · simp [hr]
    · simp [hr]

/-! ### The conflict test (R22) -/

theorem elementConflict_false {s : State} {img : Image} {n : Nat} : elementConflict s img n = false ↔
    ∃ a b, s.elemTopo? n = some a ∧ img.element? n = some b ∧ alike a b = true := by
  unfold elementConflict
  split
  · next a b ha hb => simp [ha, hb]
  · next h =>
    refine ⟨nofun, fun ⟨a, b, ha, hb, _⟩ => absurd hb (h a b ha)⟩

theorem mem_listedElements {s : State} {n : Nat} : n ∈ s.listedElements ↔
    ∃ r, some r ∈ s.register.records ∧ ∃ e ∈ r.entries, e.element = n := by
  simp [State.listedElements, List.mem_flatMap]

theorem mem_workedSegments {s : State} {n : Nat} : n ∈ s.workedSegments ↔
    (∃ o ∈ s.supply.outages, o.segment = n) ∨ ∃ i ∈ s.incidentList, i.state ≠ .closed ∧ i.segment = n := by
  simp [State.workedSegments, and_assoc]

/-- The conflict test passes exactly where every listed element is held alike and every worked segment is held. -/
theorem conflictTest_eq_none_iff {s : State} {img : Image} : conflictTest img s = none ↔
    (∀ r, some r ∈ s.register.records → ∀ e ∈ r.entries, ∃ a b, s.elemTopo? e.element = some a ∧
      img.element? e.element = some b ∧ alike a b = true) ∧
    (∀ o ∈ s.supply.outages, img.holds .segment o.segment) ∧
    (∀ i ∈ s.incidentList, i.state ≠ .closed → img.holds .segment i.segment) := by
  have elements : (s.listedElements.find? (elementConflict s img)) = none ↔
      ∀ r, some r ∈ s.register.records → ∀ e ∈ r.entries, ∃ a b, s.elemTopo? e.element = some a ∧
        img.element? e.element = some b ∧ alike a b = true := by
    rw [List.find?_eq_none]
    constructor
    · intro h r hr e he
      exact elementConflict_false.mp (by simpa using h _ (mem_listedElements.mpr ⟨r, hr, e, he, rfl⟩))
    · intro h n hn
      obtain ⟨r, hr, e, he, rfl⟩ := mem_listedElements.mp hn
      simpa using elementConflict_false.mpr (h r hr e he)
  have segments : (s.workedSegments.find? fun n => (img.segment? n).isNone) = none ↔
      (∀ o ∈ s.supply.outages, img.holds .segment o.segment) ∧
      (∀ i ∈ s.incidentList, i.state ≠ .closed → img.holds .segment i.segment) := by
    rw [List.find?_eq_none]
    simp only [← Image.segment?_isSome, Option.isNone_iff_eq_none, ← Option.isSome_iff_ne_none, ← ne_eq]
    constructor
    · intro h
      exact ⟨fun o ho => h _ (mem_workedSegments.mpr (.inl ⟨o, ho, rfl⟩)),
        fun i hi hc => h _ (mem_workedSegments.mpr (.inr ⟨i, hi, hc, rfl⟩))⟩
    · rintro ⟨ho, hi⟩ n hn
      rcases mem_workedSegments.mp hn with ⟨o, hom, rfl⟩ | ⟨i, him, hc, rfl⟩
      · exact ho o hom
      · exact hi i him hc
  rw [← elements, ← segments]
  unfold conflictTest
  split
  · next n hn => simp [hn]
  · next hn => simp [hn]

/-! ### A PENDING image at its activating moments (R24) -/

section

variable {s : State} {img : Image}

/-- What an activating moment comes to while an image waits. -/
theorem activateTop_pending (c : Ctx) (hi : s.net.standby = .pending img) : activateTop c s =
    if s.idle then
      match conflictTest img s with
      | some (k, n) =>
        passNotice (.activationFailed img.number k n) { s with net := { s.net with standby := .complete img } }
      | none => activate (passInActivation c) img s
    else s := by
  unfold activateTop activateIfDue
  simp only [hi] <;> rfl

theorem activateTop_waits (c : Ctx) (hi : s.net.standby = .pending img) (h : ¬s.idle = true) : activateTop c s = s := by
  rw [activateTop_pending c hi, if_neg h]

theorem activateTop_fails (c : Ctx) (hi : s.net.standby = .pending img) (h : s.idle = true) {k : RecordKind} {n : Nat}
    (hc : conflictTest img s = some (k, n)) : activateTop c s =
      passNotice (.activationFailed img.number k n) { s with net := { s.net with standby := .complete img } } := by
  rw [activateTop_pending c hi, if_pos h, hc]

theorem activateTop_activates (c : Ctx) (hi : s.net.standby = .pending img) (h : s.idle = true)
    (hc : conflictTest img s = none) : activateTop c s = activate (passInActivation c) img s := by
  rw [activateTop_pending c hi, if_pos h, hc]

/-- An activating moment reads of the Control Port nothing. -/
theorem conflictTest_passNotice (b : NoticeBody) (s : State) : conflictTest img (passNotice b s) = conflictTest img s := by
  rw [passNotice_frame]
  rfl

theorem idle_passNotice (b : NoticeBody) (s : State) : (passNotice b s).idle = s.idle := by
  rw [passNotice_frame]
  rfl

end

/-- Two notices passed one after another, of which the first has no subject that a later one shares. -/
theorem pairwise_pair {a b : NoticeBody} (h : ¬a.sameSubject b) : [a, b].Pairwise fun x y => ¬x.sameSubject y := by
  simpa using h

/-- An activating moment as the end of an event that does nothing else. -/
theorem inEvent_moment {u : State} {img : Image} (hi : u.net.standby = .pending img) :
    (¬u.idle = true → inEvent (activateTop .plain) u = u) ∧
    (∀ k n, u.idle = true → conflictTest img u = some (k, n) → inEvent (activateTop .plain) u =
      passNotice (.activationFailed img.number k n) { u with net := { u.net with standby := .complete img } }) ∧
    (u.idle = true → conflictTest img u = none →
      inEvent (activateTop .plain) u = inEvent (activate (passInActivation .plain) img) u) := by
  refine ⟨fun h => ?_, fun k n h hc => ?_, fun h hc => ?_⟩
  · exact inEvent_notices (t := u) (l := []) (fun c => activateTop_waits (s := { u with control := c }) .plain hi h)
      List.Pairwise.nil
  · exact inEvent_notices (t := { u with net := { u.net with standby := .complete img } })
      (l := [.activationFailed img.number k n])
      (fun c => activateTop_fails (s := { u with control := c }) .plain hi h hc) (List.pairwise_singleton _ _)
  · exact inEvent_from (s := u) (t := u) fun c => activateTop_activates (s := { u with control := c }) .plain hi h hc

/-- A failed activation behind another notice of the same event. -/
theorem failed_behind (b : NoticeBody) (img : Image) (k : RecordKind) (n : Nat) (u : State) :
    passNotice (.activationFailed img.number k n)
      { passNotice b u with net := { (passNotice b u).net with standby := .complete img } } =
    passNotices [b, .activationFailed img.number k n] { u with net := { u.net with standby := .complete img } } := by
  have behind : { passNotice b u with net := { (passNotice b u).net with standby := .complete img } } =
      passNotice b { u with net := { u.net with standby := .complete img } } := by
    rw [passNotice_frame b u, passNotice_frame b { u with net := { u.net with standby := .complete img } },
      passNotice_congr b { u with net := { u.net with standby := .complete img } } u rfl rfl]
  rw [behind]
  rfl

/-- An activating moment behind a notice of the same event. -/
theorem inEvent_told_moment {b : NoticeBody} {u : State} {img : Image} (hi : u.net.standby = .pending img)
    (hb : ∀ k n, ¬b.sameSubject (.activationFailed img.number k n)) :
    (¬u.idle = true → inEvent (fun v => activateTop .plain (passNotice b v)) u = passNotice b u) ∧
    (∀ k n, u.idle = true → conflictTest img u = some (k, n) →
      inEvent (fun v => activateTop .plain (passNotice b v)) u = passNotice (.activationFailed img.number k n)
        { passNotice b u with net := { (passNotice b u).net with standby := .complete img } }) ∧
    (u.idle = true → conflictTest img u = none → inEvent (fun v => activateTop .plain (passNotice b v)) u =
      inEvent (fun v => activate (passInActivation .plain) img (passNotice b v)) u) := by
  have hp : ∀ c, (passNotice b { u with control := c }).net.standby = .pending img := fun c => by
    rw [passNotice_net]; exact hi
  have idle : ∀ c, (passNotice b { u with control := c }).idle = u.idle := fun c => idle_passNotice ..
  have conflict : ∀ c, conflictTest img (passNotice b { u with control := c }) = conflictTest img u :=
    fun c => conflictTest_passNotice ..
  refine ⟨fun h => ?_, fun k n h hc => ?_, fun h hc => ?_⟩
  · exact inEvent_notices (t := u) (l := [b])
      (fun c => activateTop_waits .plain (hp c) (by rw [idle]; exact h)) (List.pairwise_singleton _ _)
  · rw [failed_behind]
    exact inEvent_notices (t := { u with net := { u.net with standby := .complete img } })
      (l := [b, .activationFailed img.number k n])
      (fun c => (activateTop_fails .plain (hp c) ((idle c).trans h) ((conflict c).trans hc)).trans
        (failed_behind b img k n { u with control := c })) (pairwise_pair (hb k n))
  · exact inEvent_from (s := u) (t := u) fun c =>
      activateTop_activates .plain (hp c) ((idle c).trans h) ((conflict c).trans hc)

/-! ### O24 -/

/-- A completed computation told and held, at a part time later than its acceptance (R137, R144). -/
theorem exec_planCompletion {s : State} {cur : Image} {p : Plan} {c : PlanCopy} (ha : s.net.active = some cur)
    (hp : s.power = .running) (hb : s.planner.buffer = .computing p c) (ht : p.startTime < s.partTime.toNat) :
    exec .planCompletion s = .next (startLine (inEvent
      (holdPlan (finishPlan s.partTime.toNat s.net.basis (computePlan cur c p))) s)) := by
  have later : p.startTime < s.now := ht
  simp only [exec, execPlanCompletion, (running_iff s).mpr hp, completePlan, hb, ha, if_pos later, if_true, ownEvent]
  rfl

/-- A cancelled plan: the buffer emptied, and an activating moment (R24, R148). -/
theorem exec_planCancel {s t : State} {cur : Image} {tag : Nat} {p : Plan} {c : PlanCopy} {g : State → State}
    (ha : Admits s tag) (hi : s.net.active = some cur) (hb : s.planner.buffer = .computing p c)
    (hg : ∀ d, activateTop .plain (emptyBuffer { s with control := d }) = g { t with control := d }) :
    exec (.planCancel tag (.fits p.number)) s = .next (answered 0x62 tag (.done .nothing)
      (inEvent g { t with control := (huntControl s).control })) := by
  refine (Asks.planCancel tag p.number).exec_event ha fun d => ?_
  rw [servePlanCancel, needImage_at d _ hi]
  simp only [hb, if_true, hg]

/-- A cancelled QUEUED order with no record in use: it leaves the queue, its notice follows, and an activating moment
(R24, R130, R131). -/
theorem endOrder_cancelled {u : State} {o : Order} (hq : o.state = .queued) (hr : NoRecords u) :
    endOrder (hooksTop .plain) o .cancelled u =
      activateTop .plain (orderNotice o .cancelled (leaveQueue o.number u)) := by
  have hf : ¬o.inFlight = true := by simp [Order.inFlight, hq]
  have quiet : NoRecords (orderNotice o .cancelled (leaveQueue o.number u)) :=
    hr.congr (by rw [orderNotice, passNotice_register]; rfl)
  have finished : finishOrder o .cancelled u = orderNotice o .cancelled (leaveQueue o.number u) := quiet.handOutcome o _
  have passed : ∀ hooks, recordPass .plain hooks (orderNotice o .cancelled (leaveQueue o.number u)) =
      orderNotice o .cancelled (leaveQueue o.number u) := fun hooks => quiet.recordPass .plain hooks
  unfold endOrder
  dsimp only
  rw [finished, if_neg hf]
  generalize orderNotice o .cancelled (leaveQueue o.number u) = v at passed ⊢
  dsimp only [hooksTop, recordPassTop]
  rw [passed]

/-- The tables of an activation read of the Control Port nothing. -/
theorem firstTables_control (img : Image) (s : State) (d : ControlPort) :
    recomputeTables none 0 (carryOver img (bumpBasis { s with control := d })) =
      { recomputeTables none 0 (carryOver img (bumpBasis s)) with control := d } := rfl

/-- The first activation as one event. -/
theorem event_activate_first {s : State} {img : Image} (ha : s.net.active = none)
    (hb : s.planner.buffer = .empty) (hr : NoRecords s) (hf : s.field.stations = []) (hs : s.supply.segs = []) :
    ∃ i c, inEvent (activate (passInActivation .plain) img) s =
      { recomputeTables none 0 (carryOver img (bumpBasis s)) with
        net := { active := some img, standby := .empty, basis := s.net.basis + 1 }, incidents := i, control := c } ∧
      c.replies = s.control.replies := by
  have frame : ∀ d : ControlPort, d.replies = s.control.replies →
      ∃ i c, activate (passInActivation .plain) img { s with control := d } =
        { ({ recomputeTables none 0 (carryOver img (bumpBasis s)) with
          net := { active := some img, standby := .empty, basis := s.net.basis + 1 } } : State) with
          incidents := i, control := c } ∧ c.replies = s.control.replies := by
    intro d hd
    obtain ⟨i, c, he, hc⟩ := activate_first (img := img) (s := { s with control := d }) ha hb hr hf hs
    rw [firstTables_control] at he
    exact ⟨i, c, he, hc.trans hd⟩
  exact inEvent_frame frame

/-- The steps of every activation (R27, and R63 and R26 behind them). -/
theorem activate_steps (pass : State → State) (img : Image) (s : State) : activate pass img s =
    let emptied : State := { s with planner := { s.planner with buffer := .empty } }
    let discarded := match s.planner.buffer with
      | .held p => passNotice (planNotice p .topologyChanged s.net.basis) emptied
      | _ => emptied
    let u : State := { discarded with net := { s.net with basis := s.net.basis + 1 } }
    let v := recompute none 0 pass (carryOver img u)
    let w := passNotice (.activated img.number v.net.basis) { v with net := { v.net with standby := .empty } }
    let x := passNotices (staleNotices img u) w
    (elapsedStations x).foldl (fun y a => silenceEvent a y) x := by
  have bumped : bumpBasis (discardPlan s) =
      { discardPlan s with net := { s.net with basis := s.net.basis + 1 } } := by
    obtain ⟨c, -, hd⟩ := discardPlan_frame s
    rw [hd]
    rfl
  unfold activate
  dsimp only
  rw [bumped]
  unfold discardPlan
  cases s.planner.buffer <;> rfl

theorem conflictTest_of_nothing {s : State} {img : Image} (hr : NoRecords s) (ho : s.supply.outages = [])
    (hi : s.incidentList = []) : conflictTest img s = none := by
  refine conflictTest_eq_none_iff.mpr ⟨fun r hr' => absurd (hr _ hr') (Option.some_ne_none r), ?_, ?_⟩
  · rw [ho]
    exact fun o h => absurd h List.not_mem_nil
  · rw [hi]
    exact fun i h => absurd h List.not_mem_nil

/-- What the first commit of the image `img` leaves of the part. -/
theorem first_commit {s : State} {img : Image} (hact : s.net.active = none) (hb : s.planner.buffer = .empty)
    (hr : NoRecords s) (hf : s.field.stations = []) (hs : s.supply.segs = []) :
    let t := inEvent (activate (passInActivation .plain) img)
      { huntControl s with net := { s.net with standby := .complete img } }
    t.net = { active := some img, standby := .empty, basis := s.net.basis + 1 } ∧
    t.elements = { s.elements with table := img.elements.map fun e => freshElement s.now e.number } ∧
    t.field = { s.field with stations := img.stations.map fun x => freshStation x.address } ∧
    t.points = img.points.map PointRec.fresh ∧
    t.supply.segs.map (·.segment) = img.segments.map (·.number) ∧
    (∀ x ∈ t.supply.segs, (x.segment ∈ t.reachable → x.state = .live) ∧ (x.segment ∉ t.reachable → x.state = .cut)) ∧
    t.planner = s.planner ∧ t.register = s.register ∧ t.store = s.store ∧ t.control.replies = s.control.replies := by
  intro t
  obtain ⟨i, c, ht, hc⟩ := event_activate_first (img := img)
    (s := { huntControl s with net := { s.net with standby := .complete img } }) hact hb hr hf hs
  obtain ⟨helements, hfield, hpoints, hsegments, hstates⟩ := first_activation
    (s := { huntControl s with net := { s.net with standby := .complete img } }) hact hf hs ht
  refine ⟨?_, helements, hfield, hpoints, hsegments, hstates, ?_, ?_, ?_, ?_⟩
  · exact (congrArg State.net ht :)
  · exact (congrArg State.planner ht :)
  · exact (congrArg State.register ht :)
  · exact (congrArg State.store ht :)
  · exact Eq.trans (congrArg (fun u : State => u.control.replies) ht :) hc

theorem leaveQueue_last {s : State} {o : Order} (h : s.elements.queue = [o]) :
    leaveQueue o.number s = { s with elements := { s.elements with queue := [] } } := by
  simp [leaveQueue, h]

theorem sendsUsed_queued {o : Order} (h : o.state = .queued) : o.sendsUsed = 0 := by
  simp [Order.sendsUsed, Order.inFlight, h]

/-- The part behind a cancelled only order, as the event sees it. -/
theorem endOrder_last {u : State} {o : Order} (hq : o.state = .queued) (hr : NoRecords u) (hu : u.elements.queue = [o]) :
    endOrder (hooksTop .plain) o .cancelled u = activateTop .plain
      (passNotice (.order { order := o.number, element := o.element, action := o.action, origin := o.origin,
                            override := o.override, outcome := .cancelled, tag := o.tag, sendsUsed := 0,
                            enqueuedAt := o.enqueuedAt, endedAt := u.now })
        { u with elements := { u.elements with queue := [] } }) := by
  rw [endOrder_cancelled hq hr, leaveQueue_last hu, orderNotice, sendsUsed_queued hq]
  rfl

/-- Settles O24: the first activation by the tables of R25 to R27, the conflict test, the steps of an activation, and the three
activating moments. -/
theorem firstCommitActivatesTheLoadedImage : Obligations.FirstCommitActivatesTheLoadedImage := by
  refine ⟨fun s tag check l ha hs hact hl hq hb hquiet hst hsegs hout hinc c1 c2 c3 c4 hk hv => ?_,
    fun s img => conflictTest_eq_none_iff, fun pass img s => activate_steps pass img s, fun s img cur hact hstand => ?_⟩
  · have no_fault : commitFault l check = none := by
      have counts : countFault l = none := by simp [countFault_eq, c1, c2, c3, c4]
      rw [commitFault, counts, checkFault, if_pos (show crc32Final l.check = BitVec.ofNat 32 check from hk), hv]
      rfl
    have no_conflict := conflictTest_of_nothing (img := Image.ofRaw l.image l.records) hquiet.noRecords hout hinc
    have no_plan : ∀ p c, s.planner.buffer ≠ .computing p c := by rw [hb]; exact fun _ _ => PlanBuffer.noConfusion
    exact ⟨_, exec_topoCommit_activates ha hs hl no_fault no_conflict hq no_plan,
      first_commit hact hb hquiet.noRecords hst hsegs⟩
  refine ⟨fun tag p c ha hb => ?_, fun p c hp hb ht => ?_, fun tag o ha hq hstate hr => ?_⟩
  · have cancelled := exec_planCancel (t := { s with planner := { s.planner with buffer := .empty } })
      (g := activateTop .plain) ha hact hb fun _ => rfl
    obtain ⟨waits, fails, activates⟩ := inEvent_moment
      (u := { huntControl s with planner := { s.planner with buffer := .empty } }) hstand
    have idle (hq : s.elements.queue = []) :
        ({ huntControl s with planner := { s.planner with buffer := .empty } } : State).idle = true :=
      (idle_iff _).mpr ⟨hq, fun _ _ => PlanBuffer.noConfusion⟩
    refine ⟨fun hq => ?_, fun k n hq hc => ?_, fun hq hc => ?_⟩
    · exact cancelled.trans (congrArg (fun u => Host.Outcome.next (answered 0x62 tag (.done .nothing) u))
        (waits fun h => hq ((idle_iff _).mp h).1))
    · exact cancelled.trans (congrArg (fun u => Host.Outcome.next (answered 0x62 tag (.done .nothing) u)) (fails k n (idle hq) hc))
    · exact cancelled.trans (congrArg (fun u => Host.Outcome.next (answered 0x62 tag (.done .nothing) u)) (activates (idle hq) hc))
  · have held := exec_planCompletion hact hp hb ht
    generalize finishPlan s.partTime.toNat s.net.basis (computePlan cur c p) = q at held ⊢
    have event : inEvent (holdPlan q) s = inEvent (fun v => activateTop .plain
        (passNotice (planNotice q (planVerdict q) s.net.basis) v))
        { s with planner := { s.planner with buffer := .held q } } :=
      inEvent_from (s := s) (t := { s with planner := { s.planner with buffer := .held q } }) fun _ => rfl
    rw [event] at held
    obtain ⟨waits, fails, activates⟩ := inEvent_told_moment (b := planNotice q (planVerdict q) s.net.basis)
      (u := { s with planner := { s.planner with buffer := .held q } }) (img := img) hstand fun _ _ h => h
    have idle (hq : s.elements.queue = []) :
        ({ s with planner := { s.planner with buffer := .held q } } : State).idle = true :=
      (idle_iff _).mpr ⟨hq, fun _ _ => PlanBuffer.noConfusion⟩
    refine ⟨fun hq => ?_, fun k n hq hc => ?_, fun hq hc => ?_⟩
    · exact held.trans (congrArg (fun u => Host.Outcome.next (startLine u)) (waits fun h => hq ((idle_iff _).mp h).1))
    · exact held.trans (congrArg (fun u => Host.Outcome.next (startLine u)) (fails k n (idle hq) hc))
    · exact held.trans (congrArg (fun u => Host.Outcome.next (startLine u)) (activates (idle hq) hc))
  · have found : s.order? o.number = some o := by simp [State.order?, hq]
    have flight : ¬o.inFlight = true := by simp [Order.inFlight, hstate]
    have cancelled := (Asks.orderCancel tag o.number).exec_event
      (t := { s with elements := { s.elements with queue := [] } }) (s := s) (g := fun v => activateTop .plain (passNotice
        (.order { order := o.number, element := o.element, action := o.action, origin := o.origin,
                  override := o.override, outcome := .cancelled, tag := o.tag, sendsUsed := 0,
                  enqueuedAt := o.enqueuedAt, endedAt := s.now }) v)) (reply := .done .nothing) ha fun d => by
      rw [serveOrderCancel, needImage_at d _ hact]
      rw [show ({ s with control := d } : State).order? o.number = some o from found]
      dsimp only
      rw [if_neg flight, endOrder_last (u := { s with control := d }) hstate hr hq]
      rfl
    obtain ⟨waits, fails, activates⟩ := inEvent_told_moment (b := .order
        { order := o.number, element := o.element, action := o.action, origin := o.origin,
          override := o.override, outcome := .cancelled, tag := o.tag, sendsUsed := 0,
          enqueuedAt := o.enqueuedAt, endedAt := s.now })
      (u := { huntControl s with elements := { s.elements with queue := [] } }) (img := img) hstand fun _ _ h => h
    have idle (hb : ∀ p c, s.planner.buffer ≠ .computing p c) :
        ({ huntControl s with elements := { s.elements with queue := [] } } : State).idle = true :=
      (idle_iff _).mpr ⟨rfl, hb⟩
    refine ⟨fun ⟨p, c, hb⟩ => ?_, fun k n hb hc => ?_, fun hb hc => ?_⟩
    · exact cancelled.trans (congrArg (fun u => Host.Outcome.next (answered 0x31 tag (.done .nothing) u))
        (waits fun h => ((idle_iff _).mp h).2 p c hb))
    · exact cancelled.trans (congrArg (fun u => Host.Outcome.next (answered 0x31 tag (.done .nothing) u)) (fails k n (idle hb) hc))
    · exact cancelled.trans (congrArg (fun u => Host.Outcome.next (answered 0x31 tag (.done .nothing) u)) (activates (idle hb) hc))

end Sys2Proof.Machine

/-! SUPPORT. Carry-over and reachability (O26, O27). -/

namespace Sys2Proof.Machine

/-! ### Tables under distinct numbers -/

/-- The record that a table made record by record from another holds at a number of it, where the numbers are distinct. -/
theorem find?_map_of_nodup {α β : Type} (k : α → Nat) (g : β → Nat) (f : α → β) {l : List α}
    (hg : ∀ x, g (f x) = k x) (hl : (l.map k).Nodup) {x : α} (hx : x ∈ l) :
    ((l.map f).find? fun r => decide (g r = k x)) = some (f x) := by
  induction l with
  | nil => exact absurd hx List.not_mem_nil
  | cons y l ih =>
    obtain ⟨hy, hl⟩ := List.nodup_cons.mp hl
    rw [List.map_cons, List.find?_cons]
    rcases List.mem_cons.mp hx with rfl | hx
    · simp [hg]
    · have : k y ≠ k x := fun h => hy (h ▸ List.mem_map_of_mem hx)
      rw [hg, decide_eq_false this]
      exact ih hl hx

theorem find?_isSome_of_mem {α : Type} (k : α → Nat) {l : List α} {n : Nat} (h : n ∈ l.map k) :
    ∃ r, (l.find? fun r => decide (k r = n)) = some r := by
  obtain ⟨x, hx, hn⟩ := List.mem_map.mp h
  exact Option.isSome_iff_exists.mp (List.find?_isSome.mpr ⟨x, hx, by simpa using hn⟩)

/-! ### Alike elements and carried records (R25, R26, R85) -/

theorem alike_iff (o e : Element) : alike o e = true ↔ o.kind = e.kind ∧
    ((o.kind = .valve ∧ ((o.endA = e.endA ∧ o.endB = e.endB) ∨ (o.endA = e.endB ∧ o.endB = e.endA))) ∨
      (o.kind = .regulator ∧ o.endA = e.endA ∧ o.endB = e.endB) ∨ (o.kind = .source ∧ o.endB = e.endB)) := by
  unfold alike
  cases o.kind <;> simp

theorem sameRange_iff (o p : Point) : sameRange o p = true ↔ o.pl = p.pl ∧ o.ph = p.ph := by simp [sameRange]

theorem carryElement_alike {now : Nat} {old : Image} {l : List ElementRec} {o e : Element} {r : ElementRec}
    (ho : old.element? e.number = some o) (hr : (l.find? fun r => r.number = e.number) = some r)
    (h : alike o e = true) : carryElement now (some old) l e = r := by
  simp [carryElement, ho, hr, h]

theorem carryElement_unlike {now : Nat} {old : Image} {l : List ElementRec} {e : Element}
    (h : ∀ o ∈ old.elements, o.number = e.number → ¬alike o e = true) :
    carryElement now (some old) l e = freshElement now e.number := by
  unfold carryElement
  split
  · next o r ho hr =>
    obtain ⟨hn, hm⟩ := key_of_find? Element.number _ old.elements o ho
    rw [if_neg (h o hm hn)]
  · rfl

theorem carryPoint_kept {old : Image} {l : List PointRec} {o p : Point} {r : PointRec}
    (ho : old.point? p.number = some o) (hr : (l.find? fun r => r.number = p.number) = some r)
    (h : sameRange o p = true) : carryPoint (some old) l p = r := by
  simp [carryPoint, keptPoint, ho, hr, h]

theorem carryPoint_new {old : Image} {l : List PointRec} {p : Point}
    (h : ∀ o ∈ old.points, o.number = p.number → ¬sameRange o p = true) :
    carryPoint (some old) l p = PointRec.fresh p := by
  have : keptPoint (some old) p = false := by
    rw [keptPoint, Option.bind_some, Option.any_eq_false_iff_get]
    intro hs
    obtain ⟨hn, hm⟩ := key_of_find? Point.number _ old.points _ (Option.some_get hs).symm
    simpa using h _ hm hn
  unfold carryPoint
  rw [this]
  split <;> rfl

theorem carryPoint_number (old : Option Image) (l : List PointRec) (p : Point) :
    (carryPoint old l p).number = p.number := by
  unfold carryPoint
  split
  · next r hr =>
    split
    · exact (key_of_find? PointRec.number _ l r hr).1
    · rfl
  · rfl

theorem staleCarried_number (l : List Station) (p : Point) (r : PointRec) : (staleCarried l p r).number = r.number := by
  unfold staleCarried
  split
  · rfl
  · exact staleOf_number r

theorem staleOf_same {r : PointRec} (h : r.quality = .never ∨ r.quality = .stale) : staleOf r = r := by
  unfold staleOf
  rcases h with h | h <;> rw [h]

theorem staleOf_sampled {r : PointRec} (h : r.quality ≠ .never) (h' : r.quality ≠ .stale) :
    staleOf r = { r with quality := .stale, rate := none } := by
  unfold staleOf
  cases hq : r.quality <;> simp_all

theorem carryStation_address (l : List Station) (x : StationTopo) : (carryStation l x).address = x.address := by
  unfold carryStation
  split
  · next r hr => exact (key_of_find? Station.address _ l r hr).1
  · rfl

/-! ### The tables of the new image -/

section

variable {s : State} {old img : Image}

theorem carryOver_element? (hd : NumbersDistinct img) {e : Element} (he : e ∈ img.elements) :
    (carryOver img s).element? e.number = some (carryElement s.now s.net.active s.elements.table e) :=
  find?_map_of_nodup Element.number ElementRec.number _ (carryElement_number _ _ _) hd.elements he

theorem carryOver_point? (hd : (img.points.map (·.number)).Nodup) {p : Point} (hp : p ∈ img.points) :
    (carryOver img s).point? p.number =
      some (staleCarried (carryOver img s).field.stations p (carryPoint s.net.active s.points p)) :=
  find?_map_of_nodup Point.number PointRec.number _
    (fun _ => (staleCarried_number ..).trans (carryPoint_number ..)) hd hp

theorem carryOver_station? (hd : (img.stations.map (·.address)).Nodup) {x : StationTopo} (hx : x ∈ img.stations) :
    (carryOver img s).station? x.address = some (carryStation s.field.stations x) :=
  find?_map_of_nodup StationTopo.address Station.address _ (carryStation_address _) hd hx

theorem carryOver_seg? (hd : NumbersDistinct img) {g : Segment} (hg : g ∈ img.segments) :
    (carryOver img s).seg? g.number = some (carrySegment s.now img s.supply.segs g) :=
  find?_map_of_nodup Segment.number SegSupply.segment _ (fun _ => (carrySegment_cases ..).1) hd.segments hg

/-- The record of an element of the new image (R25). -/
theorem carryOver_elements (hact : s.net.active = some old) (hold : NumbersDistinct old) (himg : NumbersDistinct img)
    (ht : s.elements.table.map (·.number) = old.elements.map (·.number)) {e : Element} (he : e ∈ img.elements) :
    ((∃ o ∈ old.elements, o.number = e.number ∧ alike o e = true) →
      (carryOver img s).element? e.number = s.element? e.number) ∧
    ((∀ o ∈ old.elements, o.number = e.number → ¬alike o e = true) →
      (carryOver img s).element? e.number = some (freshElement s.now e.number)) := by
  rw [carryOver_element? himg he, hact]
  refine ⟨fun ⟨o, ho, hn, h⟩ => ?_, fun h => by rw [carryElement_unlike h]⟩
  have found : old.element? e.number = some o := hn ▸ find?_of_mem_nodup Element.number _ hold.elements _ ho
  obtain ⟨r, hr⟩ := find?_isSome_of_mem ElementRec.number (l := s.elements.table) (n := e.number)
    (by rw [ht, ← hn]; exact List.mem_map_of_mem ho)
  rw [carryElement_alike found hr h]
  exact hr.symm

/-- The record of a point of the new image (R26, R63). -/
theorem carryOver_points (hact : s.net.active = some old) (hold : (old.points.map (·.number)).Nodup)
    (himg : (img.points.map (·.number)).Nodup) {p : Point} (hp : p ∈ img.points) :
    (∀ r o, s.point? p.number = some r → o ∈ old.points → o.number = p.number → o.pl = p.pl → o.ph = p.ph →
      ((∃ x ∈ (carryOver img s).field.stations, x.address = p.station ∧ x.state = .reporting) →
        (carryOver img s).point? p.number = some r) ∧
      (r.quality = .never ∨ r.quality = .stale → (carryOver img s).point? p.number = some r) ∧
      ((∀ x ∈ (carryOver img s).field.stations, x.address = p.station → x.state ≠ .reporting) →
        r.quality ≠ .never → r.quality ≠ .stale →
        (carryOver img s).point? p.number = some { r with quality := .stale, rate := none })) ∧
    ((∀ o ∈ old.points, o.number = p.number → ¬(o.pl = p.pl ∧ o.ph = p.ph)) →
      (carryOver img s).point? p.number = some (PointRec.fresh p)) := by
  rw [carryOver_point? himg hp, hact]
  generalize (carryOver img s).field.stations = stations
  refine ⟨fun r o hr ho hn hl hh => ?_, fun h => ?_⟩
  · have found : old.point? p.number = some o := hn ▸ find?_of_mem_nodup Point.number _ hold _ ho
    rw [carryPoint_kept found hr ((sameRange_iff o p).mpr ⟨hl, hh⟩), staleCarried]
    refine ⟨fun hx => ?_, fun hq => ?_, fun hx hnever hstale => ?_⟩
    · rw [if_pos (by simpa using hx)]
    · rw [staleOf_same hq, ite_self]
    · rw [if_neg (by simpa using hx), staleOf_sampled hnever hstale]
  · rw [carryPoint_new fun o ho hn hs => h o ho hn ((sameRange_iff o p).mp hs), staleCarried_fresh]

/-- The record of a station of the new image (R26). -/
theorem carryOver_stations (himg : (img.stations.map (·.address)).Nodup) {x : StationTopo} (hx : x ∈ img.stations) :
    (∀ r, s.station? x.address = some r → r.silenceAt = none → (carryOver img s).station? x.address = some r) ∧
    (∀ r a, s.station? x.address = some r → r.silenceAt ≠ none → r.lastAccepted = some a →
      (carryOver img s).station? x.address = some { r with silenceAt := some (a + x.limit) }) ∧
    (s.station? x.address = none → (carryOver img s).station? x.address = some (freshStation x.address)) := by
  rw [carryOver_station? himg hx]
  unfold State.station?
  refine ⟨fun r hr h => ?_, fun r a hr h ha => ?_, fun hr => ?_⟩
  · have same : { r with silenceAt := none } = r := h ▸ rfl
    simp only [carryStation, hr, h, Option.map_none, same]
  · obtain ⟨y, hy⟩ := Option.ne_none_iff_exists'.mp h
    simp [carryStation, hr, hy, ha]
  · simp [carryStation, hr]

end

/-- Settles O26: the tables of the new image, record by record. -/
theorem carryOverKeepsAlikeElements : Obligations.CarryOverKeepsAlikeElements := by
  intro s old img hact hold himg ht t same
  have alike_same (o e : Element) : same o e ↔ alike o e = true := (alike_iff o e).symm
  refine ⟨?_, fun e he => ⟨?_, ?_⟩, fun hop hip hp => ⟨?_, fun p hp => carryOver_points hact hop hip hp⟩,
    fun hst => ⟨?_, fun x hx => carryOver_stations hst hx⟩, ?_, fun g hg => ?_, rfl, rfl, rfl, rfl, rfl, rfl, rfl⟩
  · show List.map _ (List.map _ _) = _
    rw [List.map_map]
    exact List.map_congr_left fun e _ => carryElement_number ..
  · exact find?_of_mem_nodup Element.number _ himg.elements _ he
  · simp only [alike_same]
    exact carryOver_elements hact hold himg ht he
  · show List.map _ (List.map _ _) = _
    rw [List.map_map]
    exact List.map_congr_left fun p _ => (staleCarried_number ..).trans (carryPoint_number ..)
  · show List.map _ (List.map _ _) = _
    rw [List.map_map]
    exact List.map_congr_left fun x _ => carryStation_address ..
  · show List.map _ (List.map _ _) = _
    rw [List.map_map]
    exact List.map_congr_left fun g _ => (carrySegment_cases ..).1
  · rw [carryOver_seg? himg hg]
    unfold State.seg?
    refine ⟨fun r hr => ?_, fun hr => ?_⟩
    · simp [carrySegment, hr]
    · simp [carrySegment, hr, liveSegment, State.now]

/-! ### The closure (R10) -/

section

variable {img : Image} {pass : Nat → Bool}

theorem carriesInto_iff (e : Element) (set : List Nat) (n : Nat) : carriesInto e set n = true ↔
    (e.kind = .source ∧ e.endB = n) ∨
    (e.kind = .valve ∧ ((e.endA = n ∧ e.endB ∈ set) ∨ (e.endB = n ∧ e.endA ∈ set))) ∨
    (e.kind = .regulator ∧ e.endB = n ∧ e.endA ∈ set) := by
  unfold carriesInto
  cases e.kind <;> simp

/-- A round carries gas only along the closure. -/
theorem reachRound_carried {set : List Nat} (h : ∀ n ∈ set, Carried img pass n) :
    ∀ n ∈ reachRound img pass set, Carried img pass n := by
  intro n hn
  obtain ⟨hseg, hn | ⟨e, he, hp, hc⟩⟩ := (mem_reachRound ..).mp hn
  · exact h n hn
  · rcases (carriesInto_iff ..).mp hc with ⟨hk, rfl⟩ | ⟨hk, ⟨rfl, hm⟩ | ⟨rfl, hm⟩⟩ | ⟨hk, rfl, hm⟩
    · exact .source he hk hp hseg
    · exact .valveToA he hk hp hseg (h _ hm)
    · exact .valveToB he hk hp hseg (h _ hm)
    · exact .regulator he hk hp hseg (h _ hm)

theorem reachLoop_carried (fuel : Nat) {set : List Nat} (h : ∀ n ∈ set, Carried img pass n) :
    ∀ n ∈ reachLoop img pass fuel set, Carried img pass n := by
  induction fuel generalizing set with
  | zero => exact h
  | succ fuel ih =>
    rw [reachLoop]
    split
    · exact h
    · exact ih (reachRound_carried h)

/-- What a round adds stays: the next round's set goes on from it in the order of the image. -/
theorem reachRound_sublist (set : List Nat) :
    (reachRound img pass set).Sublist (reachRound img pass (reachRound img pass set)) := by
  have kept : reachRound img pass set =
      (img.segments.map (·.number)).filter fun n => (reachRound img pass set).contains n := by
    conv_lhs => unfold reachRound
    refine List.filter_congr fun n hn => ?_
    rw [Bool.eq_iff_iff, List.contains_iff_mem, reachRound, List.mem_filter]
    exact ⟨fun h => ⟨hn, h⟩, fun h => h.2⟩
  conv_lhs => rw [kept]
  exact List.monotone_filter_right _ fun n hn => by simp only [hn, Bool.true_or]

/-- Each round but the last lengthens the set, so the loop ends at a set that a further round leaves. -/
theorem reachLoop_fixed (fuel : Nat) {set : List Nat} (hs : set.Sublist (reachRound img pass set))
    (hf : img.segments.length < fuel + set.length) :
    reachRound img pass (reachLoop img pass fuel set) = reachLoop img pass fuel set := by
  induction fuel generalizing set with
  | zero =>
    have inside := (hs.trans List.filter_sublist).length_le
    rw [List.length_map] at inside
    omega
  | succ fuel ih =>
    rw [reachLoop]
    split
    · next h => exact h
    · next h =>
      have longer : set.length < (reachRound img pass set).length :=
        lt_of_le_of_ne hs.length_le fun he => h (hs.eq_of_length he).symm
      exact ih (reachRound_sublist set) (by omega)

/-- The reachable segments are those that the closure carries gas to (R10). -/
theorem mem_reach (n : Nat) : n ∈ reach img pass ↔ Carried img pass n := by
  have fixed : reachRound img pass (reach img pass) = reach img pass :=
    reachLoop_fixed _ (List.nil_sublist _) (by simp)
  refine ⟨reachLoop_carried _ (by simp) n, fun h => ?_⟩
  induction h with
  | source he hk hp hseg =>
    rw [← fixed]
    exact (mem_reachRound ..).mpr ⟨hseg, .inr ⟨_, he, hp, (carriesInto_iff ..).mpr (.inl ⟨hk, rfl⟩)⟩⟩
  | valveToB he hk hp hseg _ ih =>
    rw [← fixed]
    exact (mem_reachRound ..).mpr ⟨hseg, .inr ⟨_, he, hp, (carriesInto_iff ..).mpr (.inr (.inl ⟨hk, .inr ⟨rfl, ih⟩⟩))⟩⟩
  | valveToA he hk hp hseg _ ih =>
    rw [← fixed]
    exact (mem_reachRound ..).mpr ⟨hseg, .inr ⟨_, he, hp, (carriesInto_iff ..).mpr (.inr (.inl ⟨hk, .inl ⟨rfl, ih⟩⟩))⟩⟩
  | regulator he hk hp hseg _ ih =>
    rw [← fixed]
    exact (mem_reachRound ..).mpr ⟨hseg, .inr ⟨_, he, hp, (carriesInto_iff ..).mpr (.inr (.inr ⟨hk, rfl, ih⟩))⟩⟩

end

section

variable {s : State} {img : Image}

theorem mem_reachable (hi : s.net.active = some img) (n : Nat) : n ∈ s.reachable ↔ Carried img s.passable n := by
  rw [State.reachable, hi]
  exact mem_reach n

theorem mem_gaining (hi : s.net.active = some img) (e n : Nat) : n ∈ s.gaining e ↔
    Carried img (fun m => m = e || s.passable m) n ∧ ¬Carried img s.passable n := by
  have reached : n ∈ s.reachableWith e ↔ Carried img (fun m => m = e || s.passable m) n := by
    rw [State.reachableWith, hi]
    exact mem_reach n
  rw [State.gaining, List.mem_filter, reached, ← mem_reachable hi]
  simp

theorem mem_lostBy (hi : s.net.active = some img) (e n : Nat) : n ∈ s.lostBy e ↔
    Carried img s.passable n ∧ ¬Carried img (fun m => m ≠ e && s.passable m) n := by
  have reached : n ∈ s.reachableWithout e ↔ Carried img (fun m => m ≠ e && s.passable m) n := by
    rw [State.reachableWithout, hi]
    exact mem_reach n
  rw [State.lostBy, List.mem_filter, mem_reachable hi, ← reached]
  simp

end

/-- Settles O27: the loop ends at the closure, and the readings of it. -/
theorem reachabilityIsTheClosure : Obligations.ReachabilityIsTheClosure := by
  refine ⟨fun img pass n => mem_reach n, fun s img hi n => mem_reachable hi n, fun s hi => ?_, fun s r n hr => ?_,
    fun s img e n hi => ⟨mem_gaining hi e n, mem_lostBy hi e n, ?_⟩, fun img a b => ?_⟩
  · rw [State.reachable, hi]
  · rw [State.passable_of_record hr, ElementState.passes_eq_false]
  · rw [State.guardedSegment, State.segTopo?, hi, Option.bind_some, Option.any_eq_true]
  · simp [valveNeighbours]

end Sys2Proof.Machine

/-! SUPPORT. The evaluation of a reading and the settings of a point (O28 to O32). -/

namespace Sys2Proof.Machine

/-! ### Settings (O28) -/

theorem clampInt_eq {lo hi : Int} (x : Int) (h : lo ≤ hi) : clampInt lo hi x = max lo (min hi x) := by
  unfold clampInt
  split
  · omega
  · split <;> omega

theorem State.segmentOfPoint_eq {s : State} {img : Image} {n : Nat} {t : Point} (hi : s.net.active = some img)
    (ht : img.point? n = some t) : s.segmentOfPoint n = t.segment := by
  simp [State.segmentOfPoint, State.pointTopo?, hi, ht]

/-- A record put in the place of the one of its number, with the notice of the change. -/
theorem setPoint_of_found {s : State} {img : Image} {n : Nat} {t : Point} {r x : PointRec} (hi : s.net.active = some img)
    (ht : img.point? n = some t) (hr : s.point? n = some r) (hx : x.number = n) :
    setPoint x s = passNotices (pointNotice t.segment r x).toList
      { s with points := s.points.map fun y => if y.number = n then x else y } := by
  rw [setPoint, hx, hr, State.segmentOfPoint_eq hi ht]
  rfl

/-- The record a POINT_TUNE leaves (R47). -/
theorem tunePoint_eq (a : TuneArgs) (r : PointRec) : tunePoint a r =
    { r with
      offset := max (-64) (min 63 a.offset)
      weight := max 1 (min 16 a.weight)
      hyst := a.hyst
      fallLimit := min a.fallLimit 10000
      falling := if a.fallLimit = 0 then false else r.falling } := by
  have falling : (r.falling && decide (a.fallLimit ≠ 0)) = if a.fallLimit = 0 then false else r.falling := by
    by_cases h : a.fallLimit = 0 <;> simp [h]
  rw [tunePoint, clampInt_eq _ (by omega), clampNat_eq _ (by omega), falling]

/-- A change of neither quality nor band is told where FALLING changes (R65). -/
theorem pointNotice_falling {segment : Nat} {old new : PointRec} (hq : new.quality = old.quality)
    (hb : new.band = old.band) : pointNotice segment old new = if old.falling = new.falling then none else
      some (.point
        { point := new.number, segment := segment, oldQuality := old.quality, quality := old.quality
          oldBand := old.band, band := old.band, oldFalling := old.falling, falling := new.falling
          f := new.f, p := new.p, rate := new.rate, underScale := new.underScale, overScale := new.overScale
          expected := new.expected, lastSample := new.lastSample }) := by
  simp [pointNotice, hq, hb]

/-- The notice of a POINT_TUNE: F of 0 clears a set FALLING (R47, R65). -/
theorem tuneNotice {segment n : Nat} {a : TuneArgs} {r : PointRec} (hn : r.number = n) :
    (pointNotice segment r (tunePoint a r)).toList =
      if r.falling = true ∧ a.fallLimit = 0 then
        [.point { point := n, segment := segment, oldQuality := r.quality, quality := r.quality
                  oldBand := r.band, band := r.band, oldFalling := true, falling := false, f := r.f, p := r.p
                  rate := r.rate, underScale := r.underScale, overScale := r.overScale
                  expected := r.expected, lastSample := r.lastSample }]
      else [] := by
  subst hn
  rw [pointNotice_falling (old := r) (new := tunePoint a r) rfl rfl, tunePoint]
  cases hf : r.falling
  · simp
  · by_cases h : a.fallLimit = 0 <;> simp [h]

/-- Settles O28: the clamped settings and the staged limits. -/
theorem tuningIsClampedAndLimitsAreStaged : Obligations.TuningIsClampedAndLimitsAreStaged := by
  refine ⟨fun s tag a img t r ha hi ht hr hsave => ?_, fun s tag a img t r ha hi ht hr hsave => ?_⟩
  · have number : r.number = a.point := (key_of_find? PointRec.number _ s.points r hr).1
    have tuned : exec (.pointTune tag (.fits a)) s = .next (answered 0x20 tag
        (.done (.tuned (tunePoint a r).offset (tunePoint a r).weight (tunePoint a r).hyst (tunePoint a r).fallLimit))
        (passNotices (pointNotice t.segment r (tunePoint a r)).toList
          { huntControl s with points := s.points.map fun y => if y.number = a.point then tunePoint a r else y })) := by
      refine (Asks.pointTune tag a).exec_notices
        (t := { s with points := s.points.map fun y => if y.number = a.point then tunePoint a r else y }) ha
        (fun d => ?_) ?_
      · unfold servePointTune
        rw [withPoint_at d _ hi ht hr, if_neg (by simp [State.saving, hsave])]
        dsimp only
        rw [setPoint_of_found (s := { s with control := d }) (x := tunePoint a r) hi ht hr number]
      · cases pointNotice t.segment r (tunePoint a r) <;> simp
    rw [tuned, tuneNotice number, tunePoint_eq]
  · have number : r.number = a.point := (key_of_find? PointRec.number _ s.points r hr).1
    refine ⟨fun h1 h2 h3 => ?_, fun hl => ?_⟩
    · refine (Asks.pointLimits tag a).exec_change (t := { s with points := s.points.map fun y =>
        if y.number = a.point then
          { r with pendingLimits := some ({ ll := a.ll, l := a.l, h := a.h, hh := a.hh }, a.hyst) } else y }) ha fun d => ?_
      rw [servePointLimits, withPoint_at d _ hi ht hr, if_neg (by simp [State.saving, hsave]), if_pos ⟨h1, h2, h3⟩,
        setPoint_of_found (s := { s with control := d })
          (x := { r with pendingLimits := some ({ ll := a.ll, l := a.l, h := a.h, hh := a.hh }, a.hyst) }) hi ht hr number,
        pointNotice_falling (old := r) (new := { r with pendingLimits := some (_, a.hyst) }) rfl rfl, if_pos rfl]
      rfl
    · refine (Asks.pointLimits tag a).exec_same ha fun d => ?_
      rw [servePointLimits, withPoint_at d _ hi ht hr, if_neg (by simp [State.saving, hsave]), if_neg hl]
      rfl

/-! ### Quality, conversion and limits (O29) -/

section

variable (now count : Nat) (supply : Option SupplyState) (r : PointRec)

theorem evaluate_faulty : evaluate now count true supply r = { r with quality := .sensorFault, rate := none } := rfl

theorem evaluate_broken (h : count < 760) :
    evaluate now count false supply r = { r with quality := .wireFault, rate := none } := by
  have : faultOf count false = some .wireFault := by simp [faultOf, liveZero, h]
  rw [evaluate, this]
  rfl

theorem evaluate_accepted (h : 760 ≤ count) : evaluate now count false supply r = sampleStages now count supply r := by
  have : faultOf count false = none := by
    rw [faultOf, if_neg Bool.false_ne_true, if_neg (by simpa [liveZero] using h)]
  rw [evaluate, this]

/-- The pressure of an accepted reading (R51, R52). -/
def pressureOf : Int := convert r.pl r.ph (clampInt scaleLow scaleHigh (correctedCount count r.offset))

theorem pressureOf_eq : pressureOf count r =
    (r.pl : Int) + ((max 800 (min 4000 ((count : Int) + r.offset)) - 800) * ((r.ph : Int) - r.pl) + 1600) / 3200 := by
  rw [pressureOf, clampInt_eq _ (by simp [scaleLow, scaleHigh])]
  rfl

theorem filterStage_keeps (p : Int) (r : PointRec) : ∃ f h b, filterStage p r =
    { r with f := f, history := h, falling := b, quality := .good } := by
  unfold filterStage
  split
  · next g hq hf => exact ⟨_, r.history, r.falling, by rw [← hq]⟩
  · exact ⟨_, _, _, rfl⟩

/-- The limits and the hysteresis in force at a sample (R53). -/
theorem clampHyst_latchLimits :
    (clampHyst (latchLimits r)).pendingLimits = none ∧
    (r.pendingLimits = none → (clampHyst (latchLimits r)).limits = r.limits ∧
      (clampHyst (latchLimits r)).hyst = min r.hyst ((r.limits.h - r.limits.l) / 2).toNat) ∧
    (∀ l h, r.pendingLimits = some (l, h) → (clampHyst (latchLimits r)).limits = l ∧
      (clampHyst (latchLimits r)).hyst = min h ((l.h - l.l) / 2).toNat) := by
  cases hp : r.pendingLimits with
  | none => simp [latchLimits, clampHyst, hp]
  | some q =>
    refine ⟨by simp [latchLimits, clampHyst, hp], nofun, fun l h he => ?_⟩
    cases he
    simp [latchLimits, clampHyst, hp]

/-- What an accepted reading writes whatever the filter does. -/
theorem sampleStages_writes :
    ∃ f hi ra fa ba, sampleStages now count supply r =
      { r with
        underScale := decide ((count : Int) + r.offset < 800), overScale := decide (4000 < (count : Int) + r.offset)
        p := some (pressureOf count r), lastSample := some now, limits := (clampHyst (latchLimits r)).limits
        hyst := (clampHyst (latchLimits r)).hyst, pendingLimits := (clampHyst (latchLimits r)).pendingLimits
        quality := .good, f := f, history := hi, rate := ra, falling := fa, band := ba
        expected := expectedFlag supply } := by
  have latched : clampHyst (latchLimits { r with
      underScale := underFlag (correctedCount count r.offset), overScale := overFlag (correctedCount count r.offset)
      p := some (pressureOf count r), lastSample := some now }) =
      { r with
        underScale := underFlag (correctedCount count r.offset), overScale := overFlag (correctedCount count r.offset)
        p := some (pressureOf count r), lastSample := some now, limits := (clampHyst (latchLimits r)).limits
        hyst := (clampHyst (latchLimits r)).hyst, pendingLimits := (clampHyst (latchLimits r)).pendingLimits } := by
    cases hp : r.pendingLimits <;> simp only [latchLimits, clampHyst, hp]
  unfold sampleStages
  dsimp only
  rw [show convert r.pl r.ph (clampInt scaleLow scaleHigh (correctedCount count r.offset)) = pressureOf count r from rfl,
    latched]
  obtain ⟨f, h, b, hf⟩ := filterStage_keeps (pressureOf count r)
    { r with
      underScale := underFlag (correctedCount count r.offset), overScale := overFlag (correctedCount count r.offset)
      p := some (pressureOf count r), lastSample := some now, limits := (clampHyst (latchLimits r)).limits
      hyst := (clampHyst (latchLimits r)).hyst, pendingLimits := (clampHyst (latchLimits r)).pendingLimits }
  rw [hf]
  exact ⟨_, _, _, _, _, rfl⟩

theorem expectedFlag_iff : expectedFlag supply = true ↔ ∃ y, supply = some y ∧ y ≠ .live := by
  cases supply <;> simp [expectedFlag]

end

/-- Settles O29: the quality judgement, the conversion and the limits of a reading. -/
theorem readingIsJudgedThenConverted : Obligations.ReadingIsJudgedThenConverted := by
  intro now count supply r
  refine ⟨evaluate_faulty .., evaluate_broken _ _ _ _, fun h => ?_⟩
  obtain ⟨f, hi, ra, fa, ba, he⟩ := sampleStages_writes now count supply r
  obtain ⟨pending, kept, latched⟩ := clampHyst_latchLimits r
  rw [evaluate_accepted _ _ _ _ h, he]
  exact ⟨rfl, rfl, rfl, rfl, congrArg some (pressureOf_eq count r), pending, kept, latched, expectedFlag_iff supply⟩

/-! ### Filter, history, rate and FALLING (O30, O31) -/

section

variable (now count : Nat) (supply : Option SupplyState) (r : PointRec)

theorem latched_filter : (clampHyst (latchLimits r)).quality = r.quality ∧ (clampHyst (latchLimits r)).f = r.f ∧
    (clampHyst (latchLimits r)).weight = r.weight ∧ (clampHyst (latchLimits r)).history = r.history ∧
    (clampHyst (latchLimits r)).falling = r.falling ∧ (clampHyst (latchLimits r)).fallLimit = r.fallLimit := by
  obtain ⟨l, h, q, he⟩ := latchLimits_same r
  rw [he]
  exact ⟨rfl, rfl, rfl, rfl, rfl, rfl⟩

/-- What a sample makes of `f`, the history, the rate and FALLING, from the history `l` and the flag `b` that the filter
leaves. -/
def Sampled (x : PointRec) (f : Int) (l : List (Nat × Int)) (b : Bool) : Prop :=
  x.f = some f ∧ x.history = enterHistory now f l ∧ x.rate = rateOf now f x.history ∧
    x.falling = fallingAfter r.fallLimit x.rate b

/-- A sample at a filter that is not running seeds it (R54). -/
theorem sampled_seeded (h : ¬(r.quality = .good ∧ r.f.isSome = true)) :
    Sampled now r (sampleStages now count supply r) (pressureOf count r) [] false := by
  obtain ⟨hq, hf, -, -, -, hl⟩ := latched_filter { r with
    underScale := underFlag (correctedCount count r.offset), overScale := overFlag (correctedCount count r.offset)
    p := some (pressureOf count r), lastSample := some now }
  unfold sampleStages
  dsimp only
  rw [show convert r.pl r.ph (clampInt scaleLow scaleHigh (correctedCount count r.offset)) = pressureOf count r from rfl]
  generalize clampHyst (latchLimits _) = y at hq hf hl ⊢
  have seeded : filterStage (pressureOf count r) y =
      { y with f := some (pressureOf count r), history := [], falling := false, quality := .good } := by
    unfold filterStage
    split
    · next g hyq hyf => exact absurd ⟨hq.symm.trans hyq, by rw [show r.f = some g from hf.symm.trans hyf]; rfl⟩ h
    · rfl
  rw [seeded]
  refine ⟨rfl, rfl, rfl, ?_⟩
  show fallingAfter y.fallLimit _ _ = _
  rw [hl]
  rfl

/-- A sample at a running filter moves it (R55). -/
theorem sampled_moved {g : Int} (hgood : r.quality = .good) (hg : r.f = some g) :
    Sampled now r (sampleStages now count supply r) (filterStep g (pressureOf count r) r.weight) r.history r.falling := by
  obtain ⟨hq, hf, hw, hh, hb, hl⟩ := latched_filter { r with
    underScale := underFlag (correctedCount count r.offset), overScale := overFlag (correctedCount count r.offset)
    p := some (pressureOf count r), lastSample := some now }
  unfold sampleStages
  dsimp only
  rw [show convert r.pl r.ph (clampInt scaleLow scaleHigh (correctedCount count r.offset)) = pressureOf count r from rfl]
  generalize clampHyst (latchLimits _) = y at hq hf hw hh hb hl ⊢
  have moved : filterStage (pressureOf count r) y =
      { y with f := some (filterStep g (pressureOf count r) r.weight) } := by
    rw [filterStage, hq.trans hgood, hf.trans hg, hw]
  rw [moved]
  refine ⟨rfl, ?_, rfl, ?_⟩
  · show enterHistory _ _ y.history = _
    rw [hh]
    rfl
  · show fallingAfter y.fallLimit _ y.falling = _
    rw [hl, hb]
    rfl

end

theorem enterHistory_nil (now : Nat) (f : Int) : enterHistory now f [] = [(now, f)] := by
  simp [enterHistory, Config.historyLimit]

theorem rateOf_first (now : Nat) (f : Int) : rateOf now f [(now, f)] = none := by simp [rateOf, Config.rateSpan]

/-- Settles O30: the seeded and the moved filter. -/
theorem filterIsSeededOrMovesTowardsP : Obligations.FilterIsSeededOrMovesTowardsP := by
  intro now count supply r p hcount hp
  rw [evaluate_accepted _ _ _ _ hcount] at hp ⊢
  have pressure : pressureOf count r = p := by
    obtain ⟨f, hi, ra, fa, ba, he⟩ := sampleStages_writes now count supply r
    rw [he] at hp
    exact Option.some.inj hp
  refine ⟨fun hq => ?_, fun f hq hf hw => ?_⟩
  · obtain ⟨hxf, hhist, hrate, hfall⟩ := sampled_seeded now count supply r fun h => hq h.1
    rw [enterHistory_nil] at hhist
    rw [hhist, rateOf_first] at hrate
    rw [hrate] at hfall
    rw [pressure] at hxf hhist
    exact ⟨hxf, hhist, hrate, hfall⟩
  · obtain ⟨hxf, -⟩ := sampled_moved now count supply r hq hf
    rw [pressure] at hxf
    obtain ⟨lower, upper⟩ := filterStep_between f p hw
    refine ⟨round16 ((p - f) * r.weight), hxf, ?_, ?_, lower, upper⟩
    · have near := round16_near ((p - f) * r.weight)
      generalize (p - f) * (r.weight : Int) = x at near ⊢
      rw [show (16 : Int) = 2 * 8 by norm_num]
      exact mul_le_mul_of_nonneg_left (abs_le.mpr ⟨by omega, by omega⟩) (by norm_num)
    · have near := round16_near ((p - f) * r.weight)
      have tie := round16_tie ((p - f) * r.weight)
      generalize (p - f) * (r.weight : Int) = x at near tie ⊢
      intro h
      have eight : 16 * round16 x - x = 8 ∨ 16 * round16 x - x = -8 := eq_or_eq_neg_of_abs_eq (by linarith)
      rcases le_or_gt 0 x with hx | hx
      · have away := tie.1 hx
        rw [abs_of_nonneg hx, abs_of_nonneg (by omega)]
        omega
      · have away := tie.2 hx
        rw [abs_of_neg hx, abs_of_neg (by omega)]
        omega

/-- The history after a sample: at most eight entries, none too old, the newest this sample's (R56). -/
theorem enterHistory_spec (now : Nat) (f : Int) (l : List (Nat × Int)) :
    (enterHistory now f l).length ≤ 8 ∧ (enterHistory now f l).getLast? = some (now, f) ∧
    (∀ e ∈ enterHistory now f l, now ≤ e.1 + 600) := by
  obtain ⟨m, hm⟩ : ∃ m, enterHistory now f l =
      ((m ++ [(now, f)]).drop ((m ++ [(now, f)]).length - 8)).filter fun e => now ≤ e.1 + 600 := by
    unfold enterHistory
    split
    · split
      · exact ⟨_, rfl⟩
      · exact ⟨_, rfl⟩
    · exact ⟨[], rfl⟩
  have tail : enterHistory now f l = ((m.drop (m.length - 7)).filter fun e => now ≤ e.1 + 600) ++ [(now, f)] := by
    rw [hm, List.length_append, List.length_singleton, Nat.add_sub_add_right m.length 1 7,
      List.drop_append_of_le_length (by omega), List.filter_append]
    simp
  refine ⟨?_, ?_, ?_⟩
  · have short := List.length_filter_le (fun e : Nat × Int => decide (now ≤ e.1 + 600)) (m.drop (m.length - 7))
    rw [List.length_drop] at short
    rw [tail, List.length_append, List.length_singleton]
    omega
  · rw [tail, List.getLast?_append]
    rfl
  · intro e he
    rw [hm] at he
    simpa using (List.mem_filter.mp he).2

/-- FALLING after a sample (R58). -/
theorem fallingAfter_iff (limit : Nat) (rate : Option Int) (before : Bool) : fallingAfter limit rate before = true ↔
    (∃ R : Int, rate = some R ∧ 0 < limit ∧ R ≤ -(limit : Int)) ∨
    (before = true ∧ ∀ R : Int, rate = some R → R < -((limit / 2 : Nat) : Int) ∨ (0 < limit ∧ R ≤ -(limit : Int))) := by
  cases rate with
  | none => simp [fallingAfter]
  | some x =>
    simp only [fallingAfter, Option.some.injEq]
    split
    · next h => simpa using Or.inl h
    · next h =>
      have none_such : ¬∃ R : Int, x = R ∧ 0 < limit ∧ R ≤ -(limit : Int) := fun ⟨R, hR, hx⟩ => h (hR ▸ hx)
      split
      · next hx =>
        have : ¬∀ R : Int, x = R → R < -((limit / 2 : Nat) : Int) ∨ (0 < limit ∧ R ≤ -(limit : Int)) :=
          fun hall => (hall x rfl).elim (fun hlt => by omega) h
        exact ⟨fun h => absurd h Bool.false_ne_true, fun h => h.elim (absurd · none_such) fun h => absurd h.2 this⟩
      · next hx =>
        have : ∀ R : Int, x = R → R < -((limit / 2 : Nat) : Int) ∨ (0 < limit ∧ R ≤ -(limit : Int)) :=
          fun R hR => .inl (by omega)
        simp only [none_such, false_or, and_iff_left this]

/-- What a sample leaves of history, rate and FALLING. -/
theorem Sampled.spec {now : Nat} {r x : PointRec} {f : Int} {l : List (Nat × Int)} {b : Bool} (h : Sampled now r x f l b) :
    ∃ (t₀ : Nat) (f₀ : Int) (rest : List (Nat × Int)), x.f = some f ∧ x.history = (t₀, f₀) :: rest ∧
      x.history.length ≤ 8 ∧ x.history.getLast? = some (now, f) ∧ (∀ e ∈ x.history, now ≤ e.1 + 600) ∧
      (now < t₀ + 60 → x.rate = none) ∧
      (t₀ + 60 ≤ now → x.rate = some (Int.tdiv ((f - f₀) * 60) ((now : Int) - t₀))) := by
  obtain ⟨hf, hhist, hrate, -⟩ := h
  obtain ⟨short, newest, young⟩ := enterHistory_spec now f l
  rw [← hhist] at short newest young
  cases hl : x.history with
  | nil => rw [hl] at newest; cases newest
  | cons e rest =>
    rw [hl] at hrate
    refine ⟨e.1, e.2, rest, hf, rfl, hl ▸ short, hl ▸ newest, hl ▸ young, fun ht => ?_, fun ht => ?_⟩
    · rw [hrate, rateOf, Config.rateSpan, if_pos ht]
    · rw [hrate, rateOf, Config.rateSpan, if_neg (by omega)]

/-- Settles O31: the history, the rate and FALLING after a sample. -/
theorem rateAndFallingComeFromTheOldestEntry : Obligations.RateAndFallingComeFromTheOldestEntry := by
  intro now count supply r hcount
  rw [evaluate_accepted _ _ _ _ hcount]
  by_cases running : r.quality = .good ∧ r.f.isSome = true
  · obtain ⟨g, hg⟩ := Option.isSome_iff_exists.mp running.2
    have sampled := sampled_moved now count supply r running.1 hg
    obtain ⟨t₀, f₀, rest, hf, hl, h8, hlast, hold, hn, hs⟩ := sampled.spec
    refine ⟨_, t₀, f₀, rest, hf, hl, h8, hlast, hold, hn, hs, ?_⟩
    rw [sampled.2.2.2, fallingAfter_iff]
    simp [running]
  · have sampled := sampled_seeded now count supply r running
    obtain ⟨t₀, f₀, rest, hf, hl, h8, hlast, hold, hn, hs⟩ := sampled.spec
    refine ⟨_, t₀, f₀, rest, hf, hl, h8, hlast, hold, hn, hs, ?_⟩
    rw [sampled.2.2.2, fallingAfter_iff]
    have : ¬(r.quality = .good ∧ r.f.isSome = true ∧ r.falling = true) := fun h => running ⟨h.1, h.2.1⟩
    simp [this]

/-! ### Bands (O32) -/

section

variable {l : Limits} {hyst : Nat} {b : Band} {f : Int}

theorem bandAfter_belowL (h1 : l.ll ≤ f) (h2 : f < l.l) :
    bandAfter l hyst b f = if b = .lowLow ∧ f < l.ll + hyst then .lowLow else .low := by
  simp only [bandAfter]
  rw [if_neg (by omega), if_pos h2]

theorem bandAfter_aboveH (hl : l.ll ≤ l.l) (hlh : l.l < l.h) (h1 : l.h < f) (h2 : f ≤ l.hh) :
    bandAfter l hyst b f = if b = .highHigh ∧ l.hh - hyst < f then .highHigh else .high := by
  simp only [bandAfter]
  rw [if_neg (by omega), if_neg (by omega), if_neg (by omega), if_pos h1]

theorem bandAfter_between (hl : l.ll ≤ l.l) (hh : l.h ≤ l.hh) (h1 : l.l ≤ f) (h2 : f ≤ l.h) :
    bandAfter l hyst b f =
      if b = .lowLow ∧ f < l.ll + hyst then .lowLow
      else if (b = .low ∨ b = .lowLow) ∧ f < l.l + hyst then .low
      else if b = .highHigh ∧ l.hh - hyst < f then .highHigh
      else if (b = .high ∨ b = .highHigh) ∧ l.h - hyst < f then .high
      else .normal := by
  simp only [bandAfter]
  rw [if_neg (by omega), if_neg (by omega), if_neg (by omega), if_neg (by omega)]

end

/-- Settles O32: the band table, below L, above H and between them. -/
theorem bandsAreLeftOnlyPastTheirHysteresis : Obligations.BandsAreLeftOnlyPastTheirHysteresis := by
  intro l hyst b f hl hlh hh x
  refine ⟨fun h => if_pos h, fun h1 h2 hb hf => ?_, fun h1 h2 hb => ?_, fun h => ?_, fun h1 h2 hb hf => ?_,
    fun h1 h2 hb => ?_, fun h1 h2 => ?_⟩
  · exact (bandAfter_belowL h1 h2).trans (if_pos ⟨hb, hf⟩)
  · exact (bandAfter_belowL h1 h2).trans (if_neg hb)
  · show bandAfter l hyst b f = _
    simp only [bandAfter]
    rw [if_neg (by omega), if_neg (by omega), if_pos h]
  · exact (bandAfter_aboveH hl hlh h1 h2).trans (if_pos ⟨hb, hf⟩)
  · exact (bandAfter_aboveH hl hlh h1 h2).trans (if_neg hb)
  · rw [show x = _ from bandAfter_between hl hh h1 h2]
    refine ⟨fun hb hf => ?_, fun hb hlow hf => ?_, fun hb hf => ?_, fun hb hhigh hf => ?_, fun hb => ?_,
      fun hlow hf hb => ?_, fun hhigh hf hb => ?_⟩
    · rw [if_pos ⟨hb, hf⟩]
    · rw [if_neg hb, if_pos ⟨hlow, hf⟩]
    · simp [hb, hf]
    · rcases hhigh with rfl | rfl
      · simp [hf]
      · rw [if_neg (by simp), if_neg (by simp), if_neg hb, if_pos ⟨.inr rfl, hf⟩]
    · simp [hb]
    · rw [if_neg hb, if_neg (by omega)]
      rcases hlow with rfl | rfl <;> simp
    · rcases hhigh with rfl | rfl
      · simp; omega
      · rw [if_neg (by simp), if_neg (by simp), if_neg hb, if_neg (by omega)]

end Sys2Proof.Machine

/-! SUPPORT. Reports and the station states they move (O34, O35, O36, O38). -/

namespace Sys2Proof.Machine

/-! ### Stations and reports -/

theorem State.station?_address {s : State} {a : Nat} {t : Station} (h : s.station? a = some t) : t.address = a :=
  (key_of_find? Station.address _ s.field.stations t h).1

/-- Whether a station is unavailable for its QUEUED orders (R124). -/
theorem unavailable_eq_false (s : State) (a : Nat) : s.unavailable a = false ↔
    ∃ st, s.station? a = some st ∧ st.state = .reporting ∧ st.localFlag = false := by
  simp [State.unavailable, Option.any_eq_true]

theorem syncUnavailable_empty {s : State} {a : Nat} (h : s.elements.queue = []) : syncUnavailable a s = s := by
  unfold syncUnavailable
  rw [h, List.map_nil, ← h]

/-- A report frame taken from a station of the active image, with a body that is not malformed. -/
theorem exec_report {s : State} {tag a : Nat} {r : ReportArgs} {img : Image} {x : StationTopo} {st : Station}
    (hp : s.power = .running) (hi : s.net.active = some img) (hx : img.station? a = some x) (hst : s.station? a = some st)
    (hr : wellFormedReport r = true) :
    exec (.report tag a (.fits r)) s = .next (startLine (inEvent (reportEvent img x st r) (huntField s))) := by
  have taken : takeReport a (.fits r) (huntField s) = ownEvent (reportEvent img x st r) (huntField s) := by
    unfold takeReport
    rw [show (huntField s).net.active = some img from hi]
    dsimp only
    rw [hx, show (huntField s).station? a = some st from hst]
    exact if_pos hr
  simp only [exec, execReport, (running_iff s).mpr hp, if_true, taken]
  rfl

/-- A report frame that is not taken. -/
theorem exec_report_discarded {s : State} {tag a : Nat} {body : Body ReportArgs} (hp : s.power = .running)
    (h : takeReport a body (huntField s) = huntField s) : exec (.report tag a body) s = .next (huntField s) := by
  simp only [exec, execReport, (running_iff s).mpr hp, if_true, h]

theorem reportDispatches_iff (old new : Station) : reportDispatches old new = true ↔
    (old.state ≠ .reporting ∧ new.state = .reporting) ∨ (old.localFlag = true ∧ new.localFlag = false) := by
  simp [reportDispatches]

theorem stationChanged_iff (old new : Station) :
    stationChanged old new = true ↔ ¬(old.state = new.state ∧ old.localFlag = new.localFlag) := by
  simp [stationChanged, imp_iff_not_or]

/-- The steps of an accepted report (R31). -/
theorem reportEvent_steps (img : Image) (x : StationTopo) (st : Station) (r : ReportArgs) (s : State) :
    reportEvent img x st r s =
      let new := acceptReport s.now x r.localFlag st
      let enters := st.state ≠ .reporting ∧ new.state = .reporting
      let s₁ := syncUnavailable st.address { s with
        field := { s.field with stations := s.field.stations.map fun y => if y.address = st.address then new else y }
        net := { s.net with basis := if enters then s.net.basis + 1 else s.net.basis } }
      let s₂ := if new.state = .reporting then
          (deliveredPositions img st.address r.positions).foldl (fun u y => positionEvent (hooksTop .plain) y.1 y.2 u) s₁
        else s₁
      let s₃ := if new.state = .reporting then
          (deliveredReadings img st.address r.readings).foldl (fun u y => readingEvent (hooksTop .plain) y.1 y.2 u) s₂
        else s₂
      let s₄ := if enters ∨ (st.localFlag = true ∧ r.localFlag = false) then dispatchTop .plain s₃ else s₃
      if st.state = new.state ∧ st.localFlag = r.localFlag then s₄ else stationNotice st.state new .report s₄ := by
  have dispatches : reportDispatches st (acceptReport s.now x r.localFlag st) = true ↔
      (st.state ≠ .reporting ∧ (acceptReport s.now x r.localFlag st).state = .reporting) ∨
      (st.localFlag = true ∧ r.localFlag = false) := reportDispatches_iff ..
  have changed : stationChanged st (acceptReport s.now x r.localFlag st) = true ↔
      ¬(st.state = (acceptReport s.now x r.localFlag st).state ∧ st.localFlag = r.localFlag) := stationChanged_iff ..
  have bumped : bumpBasisIf (st.state ≠ .reporting && (acceptReport s.now x r.localFlag st).state = .reporting)
      (setStation (acceptReport s.now x r.localFlag st) s) =
      { s with
        field := { s.field with stations := s.field.stations.map fun y =>
          if y.address = st.address then acceptReport s.now x r.localFlag st else y }
        net := { s.net with
          basis := if st.state ≠ .reporting ∧ (acceptReport s.now x r.localFlag st).state = .reporting then s.net.basis + 1
            else s.net.basis } } := by
    by_cases h : st.state ≠ .reporting ∧ (acceptReport s.now x r.localFlag st).state = .reporting
    · rw [if_pos h, bumpBasisIf, if_pos (by simpa using h)]
      rfl
    · rw [if_neg h, bumpBasisIf, if_neg (by simpa using h)]
      rfl
  unfold reportEvent
  dsimp only
  rw [bumped]
  generalize acceptReport s.now x r.localFlag st = new at dispatches changed
  by_cases hnew : new.state = .reporting
  · simp only [if_pos hnew, applyReport, dispatches, changed, ite_not]
  · simp only [if_neg hnew, dispatches, changed, ite_not]

/-! ### What a report delivers (R31) -/

theorem find?_of_filter {α : Type} {p q : α → Bool} {l : List α} {x : α} (hp : ∀ y, q y = p y)
    (h : l.filter p = [x]) : l.find? q = some x := by
  rw [show q = p from funext hp, ← List.head?_filter, h]
  rfl

theorem deliveredPositions_cons (img : Image) (a : Nat) (x : Position) (l : List Position) :
    deliveredPositions img a (x :: l) =
      (((img.elements.find? fun e => e.cls = .remote && e.station = a && e.slot = x.slot).bind fun e =>
        (PositionCode.ofCode x.code).map fun c => (e.number, c)).toList ++ deliveredPositions img a l) := by
  rw [deliveredPositions, List.filterMap_cons]
  cases h : (img.elements.find? fun e => e.cls = .remote && e.station = a && e.slot = x.slot).bind fun e =>
    (PositionCode.ofCode x.code).map fun c => (e.number, c)
  · rfl
  · rfl

theorem deliveredReadings_cons (img : Image) (a : Nat) (x : Reading) (l : List Reading) :
    deliveredReadings img a (x :: l) =
      (((img.points.find? fun p => p.station = a && p.slot = x.slot).map fun p => (p.number, x)).toList ++
        deliveredReadings img a l) := by
  rw [deliveredReadings, List.filterMap_cons]
  cases h : (img.points.find? fun p => p.station = a && p.slot = x.slot).map fun p => (p.number, x)
  · rfl
  · rfl

/-- Settles O34: the steps of an accepted report, what it delivers, and the timers of the station's orders. -/
theorem acceptedReportIsHandedOnInOrder : Obligations.AcceptedReportIsHandedOnInOrder := by
  refine ⟨fun s tag a r img x st hp hi hx hst hr => ?_, fun img a slot e code c l he hc => ?_,
    fun img a slot code l hnone => ?_, fun img a p x l hp => ?_, fun img a x l hnone => ?_,
    fun s a old t cause => ⟨fun h => ?_, fun h => ?_, rfl⟩⟩
  · obtain rfl := State.station?_address hst
    rw [exec_report hp hi hx hst hr]
    refine congrArg (fun u => Host.Outcome.next (startLine u)) ?_
    refine inEvent_from (s := huntField s) (t := huntField s) fun d => ?_
    rw [reportEvent_steps]
    rfl
  · have found : (img.elements.find? fun y => y.cls = .remote && y.station = a && y.slot = slot) = some e :=
      find?_of_filter (fun y => by simp [Bool.and_assoc]) he
    rw [deliveredPositions_cons, found, Option.bind_some, hc]
    rfl
  · have none_found : (img.elements.find? fun y => y.cls = .remote && y.station = a && y.slot = slot) = none :=
      List.find?_eq_none.mpr fun y hy => by simpa [and_assoc] using hnone y hy
    rw [deliveredPositions_cons, none_found]
    rfl
  · have found : (img.points.find? fun y => y.station = a && y.slot = x.slot) = some p :=
      find?_of_filter (fun y => by simp) hp
    rw [deliveredReadings_cons, found]
    rfl
  · have none_found : (img.points.find? fun y => y.station = a && y.slot = x.slot) = none :=
      List.find?_eq_none.mpr fun y hy => by simpa using hnone y hy
    rw [deliveredReadings_cons, none_found]
    rfl
  · have : s.unavailable a = false := (unavailable_eq_false s a).mpr h
    simp only [syncUnavailable, this, Bool.false_eq_true, if_false]
  · have : s.unavailable a = true := by
      rw [← Bool.not_eq_false, unavailable_eq_false]
      exact h
    simp only [syncUnavailable, this, if_true]
    rfl

/-- Settles O35: a heartbeat is the accepted report that delivers nothing. -/
theorem heartbeatMovesTheStationByItsState : Obligations.HeartbeatMovesTheStationByItsState := by
  intro s tag a flag img x st y hp hi hx hst hq hy
  obtain rfl := State.station?_address hst
  have state : reportedState x.mode st.state = y := by
    rcases hy with ⟨h, rfl⟩ | ⟨h, rfl⟩ | ⟨h, hm, rfl⟩ | ⟨h, hm, rfl⟩ | ⟨h, rfl⟩ <;> simp [reportedState, *]
  have accepted : acceptReport s.partTime.toNat x flag st =
      { address := st.address, state := y, silenceAt := some (s.partTime.toNat + x.limit), localFlag := flag
        lastAccepted := some s.partTime.toNat
        lastApplied := if y = .reporting then some s.partTime.toNat else st.lastApplied } := by
    unfold acceptReport
    rw [state]
  rw [exec_report hp hi hx hst (by simp [wellFormedReport, distinct])]
  refine congrArg (fun u => Host.Outcome.next (startLine u)) ?_
  rw [← accepted]
  generalize hnew : acceptReport s.partTime.toNat x flag st = new at accepted
  have steps : ∀ d : ControlPort, reportEvent img x st { localFlag := flag, readings := [], positions := [] }
      { huntField s with control := d } =
      passNotices (if st.state = y ∧ st.localFlag = flag then [] else
        [.station { address := st.address, oldState := st.state, state := y, cause := .report, localFlag := flag,
                    lastAccepted := some s.partTime.toNat,
                    basis := if st.state ≠ .reporting ∧ y = .reporting then s.net.basis + 1 else s.net.basis }])
      { s with
        control := d
        field := { s.field with
          rx := [], stations := s.field.stations.map fun z => if z.address = st.address then new else z }
        net := { s.net with
          basis := if st.state ≠ .reporting ∧ y = .reporting then s.net.basis + 1 else s.net.basis } } := by
    intro d
    have hstate : new.state = y := by rw [accepted]
    rw [reportEvent_steps]
    dsimp only
    rw [show acceptReport ({ huntField s with control := d } : State).now x flag st = new from hnew, hstate,
      syncUnavailable_empty]
    · simp only [deliveredPositions, deliveredReadings, List.filterMap_nil, List.foldl_nil, ite_self]
      rw [dispatchTop, dispatchPass_empty, ite_self]
      · by_cases h : st.state = y ∧ st.localFlag = flag
        · rw [if_pos h, if_pos h]
          rfl
        · rw [if_neg h, if_neg h, accepted]
          rfl
      · exact hq
    · exact hq
  refine (inEvent_notices (s := huntField s)
    (t := { s with
      field := { s.field with
        rx := [], stations := s.field.stations.map fun z => if z.address = st.address then new else z }
      net := { s.net with
        basis := if st.state ≠ .reporting ∧ y = .reporting then s.net.basis + 1 else s.net.basis } })
    steps (by split <;> simp)).trans ?_
  by_cases h : st.state = y ∧ st.localFlag = flag
  · rw [if_pos h, if_pos h]
    rfl
  · rw [if_neg h, if_neg h]
    rfl

/-- A body that is not malformed (R30). -/
theorem wellFormedReport_iff (r : ReportArgs) : wellFormedReport r = true ↔
    r.readings.length ≤ 8 ∧ r.positions.length ≤ 8 ∧ (∀ x ∈ r.readings, x.slot ≤ 7 ∧ x.count ≤ 4095) ∧
    (∀ x ∈ r.positions, x.slot ≤ 7 ∧ (PositionCode.ofCode x.code).isSome = true) ∧
    (r.readings.map (·.slot)).Nodup ∧ (r.positions.map (·.slot)).Nodup := by
  simp [wellFormedReport, distinct, and_assoc]

theorem PositionCode.ofCode_none {n : Nat} (h : n = 0 ∨ 5 < n) : PositionCode.ofCode n = none := by
  unfold PositionCode.ofCode
  split <;> first | omega | rfl

/-- Settles O36: the reports that are discarded. -/
theorem discardedReportsChangeNothing : Obligations.DiscardedReportsChangeNothing := by
  refine ⟨fun s tag a body img hp hi hx => ?_, fun s tag a bytes hp => ?_, fun s tag a r hp hr => ?_⟩
  · have none_found : img.station? a = none := by
      rw [← Option.not_isSome_iff_eq_none, Image.station?_isSome]
      exact hx
    refine exec_report_discarded hp ?_
    unfold takeReport
    rw [show (huntField s).net.active = some img from hi]
    dsimp only
    rw [none_found]
  · refine exec_report_discarded hp ?_
    unfold takeReport
    split
    · rfl
    · split
      · next h => cases h
      · rfl
  · have malformed : ¬wellFormedReport r = true := by
      rw [wellFormedReport_iff]
      rintro ⟨hreadings, hpositions, hread, hpos, hrd, hpd⟩
      rcases hr with h | h | ⟨x, hx, h⟩ | ⟨x, hx, h⟩ | h | h
      · omega
      · omega
      · have := hread x hx; omega
      · obtain ⟨hslot, hcode⟩ := hpos x hx
        rcases h with h | h
        · omega
        · rw [PositionCode.ofCode_none h] at hcode
          cases hcode
      · exact h hrd
      · exact h hpd
    refine exec_report_discarded hp ?_
    unfold takeReport
    split
    · rfl
    · split
      · next h => cases h; exact if_neg malformed
      · rfl

/-! ### HELD_SILENT (O38) -/

theorem exec_silenceExpiry {s : State} {a n : Nat} {st : Station} (hp : s.power = .running) (hst : s.station? a = some st)
    (ht : st.silenceAt = some n) (hn : n ≤ s.partTime.toNat) :
    exec (.silenceExpiry a) s = .next (startLine (inEvent (silenceEvent a) s)) := by
  have elapsed : ((s.station? a).any fun t => due s.now t.silenceAt) = true := by
    simp [hst, due, ht, State.now, hn]
  simp only [exec, execSilenceExpiry, (running_iff s).mpr hp, if_true, silenceExpiry, elapsed, ownEvent]

/-- Settles O38: the two ways out of HELD_SILENT. -/
theorem heldSilentIsLeftByExpiryOrClear : Obligations.HeldSilentIsLeftByExpiryOrClear := by
  refine ⟨fun s a n st hp hst hheld ht hn => ?_, fun s tag a img x st ha hi hx hst => ⟨fun hheld hq => ?_, fun hheld => ?_⟩⟩
  · obtain rfl := State.station?_address hst
    rw [exec_silenceExpiry hp hst ht hn]
    refine congrArg (fun u => Host.Outcome.next (startLine u)) ?_
    refine inEvent_notices (t := { s with field := { s.field with stations := s.field.stations.map fun y =>
        if y.address = st.address then { st with state := .silent, silenceAt := none } else y } })
      (l := [.station { address := st.address, oldState := .heldSilent, state := .silent, cause := .expiry,
                        localFlag := st.localFlag, lastAccepted := st.lastAccepted, basis := s.net.basis }])
      (fun d => ?_) (List.pairwise_singleton _ _)
    unfold silenceEvent
    rw [show ({ s with control := d } : State).station? st.address = some st from hst]
    dsimp only
    rw [hheld]
    rfl
  · obtain rfl := State.station?_address hst
    refine (Asks.stationClear tag st.address).exec_notice
      (t := { s with
        field := { s.field with stations := s.field.stations.map fun y =>
          if y.address = st.address then { st with state := .reporting } else y }
        net := { s.net with basis := s.net.basis + 1 } }) ha fun d => ?_
    rw [serveStationClear, withStation_at d _ hi hx hst, if_pos hheld]
    unfold clearStation
    dsimp only
    rw [syncUnavailable_empty, dispatchTop, dispatchPass_empty, hheld]
    · rfl
    · exact hq
    · exact hq
  · refine (Asks.stationClear tag a).exec_same ha fun d => ?_
    rw [serveStationClear, withStation_at d _ hi hx hst, if_neg hheld]
    rfl

end Sys2Proof.Machine

/-! SUPPORT. The silence of a reporting station (O37). -/

namespace Sys2Proof.Machine

/-! ### The elements of a silent station (R111) -/

/-- Marks of listed elements written one after another: each listed element's record has the mark. -/
theorem element?_foldl_mark (l : List Element) (s : State) (n : Nat) :
    (l.foldl (fun u e => u.updElement e.number fun r => { r with unconfirmed := true }) s).element? n =
      (s.element? n).map fun r => if ∃ e ∈ l, e.number = n then { r with unconfirmed := true } else r := by
  induction l generalizing s with
  | nil => simp
  | cons e l ih =>
    rw [List.foldl_cons, ih]
    have written : (s.updElement e.number fun r => { r with unconfirmed := true }).element? n =
        (s.element? n).map fun r => if r.number = e.number then { r with unconfirmed := true } else r :=
      find?_upd ElementRec.number e.number n (fun r => { r with unconfirmed := true }) (fun _ h => h) s.elements.table
    rw [written, Option.map_map]
    refine Option.map_congr fun r hr => ?_
    have number : r.number = n := State.element?_number hr
    dsimp only [Function.comp]
    by_cases he : e.number = n
    · simp [number, he]
    · simp [number, Ne.symm he, he]

theorem foldl_mark_frame (l : List Element) (t : List ElementRec) : ∃ table, ∀ u : State, u.elements.table = t →
    l.foldl (fun u e => u.updElement e.number fun r => { r with unconfirmed := true }) u =
      { u with elements := { u.elements with table := table } } := by
  induction l generalizing t with
  | nil => exact ⟨t, fun u hu => by rw [← hu]; rfl⟩
  | cons e l ih =>
    obtain ⟨table, h⟩ := ih (t.map fun r => if r.number = e.number then { r with unconfirmed := true } else r)
    exact ⟨table, fun u hu => h (u.updElement e.number fun r => { r with unconfirmed := true }) (by rw [← hu]; rfl)⟩

theorem markUnconfirmed_exists (s : State) (a : Nat) : ∃ table,
    (∀ u : State, u.elements.table = s.elements.table → u.net.active = s.net.active →
      markUnconfirmed a u = { u with elements := { u.elements with table := table } }) ∧
    ∀ n, (table.find? fun r => r.number = n) = (s.element? n).map fun r =>
      if ∃ e ∈ s.elementsOf, e.cls = .remote ∧ e.station = a ∧ e.number = n then { r with unconfirmed := true } else r := by
  obtain ⟨table, h⟩ := foldl_mark_frame (s.elementsOf.filter fun e => e.cls = .remote && e.station = a) s.elements.table
  refine ⟨table, fun u hu ha => ?_, fun n => ?_⟩
  · rw [markUnconfirmed, State.elementsOf, ha]
    exact h u hu
  · have found := element?_foldl_mark (s.elementsOf.filter fun e => e.cls = .remote && e.station = a) s n
    rw [h s rfl] at found
    refine Eq.trans found (Option.map_congr fun r _ => ?_)
    simp [and_assoc]

/-! ### The points of a silent station (R62, R65) -/

/-- The notice of a point made STALE, if its record is neither NEVER nor STALE already (R62, R65). -/
def staleNotice (segment : Nat) (r : PointRec) : Option NoticeBody :=
  if r.quality = .never ∨ r.quality = .stale then none
  else some (.point
    { point := r.number, segment := segment, oldQuality := r.quality, quality := .stale
      oldBand := r.band, band := r.band, oldFalling := r.falling, falling := r.falling, f := r.f, p := r.p
      rate := none, underScale := r.underScale, overScale := r.overScale, expected := r.expected
      lastSample := r.lastSample })

theorem staleOf_eq (r : PointRec) : staleOf r =
    if r.quality ≠ .never ∧ r.quality ≠ .stale then { r with quality := .stale, rate := none } else r := by
  unfold staleOf
  cases r.quality <;> rfl

theorem pointNotice_staleOf (segment : Nat) (r : PointRec) : pointNotice segment r (staleOf r) = staleNotice segment r := by
  unfold staleOf staleNotice pointNotice
  cases hq : r.quality <;> simp [hq]

theorem staleOf_staleOf (r : PointRec) : staleOf (staleOf r) = staleOf r := by
  unfold staleOf
  cases hq : r.quality <;> simp [hq]

theorem staleNotice_staleOf (segment : Nat) (r : PointRec) : staleNotice segment (staleOf r) = none := by
  unfold staleOf staleNotice
  cases hq : r.quality <;> simp [hq]

/-- The stale pass over a list of points: the fold of `stalePoints`. -/
def staleRun (l : List Point) (s : State) : State :=
  l.foldl (fun s t => match s.point? t.number with
    | some r => setPoint (staleOf r) s
    | none => s) s

theorem stalePoints_eq (a : Nat) (s : State) : stalePoints a s = staleRun (s.pointsOf.filter fun t => t.station = a) s := rfl

/-- A point record made STALE, with its notice. -/
theorem setPoint_staleOf {s : State} {n : Nat} {r : PointRec} (hr : s.point? n = some r) :
    setPoint (staleOf r) s = passNotices (staleNotice (s.segmentOfPoint n) r).toList (s.updPoint n fun _ => staleOf r) := by
  obtain rfl : r.number = n := (key_of_find? PointRec.number _ s.points r hr).1
  rw [setPoint, staleOf_number, hr, ← pointNotice_staleOf]

/-- What a stale pass leaves of the point records and the notices it passes, from every state with these records and this
image: each point's record found stale, one notice for each of the list made so. -/
structure StaleRun (l : List Point) (s : State) (points : List PointRec) (told : List NoticeBody) : Prop where
  run : ∀ u : State, u.points = s.points → u.net.active = s.net.active →
    staleRun l u = passNotices told { u with points := points }
  found : ∀ n, (points.find? fun r => r.number = n) =
    (s.point? n).map fun r => if ∃ p ∈ l, p.number = n then staleOf r else r
  stale : ∀ b ∈ told, ∃ p ∈ l, ∃ r x, s.point? p.number = some r ∧ r.quality ≠ .never ∧ r.quality ≠ .stale ∧
    b = .point x ∧ x.point = p.number ∧ x.quality = .stale
  single : told.Pairwise fun a b => ¬a.sameSubject b
  exact : (l.map (·.number)).Nodup → told = l.filterMap fun p => (s.point? p.number).bind fun r =>
    staleNotice (s.segmentOfPoint p.number) r

section

variable {l : List Point} {s : State} {p : Point} {points : List PointRec} {told : List NoticeBody}

theorem staleRun_nil (s : State) : StaleRun [] s s.points [] where
  run u hp _ := by rw [← hp]; rfl
  found n := by simp [State.point?]
  stale _ hb := absurd hb List.not_mem_nil
  single := List.Pairwise.nil
  exact _ := rfl

/-- A point without a record is left out. -/
theorem StaleRun.skip (hr : s.point? p.number = none) (h : StaleRun l s points told) : StaleRun (p :: l) s points told where
  run u hp ha := by
    have skipped : u.point? p.number = none := by rw [State.point?, hp]; exact hr
    rw [staleRun, List.foldl_cons, skipped]
    exact h.run u hp ha
  found n := by
    rw [h.found]
    refine Option.map_congr fun r hn => ?_
    have : p.number ≠ n := fun he => by rw [he, hn] at hr; cases hr
    simp [this]
  stale b hb := by
    obtain ⟨q, hq, rest⟩ := h.stale b hb
    exact ⟨q, List.mem_cons_of_mem _ hq, rest⟩
  single := h.single
  exact hl := by
    rw [List.filterMap_cons, hr]
    exact h.exact (List.nodup_cons.mp hl).2

theorem point?_staled {r : PointRec} (hr : s.point? p.number = some r) (n : Nat) :
    (s.updPoint p.number fun _ => staleOf r).point? n =
      (s.point? n).map fun y => if y.number = p.number then staleOf r else y := by
  have number : r.number = p.number := (key_of_find? PointRec.number _ s.points r hr).1
  exact find?_upd PointRec.number p.number n (fun _ => staleOf r) (fun _ _ => by rw [staleOf_number, number]) s.points

theorem not_stale_of_staleOf {r : PointRec} (h : (staleOf r).quality ≠ .never) (h' : (staleOf r).quality ≠ .stale) :
    False := by
  rw [staleOf_eq] at h h'
  split at h'
  · exact h' rfl
  · next hn =>
    rw [if_neg hn] at h
    exact hn ⟨h, h'⟩

theorem staleNotice_some {segment : Nat} {r : PointRec} {b : NoticeBody} (h : b ∈ (staleNotice segment r).toList) :
    r.quality ≠ .never ∧ r.quality ≠ .stale ∧ ∃ x, b = .point x ∧ x.point = r.number ∧ x.quality = .stale := by
  rw [Option.mem_toList, staleNotice] at h
  split at h
  · cases h
  · next hq =>
    obtain ⟨hnever, hstale⟩ := not_or.mp hq
    exact ⟨hnever, hstale, _, (Option.some.inj h).symm, rfl, rfl⟩

/-- A notice behind the first point's is of another point. -/
theorem StaleRun.never_again {r : PointRec} (hr : s.point? p.number = some r)
    (h : StaleRun l (s.updPoint p.number fun _ => staleOf r) points told) {x : PointNotice} (hx : .point x ∈ told) :
    x.point ≠ p.number := by
  have number : r.number = p.number := (key_of_find? PointRec.number _ s.points r hr).1
  intro he
  obtain ⟨q, -, y, z, hy, hnever, hstale, hz, hq, -⟩ := h.stale _ hx
  cases hz
  rw [← hq, he, point?_staled hr, hr, Option.map_some, if_pos number] at hy
  cases hy
  exact not_stale_of_staleOf hnever hstale

theorem StaleRun.cons_run {r : PointRec} (hr : s.point? p.number = some r)
    (h : StaleRun l (s.updPoint p.number fun _ => staleOf r) points told) (u : State) (hp : u.points = s.points)
    (ha : u.net.active = s.net.active) : staleRun (p :: l) u =
      passNotices ((staleNotice (s.segmentOfPoint p.number) r).toList ++ told) { u with points := points } := by
  have here : u.point? p.number = some r := by rw [State.point?, hp]; exact hr
  have segment : u.segmentOfPoint p.number = s.segmentOfPoint p.number := by
    rw [State.segmentOfPoint, State.pointTopo?, ha]
    rfl
  have written : (u.updPoint p.number fun _ => staleOf r).points = (s.updPoint p.number fun _ => staleOf r).points := by
    rw [State.updPoint, hp]
    rfl
  rw [staleRun, List.foldl_cons, here]
  dsimp only
  rw [setPoint_staleOf here, segment, passNotices_append]
  refine (h.run _ (by rw [passNotices_points]; exact written) (by rw [passNotices_net]; exact ha)).trans ?_
  rw [passNotices_frame _ (u.updPoint p.number fun _ => staleOf r), passNotices_frame _ ({ u with points := points } : State),
    passNotices_congr _ ({ u with points := points } : State) (u.updPoint p.number fun _ => staleOf r) rfl rfl]
  rfl

theorem StaleRun.cons_found {r : PointRec} (hr : s.point? p.number = some r)
    (h : StaleRun l (s.updPoint p.number fun _ => staleOf r) points told) (n : Nat) :
    (points.find? fun y => y.number = n) =
      (s.point? n).map fun y => if ∃ q ∈ p :: l, q.number = n then staleOf y else y := by
  rw [h.found, point?_staled hr, Option.map_map]
  refine Option.map_congr fun y hy => ?_
  have hyn : y.number = n := (key_of_find? PointRec.number _ s.points y hy).1
  dsimp only [Function.comp]
  by_cases hn : p.number = n
  · have same : r = y := by rw [hn, hy] at hr; exact (Option.some.inj hr).symm
    rw [if_pos (hyn.trans hn.symm), if_pos (show ∃ q ∈ p :: l, q.number = n from ⟨p, List.mem_cons_self, hn⟩), staleOf_staleOf, ite_self, same]
  · have : (∃ x ∈ p :: l, x.number = n) ↔ ∃ x ∈ l, x.number = n := by simp [hn]
    rw [if_neg fun he : y.number = p.number => hn (he.symm.trans hyn)]
    simp only [this]

theorem StaleRun.cons_exact {r : PointRec} (hr : s.point? p.number = some r)
    (h : StaleRun l (s.updPoint p.number fun _ => staleOf r) points told) (hl : ((p :: l).map (·.number)).Nodup) :
    (staleNotice (s.segmentOfPoint p.number) r).toList ++ told = (p :: l).filterMap fun q =>
      (s.point? q.number).bind fun y => staleNotice (s.segmentOfPoint q.number) y := by
  obtain ⟨hp, hl⟩ := List.nodup_cons.mp hl
  have rest : (l.filterMap fun q => ((s.updPoint p.number fun _ => staleOf r).point? q.number).bind fun y =>
      staleNotice ((s.updPoint p.number fun _ => staleOf r).segmentOfPoint q.number) y) =
      l.filterMap fun q => (s.point? q.number).bind fun y => staleNotice (s.segmentOfPoint q.number) y := by
    refine List.filterMap_congr fun q hq => ?_
    have other : q.number ≠ p.number := fun he => hp (List.mem_map.mpr ⟨q, hq, he⟩)
    rw [point?_staled hr]
    cases hy : s.point? q.number with
    | none => rfl
    | some y =>
      have hyn : y.number = q.number := (key_of_find? PointRec.number _ s.points y hy).1
      rw [Option.map_some, if_neg (hyn ▸ other)]
      rfl
  rw [h.exact hl, rest, List.filterMap_cons, hr, Option.bind_some]
  cases staleNotice (s.segmentOfPoint p.number) r <;> rfl

/-- The first point of the list made STALE, then the rest. -/
theorem StaleRun.cons {r : PointRec} (hr : s.point? p.number = some r)
    (h : StaleRun l (s.updPoint p.number fun _ => staleOf r) points told) :
    StaleRun (p :: l) s points ((staleNotice (s.segmentOfPoint p.number) r).toList ++ told) where
  run := h.cons_run hr
  found := h.cons_found hr
  exact := h.cons_exact hr
  stale b hb := by
    have number : r.number = p.number := (key_of_find? PointRec.number _ s.points r hr).1
    rcases List.mem_append.mp hb with hb | hb
    · obtain ⟨hnever, hstale, x, rfl, hx, hq⟩ := staleNotice_some hb
      exact ⟨p, List.mem_cons_self, r, x, hr, hnever, hstale, rfl, hx.trans number, hq⟩
    · obtain ⟨q, hq, y, x, hy, hnever, hstale, rest⟩ := h.stale b hb
      rw [point?_staled hr] at hy
      obtain ⟨z, hz, he⟩ := Option.map_eq_some_iff.mp hy
      refine ⟨q, List.mem_cons_of_mem _ hq, z, x, hz, ?_⟩
      split at he
      · subst he
        exact (not_stale_of_staleOf hnever hstale).elim
      · exact he ▸ ⟨hnever, hstale, rest⟩
  single := by
    have number : r.number = p.number := (key_of_find? PointRec.number _ s.points r hr).1
    rw [List.pairwise_append]
    refine ⟨?_, h.single, fun a ha b hb => ?_⟩
    · cases staleNotice (s.segmentOfPoint p.number) r <;> simp
    · obtain ⟨-, -, x, rfl, hx, -⟩ := staleNotice_some ha
      obtain ⟨-, -, -, y, -, -, -, rfl, -⟩ := h.stale b hb
      exact fun he => h.never_again hr hb ((show x.point = y.point from he).symm.trans (hx.trans number))

end

theorem staleRun_exists (l : List Point) (s : State) : ∃ points told, StaleRun l s points told := by
  induction l generalizing s with
  | nil => exact ⟨_, _, staleRun_nil s⟩
  | cons p l ih =>
    cases hr : s.point? p.number with
    | none =>
      obtain ⟨points, told, h⟩ := ih s
      exact ⟨points, told, h.skip hr⟩
    | some r =>
      obtain ⟨points, told, h⟩ := ih (s.updPoint p.number fun _ => staleOf r)
      exact ⟨points, _, h.cons hr⟩

/-! ### O37 -/

/-- The free line's take reads and changes the Control Port alone. -/
theorem startLine_congr {s t : State} (h : s.control = t.control) : (startLine s).control = (startLine t).control := by
  have taken (u : State) : (startLine u).control = (startLine { s with control := u.control }).control := by
    unfold startLine takeNext
    dsimp only
    split
    · split
      · rfl
      · split <;> rfl
    · rfl
  rw [taken s, taken t, h]

theorem pointsOf_number {s : State} {p : Point} (hl : (s.pointsOf.map (·.number)).Nodup) (hp : p ∈ s.pointsOf) :
    s.segmentOfPoint p.number = p.segment := by
  unfold State.pointsOf at hl hp
  cases hi : s.net.active with
  | none => simp [hi] at hp
  | some img =>
    rw [hi, Option.map_some, Option.getD_some] at hl hp
    exact State.segmentOfPoint_eq hi (find?_of_mem_nodup Point.number _ hl p hp)

/-- What the silence of a REPORTING station leaves of its part, and what it tells (R35, R62, R111, R124). -/
def silencedPart (s : State) (a : Nat) (st : Station) (table : List ElementRec) (points : List PointRec) : State :=
  { s with
    field := { s.field with stations := s.field.stations.map fun y =>
      if y.address = a then { st with state := .silent, silenceAt := none } else y }
    net := { s.net with basis := s.net.basis + 1 }
    elements := { s.elements with
      table := table
      queue := s.elements.queue.map fun o =>
        if o.state = .queued ∧ s.stationOf o = a then
          { o with unavailableAt := some (o.unavailableAt.getD (s.partTime.toNat + 120)) } else o }
    points := points }

/-- A station that has just been silenced is unavailable (R124). -/
theorem silenced_unavailable {u : State} {a : Nat} {st : Station} (h : u.station? a = some st) (hs : st.state = .silent) :
    u.unavailable a = true := by
  simp [State.unavailable, h, hs]

theorem syncUnavailable_unavailable {t : State} {a : Nat} (h : t.unavailable a = true) : syncUnavailable a t =
    { t with
      elements := { t.elements with
        queue := t.elements.queue.map fun o =>
          if o.state = .queued ∧ t.stationOf o = a then
            { o with unavailableAt := some (o.unavailableAt.getD (t.partTime.toNat + 120)) } else o } } := by
  simp only [syncUnavailable, h, if_true]
  rfl

theorem station?_setStation {s : State} {a : Nat} {st t : Station} (h : s.station? a = some st) (ht : t.address = a) :
    (setStation t s).station? a = some t := by
  have written : (setStation t s).station? a = _ :=
    find?_upd Station.address t.address a (fun _ => t) (fun _ _ => rfl) s.field.stations
  have address := State.station?_address h
  rw [written, show (s.field.stations.find? fun r => decide (r.address = a)) = some st from h, Option.map_some,
    if_pos (address.trans ht.symm)]

/-- The silence of a REPORTING station, whatever the Control Port holds. -/
theorem silenceEvent_reporting {s : State} {a : Nat} {st : Station} (hst : s.station? a = some st)
    (hrep : st.state = .reporting) {table : List ElementRec} {points : List PointRec} {told : List NoticeBody}
    (hmark : ∀ u : State, u.elements.table = s.elements.table → u.net.active = s.net.active →
      markUnconfirmed a u = { u with elements := { u.elements with table := table } })
    (h : StaleRun (s.pointsOf.filter fun p => p.station = a) s points told) (d : ControlPort) :
    silenceEvent a { s with control := d } = passNotices (.station
        { address := st.address, oldState := .reporting, state := .silent, cause := .expiry
          localFlag := st.localFlag, lastAccepted := st.lastAccepted, basis := s.net.basis + 1 } :: told)
      { silencedPart s a st table points with control := d } := by
  have here : ({ s with control := d } : State).station? a = some st := hst
  have address := State.station?_address hst
  have silenced : (bumpBasis (setStation st.silenced { s with control := d })).station? a = some st.silenced :=
    station?_setStation here address
  have synced : syncUnavailable a (markUnconfirmed a (bumpBasis (setStation st.silenced { s with control := d }))) =
      { silencedPart s a st table s.points with control := d } := by
    rw [hmark (bumpBasis (setStation st.silenced { s with control := d })) rfl rfl]
    have unavailable := silenced_unavailable (u := { bumpBasis (setStation st.silenced { s with control := d }) with
      elements := { s.elements with table := table } }) silenced rfl
    refine (syncUnavailable_unavailable unavailable).trans ?_
    rw [← address]
    rfl
  rw [silenceEvent, here]
  dsimp only
  rw [hrep]
  dsimp only
  rw [synced, passNotices_cons, stalePoints_eq]
  have points_of : (stationNotice .reporting st.silenced .expiry
      { silencedPart s a st table s.points with control := d }).pointsOf = s.pointsOf := by
    rw [stationNotice, State.pointsOf, passNotice_net]
    rfl
  rw [points_of, h.run _ (by rw [stationNotice, passNotice_points]; rfl) (by rw [stationNotice, passNotice_net]; rfl)]
  refine congrArg (passNotices told) ?_
  rw [stationNotice, passNotice_frame, passNotice_frame _ ({ silencedPart s a st table points with control := d } : State),
    passNotice_congr _ ({ silencedPart s a st table points with control := d } : State)
      { silencedPart s a st table s.points with control := d } rfl rfl]
  rfl

/-- Settles O37: the tables and the notices of a reporting station's silence. -/
theorem silenceOfAReportingStation : Obligations.SilenceOfAReportingStation := by
  intro s a n st hp hst hrep ht hn
  obtain ⟨table, hmark, elements⟩ := markUnconfirmed_exists s a
  obtain ⟨points, told, h⟩ := staleRun_exists (s.pointsOf.filter fun p => p.station = a) s
  have event := inEvent_notices (f := silenceEvent a) (t := silencedPart s a st table points)
    (silenceEvent_reporting hst hrep hmark h)
    (List.pairwise_cons.mpr ⟨fun _ _ => id, h.single⟩)
  refine ⟨_, (exec_silenceExpiry hp hst ht hn).trans (congrArg (fun u => Host.Outcome.next (startLine u)) event), ?_, ?_,
    fun m => ?_, fun m => ?_, ?_, ?_, ?_, ?_, ?_, ?_, ?_, ?_, ?_, ?_, ?_, told, ?_, ?_, ?_⟩
  · rw [startLine_field, passNotices_field]
    rfl
  · rw [startLine_net, passNotices_net]
    rfl
  · rw [State.element?, startLine_elements, passNotices_elements]
    exact elements m
  · rw [State.point?, startLine_points, passNotices_points]
    refine (h.found m).trans (Option.map_congr fun r _ => ?_)
    rw [staleOf_eq]
    simp only [List.mem_filter, decide_eq_true_eq, and_assoc]
    split <;> simp_all
  · rw [startLine_elements, passNotices_elements]
    rfl
  · rw [startLine_elements, passNotices_elements]
    rfl
  · rw [startLine_elements, passNotices_elements]
    rfl
  · rw [startLine_supply, passNotices_supply]
    rfl
  · rw [startLine_incidents, passNotices_incidents]
    rfl
  · rw [startLine_planner, passNotices_planner]
    rfl
  · rw [startLine_register, passNotices_register]
    rfl
  · rw [startLine_store, passNotices_store]
    rfl
  · rw [startLine_partTime, passNotices_partTime]
    rfl
  · rw [startLine_power, passNotices_power]
    rfl
  · rw [startLine_resetPin, passNotices_resetPin]
    rfl
  · intro b hb
    obtain ⟨-, -, -, x, -, -, -, rfl, -, hq⟩ := h.stale b hb
    exact ⟨x, rfl, hq⟩
  · intro hl
    have distinct := List.Pairwise.imp (fun h => Nat.ne_of_lt h) hl
    rw [h.exact (distinct.sublist (List.filter_sublist.map _))]
    refine List.filterMap_congr fun p hmem => ?_
    refine Option.bind_congr fun r hr => ?_
    have number : r.number = p.number := (key_of_find? PointRec.number _ s.points r hr).1
    rw [pointsOf_number distinct (List.mem_of_mem_filter hmem), staleNotice, number]
  · exact startLine_congr (passNotices_congr _ _ _ rfl rfl)

end Sys2Proof.Machine

/-! SUPPORT. Interlocks and the dispatch pass (O45). -/

namespace Sys2Proof.Machine

/-! ### Interlocks (R121, R122) -/

section

variable {s : State} {o : Order}

theorem uncleared_iff (s : State) (m : Nat) : s.uncleared m = true ↔ ∃ y, s.outage? m = some y ∧ y.clearance = none := by
  simp [State.uncleared, Option.any_eq_true]

theorem uncleared_false_iff (s : State) (m : Nat) :
    s.uncleared m = false ↔ ∀ y, s.outage? m = some y → y.clearance ≠ none := by
  rw [← Bool.not_eq_true, uncleared_iff]
  simp

/-- A segment by which an order's interlock bars it. -/
def Bars (s : State) (o : Order) (m : Nat) : Prop :=
  (o.action = .close ∧ o.override = false ∧ m ∈ s.lostBy o.element ∧ s.guardedSegment m = true) ∨
  (o.action = .opening ∧ m ∈ s.gaining o.element ∧ ∃ y, s.outage? m = some y ∧ y.clearance = none)

theorem interlock_close (ha : o.action = .close) (ho : o.override = false) :
    interlock s o = (s.lostBy o.element).find? s.guardedSegment := by
  simp [interlock, closeInterlock, ha, ho]

theorem interlock_opening (ha : o.action = .opening) : interlock s o = (s.gaining o.element).find? s.uncleared := by
  simp [interlock, openInterlock, ha]

theorem interlock_override (ha : o.action = .close) (ho : o.override = true) : interlock s o = none := by
  simp [interlock, closeInterlock, ha, ho]

theorem interlock_eq_none_iff : interlock s o = none ↔ ∀ m, ¬Bars s o m := by
  cases ha : o.action with
  | close =>
    cases ho : o.override with
    | true => simp [interlock_override ha ho, Bars, ha, ho]
    | false => simp [interlock_close ha ho, Bars, ha, ho]
  | opening =>
    rw [interlock_opening ha, List.find?_eq_none]
    simp only [uncleared_iff, Bars, ha]
    simp

/-- The first segment of the list that fails an interlock. -/
theorem interlock_first {m : Nat} {before rest : List Nat}
    (h : (o.action = .close ∧ o.override = false ∧ s.lostBy o.element = before ++ m :: rest ∧
        s.guardedSegment m = true ∧ ∀ x ∈ before, s.guardedSegment x = false) ∨
      (o.action = .opening ∧ s.gaining o.element = before ++ m :: rest ∧
        (∃ y, s.outage? m = some y ∧ y.clearance = none) ∧
        ∀ x ∈ before, ∀ y, s.outage? x = some y → y.clearance ≠ none)) : interlock s o = some m := by
  rcases h with ⟨ha, ho, hl, hm, hb⟩ | ⟨ha, hl, hm, hb⟩
  · rw [interlock_close ha ho, hl, List.find?_eq_some_iff_append]
    exact ⟨hm, before, rest, rfl, fun x hx => by rw [hb x hx]; rfl⟩
  · rw [interlock_opening ha, hl, List.find?_eq_some_iff_append]
    exact ⟨(uncleared_iff s m).mpr hm, before, rest, rfl, fun x hx => by
      rw [(uncleared_false_iff s x).mpr (hb x hx)]; rfl⟩

/-- The first barring segment. -/
theorem interlock_of_bars {m : Nat} {before rest : List Nat} (hm : Bars s o m)
    (hl : s.lostBy o.element = before ++ m :: rest ∧ o.action = .close ∨
      s.gaining o.element = before ++ m :: rest ∧ o.action = .opening)
    (hb : ∀ x ∈ before, ¬Bars s o x) : interlock s o = some m := by
  rcases hm with ⟨ha, ho, -, hg⟩ | ⟨ha, -, hu⟩ <;> rcases hl with ⟨hl, ha'⟩ | ⟨hl, ha'⟩
  · refine interlock_first (.inl ⟨ha, ho, hl, hg, fun x hx => Bool.not_eq_true _ ▸ fun hx' => hb x hx (.inl ?_)⟩)
    exact ⟨ha, ho, hl ▸ List.mem_append_left _ hx, hx'⟩
  · rw [ha] at ha'; cases ha'
  · rw [ha] at ha'; cases ha'
  · refine interlock_first (.inr ⟨ha, hl, hu, fun x hx y hy hc => hb x hx (.inr ?_)⟩)
    exact ⟨ha, hl ▸ List.mem_append_left _ hx, y, hy, hc⟩

/-! ### Eligible orders (R120, R123) -/

theorem inFlight_iff (o : Order) : o.inFlight = true ↔ o.state ≠ .queued := by simp [Order.inFlight]

theorem not_inFlight_iff (o : Order) : ¬o.inFlight = true ↔ o.state = .queued := by simp [Order.inFlight]

theorem flightOf?_isNone (s : State) (a : Nat) :
    (s.flightOf? a).isNone = true ↔ ∀ y ∈ s.elements.queue, y.state ≠ .queued → s.stationOf y ≠ a := by
  simp [State.flightOf?, Order.inFlight]

theorem eligible_iff (s : State) (o : Order) : eligible s o = true ↔
    (s.elements.queue.filter fun y => y.state ≠ .queued).length < 4 ∧
    (∃ st, s.station? (s.stationOf o) = some st ∧ st.state = .reporting ∧ st.localFlag = false) ∧
    ∀ y ∈ s.elements.queue, y.state ≠ .queued → s.stationOf y ≠ s.stationOf o := by
  rw [eligible, Bool.and_eq_true, Bool.and_eq_true, flightOf?_isNone, Bool.not_eq_true', unavailable_eq_false,
    decide_eq_true_eq, and_assoc]
  rfl

/-- Orders that are not eligible stay so while no order leaves flight: `t` keeps the orders in flight of `s`, its stations and
its image. -/
structure KeepsFlight (s t : State) : Prop where
  active : t.net.active = s.net.active
  stations : t.field.stations = s.field.stations
  count : (s.elements.queue.filter fun y => y.state ≠ .queued).length ≤
    (t.elements.queue.filter fun y => y.state ≠ .queued).length
  held : ∀ y ∈ s.elements.queue, y.state ≠ .queued →
    ∃ z ∈ t.elements.queue, z.state ≠ .queued ∧ z.element = y.element

theorem stationOf_congr {s t : State} {y z : Order} (ha : t.net.active = s.net.active) (he : z.element = y.element) :
    t.stationOf z = s.stationOf y := by
  simp only [State.stationOf, State.elemTopo?, ha, he]

theorem KeepsFlight.eligible {s t : State} (h : KeepsFlight s t) (o : Order) (he : eligible t o = true) :
    eligible s o = true := by
  obtain ⟨hc, ⟨st, hst, hr, hl⟩, hf⟩ := (eligible_iff t o).mp he
  have here : t.stationOf o = s.stationOf o := stationOf_congr h.active rfl
  refine (eligible_iff s o).mpr ⟨lt_of_le_of_lt h.count hc, ⟨st, ?_, hr, hl⟩, fun y hy hq => ?_⟩
  · rw [← here, ← hst, State.station?, State.station?, h.stations]
  · obtain ⟨z, hz, hzq, hze⟩ := h.held y hy hq
    have := hf z hz hzq
    rwa [stationOf_congr h.active hze, here] at this

end

section

variable {s : State} {o : Order}

theorem number_eq_of_mem (hd : (s.elements.queue.map (·.number)).Nodup) {x y : Order} (hx : x ∈ s.elements.queue)
    (hy : y ∈ s.elements.queue) (h : x.number = y.number) : x = y :=
  List.inj_on_of_nodup_map hd hx hy h

/-- The orders that stay when a QUEUED order leaves: those in flight. -/
theorem keepsFlight_finishOrder (hd : (s.elements.queue.map (·.number)).Nodup) (ho : o ∈ s.elements.queue)
    (hq : o.state = .queued) (x : OrderOutcome) : KeepsFlight s (finishOrder o x s) := by
  have queue : (finishOrder o x s).elements.queue = s.elements.queue.filter fun y => y.number ≠ o.number := by
    rw [finishOrder_elements]
    rfl
  have other {y : Order} (hy : y ∈ s.elements.queue) (hyq : y.state ≠ .queued) : y.number ≠ o.number :=
    fun he => hyq (number_eq_of_mem hd hy ho he ▸ hq)
  refine ⟨by rw [finishOrder_frame], by rw [finishOrder_frame], ?_, fun y hy hyq => ⟨y, ?_, hyq, rfl⟩⟩
  · rw [queue, List.filter_filter]
    refine le_of_eq (congrArg List.length (List.filter_congr fun y hy => ?_))
    by_cases hyq : y.state = .queued
    · simp [hyq]
    · simp [hyq, other hy hyq]
  · rw [queue]
    exact List.mem_filter.mpr ⟨hy, by simpa using other hy hyq⟩

theorem sendOrder_queue (s : State) (o : Order) : (sendOrder o s).elements.queue =
    s.elements.queue.map fun r => if r.number = o.number then
      { r with tag := s.elements.nextTag, state := .sent, unavailableAt := none, sendsLeft := 2
               ackAt := some (s.partTime.toNat + 3) } else r := by
  rw [sendOrder_frame]
  rfl

theorem sendOrder_numbers (s : State) (o : Order) :
    (sendOrder o s).elements.queue.map (·.number) = s.elements.queue.map (·.number) := by
  rw [sendOrder_queue, List.map_map]
  refine List.map_congr_left fun y _ => ?_
  dsimp only [Function.comp]
  split <;> rfl

theorem keepsFlight_sendOrder (s : State) (o : Order) : KeepsFlight s (sendOrder o s) := by
  have sent (y : Order) (hy : y.state ≠ .queued) : (if y.number = o.number then
      { y with tag := s.elements.nextTag, state := .sent, unavailableAt := none, sendsLeft := 2
               ackAt := some (s.partTime.toNat + 3) } else y).state ≠ .queued := by
    split
    · simp
    · exact hy
  refine ⟨by rw [sendOrder_frame], by rw [sendOrder_frame], ?_, fun y hy hyq => ?_⟩
  · rw [sendOrder_queue, List.filter_map, List.length_map]
    refine List.Sublist.length_le (List.monotone_filter_right _ fun y hy => ?_)
    simpa using sent y (by simpa using hy)
  · rw [sendOrder_queue]
    refine ⟨_, List.mem_map_of_mem hy, sent y hyq, ?_⟩
    split <;> rfl

end

/-! ### A pass with nothing in hand (R120) -/

theorem Quiet.sendOrder {s : State} (h : Quiet s) (o : Order) : Quiet (sendOrder o s) :=
  h.congr (by rw [sendOrder_frame]) (by rw [sendOrder_frame])

/-- What follows an order's end inside a dispatch pass is nothing while nothing is in hand. -/
theorem depart_quiet (c : Ctx) {s : State} (h : Quiet s) : activateInDispatch c (recordPassInDispatch c s) = s := by
  rw [recordPassInDispatch, recordPass_quiet c _ h, activateInDispatch, activateIfDue_quiet _ h]

theorem Quiet.dispatchTop {s : State} (h : Quiet s) (c : Ctx) : Quiet (dispatchTop c s) :=
  dispatchLoop_keeps (P := Quiet) _ (fun t ht => by rw [depart_quiet c ht]; exact ht)
    (fun t o _ ht _ _ _ => ht.finishOrder o _) (fun t o ht _ _ _ _ => ht.sendOrder o) _ _ _ h

theorem Quiet.entryCount {s : State} (h : Quiet s) : s.entryCount = 0 := by
  have : s.register.records.filterMap id = [] := by
    rw [List.filterMap_eq_nil_iff]
    exact fun r hr => h.records r hr
  rw [State.entryCount, this]
  rfl

/-- The QUEUED orders that a pass has not reached. -/
def unseen (seen : List Nat) (s : State) : List Order :=
  s.elements.queue.filter fun o => o.state = .queued && !seen.contains o.number

theorem dispatchLoop_step (depart : State → State) (fuel : Nat) (seen : List Nat) (s : State) :
    dispatchLoop depart (fuel + 1) seen s =
      match (unseen seen s).head? with
      | none => s
      | some o =>
        if eligible s o then
          match interlock s o with
          | some n => dispatchLoop depart fuel (o.number :: seen) (depart (finishOrder o (.failed (.interlock n)) s))
          | none => dispatchLoop depart fuel (o.number :: seen) (sendOrder o s)
        else dispatchLoop depart fuel (o.number :: seen) s := by
  rw [dispatchLoop, unseen, List.head?_filter] <;> rfl

/-- The orders reached so far are not eligible, and the pass can still reach the others. -/
structure Reached (seen : List Nat) (fuel : Nat) (s : State) : Prop where
  ineligible : ∀ o ∈ s.elements.queue, o.state = .queued → o.number ∈ seen → ¬eligible s o = true
  enough : (unseen seen s).length ≤ fuel

/-- What a pass does with an eligible order it reaches: it ends by its interlock, or is sent. -/
def takeOrder (s : State) (o : Order) : State :=
  match interlock s o with
  | some n => finishOrder o (.failed (.interlock n)) s
  | none => sendOrder o s

theorem takeOrder_barred {s : State} {o : Order} {n : Nat} (h : interlock s o = some n) :
    takeOrder s o = finishOrder o (.failed (.interlock n)) s := by
  rw [takeOrder, h]

theorem takeOrder_sent {s : State} {o : Order} (h : interlock s o = none) : takeOrder s o = sendOrder o s := by
  rw [takeOrder, h]

theorem mem_unseen {seen : List Nat} {s : State} {o : Order} :
    o ∈ unseen seen s ↔ o ∈ s.elements.queue ∧ o.state = .queued ∧ o.number ∉ seen := by
  simp [unseen]

theorem unseen_cons (n : Nat) (seen : List Nat) (s : State) :
    unseen (n :: seen) s = (unseen seen s).filter fun o => o.number ≠ n := by
  rw [unseen, unseen, List.filter_filter]
  refine List.filter_congr fun o _ => ?_
  by_cases h : o.number = n <;> simp [h]

section

variable {s : State} {o : Order} {seen : List Nat} {fuel : Nat}

/-- An order the pass has reached is no longer among those to come. -/
theorem unseen_cons_length {y : Order} (hy : y ∈ unseen seen s) (hf : (unseen seen s).length ≤ fuel + 1) :
    (unseen (y.number :: seen) s).length ≤ fuel := by
  have : (unseen (y.number :: seen) s).length < (unseen seen s).length := by
    rw [unseen_cons]
    exact List.length_filter_lt_length_iff_exists.mpr ⟨y, hy, by simp⟩
  omega

/-- The orders still waiting after an order has been taken are orders that waited before. -/
theorem queued_of_takeOrder {z : Order} (hz : z ∈ (takeOrder s o).elements.queue) (hq : z.state = .queued) :
    z ∈ s.elements.queue ∧ z.number ≠ o.number := by
  cases hi : interlock s o with
  | some n =>
    rw [takeOrder_barred hi, finishOrder_elements] at hz
    obtain ⟨hm, hn⟩ := List.mem_filter.mp hz
    exact ⟨hm, by simpa using hn⟩
  | none =>
    rw [takeOrder_sent hi, sendOrder_queue] at hz
    obtain ⟨y, hy, rfl⟩ := List.mem_map.mp hz
    split at hq
    · cases hq
    · next hn =>
      rw [if_neg hn]
      exact ⟨hy, hn⟩

theorem keepsFlight_takeOrder (hd : (s.elements.queue.map (·.number)).Nodup) (ho : o ∈ s.elements.queue)
    (hq : o.state = .queued) : KeepsFlight s (takeOrder s o) := by
  unfold takeOrder
  split
  · exact keepsFlight_finishOrder hd ho hq _
  · exact keepsFlight_sendOrder s o

theorem takeOrder_nodup (hd : (s.elements.queue.map (·.number)).Nodup) :
    ((takeOrder s o).elements.queue.map (·.number)).Nodup := by
  unfold takeOrder
  split
  · rw [finishOrder_elements]
    exact hd.sublist (List.filter_sublist.map _)
  · rw [sendOrder_numbers]
    exact hd

theorem Quiet.takeOrder (h : Quiet s) (o : Order) : Quiet (takeOrder s o) := by
  unfold Machine.takeOrder
  split
  · exact h.finishOrder o _
  · exact h.sendOrder o

theorem unseen_takeOrder (s : State) (o : Order) (seen : List Nat) :
    unseen (o.number :: seen) (takeOrder s o) = unseen (o.number :: seen) s := by
  cases hi : interlock s o with
  | some n =>
    rw [takeOrder_barred hi, unseen, finishOrder_elements, leaveQueue_elements, List.filter_filter]
    refine List.filter_congr fun y _ => ?_
    by_cases h : y.number = o.number <;> simp [h]
  | none =>
    rw [takeOrder_sent hi, unseen, sendOrder_queue, List.filter_map]
    have kept : (s.elements.queue.filter ((fun y : Order => decide (y.state = .queued) && !(o.number :: seen).contains y.number) ∘
        fun r => if r.number = o.number then
          { r with tag := s.elements.nextTag, state := .sent, unavailableAt := none, sendsLeft := 2
                   ackAt := some (s.partTime.toNat + 3) } else r)) = unseen (o.number :: seen) s := by
      refine List.filter_congr fun y _ => ?_
      by_cases h : y.number = o.number <;> simp [Function.comp, h]
    rw [kept]
    refine List.map_congr_left (g := id) (fun y hy => ?_) |>.trans (List.map_id _)
    obtain ⟨-, -, hn⟩ := mem_unseen.mp hy
    exact if_neg fun h => hn (List.mem_cons.mpr (.inl h))

/-- The orders reached stay out of reach once an order has been taken. -/
theorem Reached.takeOrder (hd : (s.elements.queue.map (·.number)).Nodup) (ho : o ∈ s.elements.queue) (hq : o.state = .queued)
    (hs : ∀ y ∈ s.elements.queue, y.state = .queued → y.number ∈ seen → ¬eligible s y = true)
    (hf : (unseen (o.number :: seen) s).length ≤ fuel) : Reached (o.number :: seen) fuel (takeOrder s o) := by
  refine ⟨fun z hz hzq hn he => ?_, by rw [unseen_takeOrder]; exact hf⟩
  obtain ⟨hzs, hne⟩ := queued_of_takeOrder hz hzq
  rcases List.mem_cons.mp hn with hn | hn
  · exact hne hn
  · exact hs z hzs hzq hn ((keepsFlight_takeOrder hd ho hq).eligible z he)

variable {depart : State → State}

/-- A pass that reaches no eligible order ends where it stands. -/
theorem dispatchLoop_none (hn : ∀ y ∈ s.elements.queue, y.state = .queued → ¬eligible s y = true) :
    dispatchLoop depart fuel seen s = s := by
  induction fuel generalizing seen with
  | zero => rfl
  | succ fuel ih =>
    rw [dispatchLoop_step]
    cases hy : (unseen seen s).head? with
    | none => rfl
    | some y =>
      obtain ⟨hm, hq, -⟩ := mem_unseen.mp (List.mem_of_head? hy)
      dsimp only
      rw [if_neg (hn y hm hq)]
      exact ih

/-- A pass takes the oldest eligible order first. -/
theorem dispatchLoop_first (hd : ∀ t, Quiet t → depart t = t) (hquiet : Quiet s)
    (hnd : (s.elements.queue.map (·.number)).Nodup) {older newer : List Order}
    (hl : s.elements.queue = older ++ o :: newer) (hold : ∀ y ∈ older, y.state = .queued → ¬eligible s y = true)
    (hq : o.state = .queued) (he : eligible s o = true) (h : Reached seen fuel s) :
    ∃ fuel' seen', Reached (o.number :: seen') fuel' (takeOrder s o) ∧
      dispatchLoop depart fuel seen s = dispatchLoop depart fuel' (o.number :: seen') (takeOrder s o) := by
  have ho : o ∈ s.elements.queue := by rw [hl]; simp
  induction fuel generalizing seen with
  | zero =>
    have : o ∈ unseen seen s := mem_unseen.mpr ⟨ho, hq, fun hn => h.ineligible o ho hq hn he⟩
    exact absurd (List.length_pos_of_mem this) (by have := h.enough; omega)
  | succ fuel ih =>
    have hom : o ∈ unseen seen s := mem_unseen.mpr ⟨ho, hq, fun hn => h.ineligible o ho hq hn he⟩
    rw [dispatchLoop_step]
    cases hy : (unseen seen s).head? with
    | none =>
      rw [List.head?_eq_none_iff.mp hy] at hom
      cases hom
    | some y =>
      have hym := List.mem_of_head? hy
      obtain ⟨hm, hyq, -⟩ := mem_unseen.mp hym
      dsimp only
      by_cases hye : eligible s y = true
      · have same : y = o := by
          have split_queue : unseen seen s = (older.filter fun z => z.state = .queued && !seen.contains z.number) ++
              (o :: newer).filter fun z => z.state = .queued && !seen.contains z.number := by
            rw [unseen, hl, List.filter_append]
          have front : (older.filter fun z => z.state = .queued && !seen.contains z.number) = [] ∨ y ∈ older := by
            cases hf : older.filter fun z => z.state = .queued && !seen.contains z.number with
            | nil => exact .inl rfl
            | cons z l =>
              rw [split_queue, hf, List.cons_append, List.head?_cons] at hy
              have : z ∈ older := List.mem_of_mem_filter (hf ▸ List.mem_cons_self)
              exact .inr (Option.some.inj hy ▸ this)
          rcases front with hf | hf
          · rw [split_queue, hf, List.nil_append, List.filter_cons_of_pos, List.head?_cons] at hy
            · exact (Option.some.inj hy).symm
            · have hn : o.number ∉ seen := fun hn => h.ineligible o ho hq hn he
              simp [hq, hn]
          · exact absurd hye (hold y hf hyq)
        subst same
        rw [if_pos hye]
        refine ⟨fuel, seen, Reached.takeOrder hnd ho hq h.ineligible (unseen_cons_length hym h.enough), ?_⟩
        cases hi : interlock s y with
        | some n =>
          dsimp only
          rw [takeOrder_barred hi, hd _ (hquiet.finishOrder y _)]
        | none =>
          dsimp only
          rw [takeOrder_sent hi]
      · rw [if_neg hye]
        refine ih ⟨fun z hz hzq hn => ?_, unseen_cons_length hym h.enough⟩
        rcases List.mem_cons.mp hn with hn | hn
        · rw [number_eq_of_mem hnd hz hm hn]
          exact hye
        · exact h.ineligible z hz hzq hn

/-- The oldest eligible order of a queue, if it has one. -/
theorem first_eligible (s : State) :
    (∀ y ∈ s.elements.queue, y.state = .queued → ¬eligible s y = true) ∨
    ∃ older o newer, s.elements.queue = older ++ o :: newer ∧ (∀ y ∈ older, y.state = .queued → ¬eligible s y = true) ∧
      o.state = .queued ∧ eligible s o = true := by
  cases h : s.elements.queue.find? fun o => o.state = .queued && eligible s o with
  | none =>
    refine .inl fun y hy hq he => List.find?_eq_none.mp h y hy ?_
    simp [hq, he]
  | some o =>
    obtain ⟨ho, older, newer, hl, hb⟩ := List.find?_eq_some_iff_append.mp h
    obtain ⟨hq, he⟩ : o.state = .queued ∧ eligible s o = true := by simpa using ho
    exact .inr ⟨older, o, newer, hl, fun y hy hyq hye => by simpa [hyq, hye] using hb y hy, hq, he⟩

/-- What a pass has reached, and how many orders it may still reach, does not matter to what it comes to. -/
theorem dispatchLoop_forgets (hd : ∀ t, Quiet t → depart t = t) (n : Nat) :
    ∀ {s : State} {fuel fuel' : Nat} {seen seen' : List Nat}, (unseen [] s).length ≤ n → Quiet s →
      (s.elements.queue.map (·.number)).Nodup → Reached seen fuel s → Reached seen' fuel' s →
      dispatchLoop depart fuel seen s = dispatchLoop depart fuel' seen' s := by
  induction n with
  | zero =>
    intro s fuel fuel' seen seen' hn hquiet hnd _ _
    have none_eligible : ∀ y ∈ s.elements.queue, y.state = .queued → ¬eligible s y = true := fun y hy hq _ => by
      have : y ∈ unseen [] s := mem_unseen.mpr ⟨hy, hq, List.not_mem_nil⟩
      exact absurd (List.length_pos_of_mem this) (by omega)
    rw [dispatchLoop_none none_eligible, dispatchLoop_none none_eligible]
  | succ n ih =>
    intro s fuel fuel' seen seen' hn hquiet hnd h h'
    rcases first_eligible s with none_eligible | ⟨older, o, newer, hl, hold, hq, he⟩
    · rw [dispatchLoop_none none_eligible, dispatchLoop_none none_eligible]
    · obtain ⟨f, l, hr, hs⟩ := dispatchLoop_first hd hquiet hnd hl hold hq he h
      obtain ⟨f', l', hr', hs'⟩ := dispatchLoop_first hd hquiet hnd hl hold hq he h'
      have ho : o ∈ s.elements.queue := by rw [hl]; simp
      have fewer : (unseen [] (takeOrder s o)).length ≤ n := by
        have gone : unseen [] (takeOrder s o) = unseen [o.number] (takeOrder s o) := by
          rw [unseen_cons, List.filter_eq_self.mpr fun z hz => ?_]
          obtain ⟨hz, hzq, -⟩ := mem_unseen.mp hz
          simpa using (queued_of_takeOrder hz hzq).2
        rw [gone, unseen_takeOrder]
        exact unseen_cons_length (mem_unseen.mpr ⟨ho, hq, List.not_mem_nil⟩) hn
      rw [hs, hs']
      exact ih fewer (hquiet.takeOrder o) (takeOrder_nodup hnd) hr hr'

end

theorem reached_nil {s : State} {fuel : Nat} (h : s.elements.queue.length ≤ fuel) : Reached [] fuel s :=
  ⟨fun _ _ _ hn => absurd hn List.not_mem_nil, (List.length_filter_le _ _).trans h⟩

/-- A pass with nothing in hand takes the oldest eligible order and begins again. -/
theorem dispatchTop_first {s : State} {o : Order} (c : Ctx) (hquiet : Quiet s)
    (hnd : (s.elements.queue.map (·.number)).Nodup) {older newer : List Order}
    (hl : s.elements.queue = older ++ o :: newer) (hold : ∀ y ∈ older, y.state = .queued → ¬eligible s y = true)
    (hq : o.state = .queued) (he : eligible s o = true) : dispatchTop c s = dispatchTop c (takeOrder s o) := by
  obtain ⟨f, l, hr, hs⟩ := dispatchLoop_first (depart := fun t => activateInDispatch c (recordPassInDispatch c t))
    (fun t ht => depart_quiet c ht) hquiet hnd hl hold hq he
    (reached_nil (fuel := s.elements.queue.length + 2 * s.entryCount + 1) (by omega))
  rw [dispatchTop, dispatchPass, hs]
  exact dispatchLoop_forgets (fun t ht => depart_quiet c ht) _ le_rfl (hquiet.takeOrder o) (takeOrder_nodup hnd) hr
    (reached_nil (by omega))

theorem dispatchTop_none {s : State} (c : Ctx) (h : ∀ y ∈ s.elements.queue, y.state = .queued → ¬eligible s y = true) :
    dispatchTop c s = s := dispatchLoop_none h

/-! ### O45 -/

/-- The one order of its number, changed or taken out where it stands. -/
theorem at_number {l older newer : List Order} {o : Order} (hnd : (l.map (·.number)).Nodup) (hl : l = older ++ o :: newer)
    (g : Order → Order) :
    (l.map fun y => if y.number = o.number then g y else y) = older ++ g o :: newer ∧
    (l.filter fun y => y.number ≠ o.number) = older ++ newer := by
  subst hl
  rw [List.map_append, List.map_cons] at hnd
  have apart := List.nodup_middle.mp hnd
  rw [List.nodup_cons, List.mem_append] at apart
  have older_apart : ∀ y ∈ older, y.number ≠ o.number := fun y hy h => apart.1 (.inl (h ▸ List.mem_map_of_mem hy))
  have newer_apart : ∀ y ∈ newer, y.number ≠ o.number := fun y hy h => apart.1 (.inr (h ▸ List.mem_map_of_mem hy))
  have same {m : List Order} (hm : ∀ y ∈ m, y.number ≠ o.number) :
      (m.map fun y => if y.number = o.number then g y else y) = m :=
    (List.map_congr_left (g := id) fun y hy => if_neg (hm y hy)).trans (List.map_id m)
  have all {m : List Order} (hm : ∀ y ∈ m, y.number ≠ o.number) : (m.filter fun y => y.number ≠ o.number) = m :=
    List.filter_eq_self.mpr fun y hy => by simpa using hm y hy
  constructor
  · rw [List.map_append, List.map_cons, same older_apart, same newer_apart, if_pos rfl]
  · rw [List.filter_append, List.filter_cons_of_neg (by simp), all older_apart, all newer_apart]

/-- An ORDER frame handed over for an element of the active image. -/
theorem handFrame_of_found {s : State} {o : Order} {e : Element} (he : s.elemTopo? o.element = some e) (tag : Nat) :
    handFrame o tag s = { s with field := { s.field with out := s.field.out ++
      [{ station := e.station, slot := e.slot, action := o.action, tag := tag }] } } := by
  rw [handFrame, he]

/-- The first send of an order that stands in the queue (R123). -/
theorem sendOrder_at {s : State} {o : Order} {e : Element} {older newer : List Order}
    (hnd : (s.elements.queue.map (·.number)).Nodup) (hl : s.elements.queue = older ++ o :: newer)
    (he : s.elemTopo? o.element = some e) : sendOrder o s =
      { s with
        elements := { s.elements with
          queue := older ++ { o with
            state := .sent, tag := s.elements.nextTag, sendsLeft := 2, unavailableAt := none
            ackAt := some (s.partTime.toNat + 3) } :: newer
          nextTag := if s.elements.nextTag < 255 then s.elements.nextTag + 1 else 1 }
        field := { s.field with out := s.field.out ++
          [{ station := e.station, slot := e.slot, action := o.action, tag := s.elements.nextTag }] } } := by
  unfold sendOrder
  dsimp only
  rw [handFrame_of_found (e := e), ← (at_number hnd hl fun o => { o with
    state := .sent, tag := s.elements.nextTag, sendsLeft := 2, unavailableAt := none
    ackAt := some (s.partTime.toNat + 3) }).1]
  · rfl
  · exact he

/-- A QUEUED order that its interlock ends, with nothing in hand. -/
theorem finishOrder_at {s : State} {o : Order} {older newer : List Order} (hquiet : Quiet s)
    (hnd : (s.elements.queue.map (·.number)).Nodup) (hl : s.elements.queue = older ++ o :: newer) (hq : o.state = .queued)
    (x : OrderOutcome) : finishOrder o x s = passNotice
      (.order { order := o.number, element := o.element, action := o.action, origin := o.origin
                override := o.override, outcome := x, tag := o.tag, sendsUsed := 0
                enqueuedAt := o.enqueuedAt, endedAt := s.partTime.toNat })
      { s with elements := { s.elements with queue := older ++ newer } } := by
  rw [finishOrder_quiet o x hquiet, orderNotice, sendsUsed_queued hq, ← (at_number hnd hl id).2]
  rfl

/-- Settles O45: the interlocks of a dispatch pass, and the pass order by order. -/
theorem interlocksFailTheOrderInsteadOfSendingIt : Obligations.InterlocksFailTheOrderInsteadOfSendingIt := by
  have pass : ∀ s : State, Quiet s → (s.elements.queue.map (·.number)).Nodup → ∀ (older newer : List Order) (o : Order),
      s.elements.queue = older ++ o :: newer → (∀ y ∈ older, y.state = .queued → ¬eligible s y = true) →
      o.state = .queued → eligible s o = true → ∀ m, interlock s o = some m →
      dispatchTop .plain s = dispatchTop .plain (passNotice
        (.order { order := o.number, element := o.element, action := o.action, origin := o.origin
                  override := o.override, outcome := .failed (.interlock m), tag := o.tag, sendsUsed := 0
                  enqueuedAt := o.enqueuedAt, endedAt := s.partTime.toNat })
        { s with elements := { s.elements with queue := older ++ newer } }) := by
    intro s hquiet hnd older newer o hl hold hq he m hi
    rw [dispatchTop_first .plain hquiet hnd hl hold hq he, takeOrder_barred hi, finishOrder_at hquiet hnd hl hq]
  refine ⟨fun s o st n before rest hquiet hl hq hst hrep hlocal hbar => ?_, fun s hquiet hnd => ?_⟩
  · have he : eligible s o = true := (eligible_iff s o).mpr ⟨by simp [hl, hq], ⟨st, hst, hrep, hlocal⟩, fun y hy hyq => by
      rw [hl, List.mem_singleton] at hy
      exact absurd (hy ▸ hq) hyq⟩
    rw [pass s hquiet (by simp [hl]) [] [] o hl (fun y hy => absurd hy List.not_mem_nil) hq he n (interlock_first hbar),
      dispatchTop, dispatchPass_empty]
    · rfl
    · rw [passNotice_elements]
      rfl
  · intro eligible'
    have eligible_same (o : Order) (hq : o.state = .queued) : eligible s o = true ↔ eligible' o := by
      rw [eligible_iff]
      exact ⟨fun h => ⟨hq, h⟩, fun h => h.2⟩
    refine ⟨fun hnone => dispatchTop_none .plain fun y hy hq he => hnone y hy ((eligible_same y hq).mp he),
      fun older newer o hl hold ho => ⟨fun e he hbar => ?_, fun m before rest hm hsplit hbefore => ?_⟩⟩
    · have first := dispatchTop_first .plain hquiet hnd hl (fun y hy hq he => hold y hy ((eligible_same y hq).mp he)) ho.1
        ((eligible_same o ho.1).mpr ho)
      rw [first, takeOrder_sent (interlock_eq_none_iff.mpr hbar), sendOrder_at hnd hl he]
    · exact pass s hquiet hnd older newer o hl (fun y hy hq he => hold y hy ((eligible_same y hq).mp he)) ho.1
        ((eligible_same o ho.1).mpr ho) m (interlock_of_bars hm hsplit hbefore)

end Sys2Proof.Machine

/-! SUPPORT. Acknowledgements and the timers of an order (O41, O42). -/

namespace Sys2Proof.Machine

/-! ### The end of an order with nothing in hand (R130) -/

theorem sendsUsed_eq (o : Order) : o.sendsUsed = if o.state = .queued then 0 else 3 - o.sendsLeft := by
  by_cases h : o.state = .queued <;> simp [Order.sendsUsed, Order.inFlight, h, Config.sendBudget]

/-- The ORDER notice of an order's end at a part time (R130). -/
def endNotice (o : Order) (x : OrderOutcome) (now : Nat) : NoticeBody :=
  .order { order := o.number, element := o.element, action := o.action, origin := o.origin, override := o.override
           outcome := x, tag := o.tag, sendsUsed := if o.state = .queued then 0 else 3 - o.sendsLeft
           enqueuedAt := o.enqueuedAt, endedAt := now }

theorem orderNotice_eq (o : Order) (x : OrderOutcome) (s : State) :
    orderNotice o x s = passNotice (endNotice o x s.partTime.toNat) s := by
  rw [orderNotice, sendsUsed_eq]
  rfl

/-- An order's end with nothing in hand: it leaves the queue and is told, and a dispatch pass follows where it was in flight. -/
theorem endOrder_quiet {s : State} (c : Ctx) (o : Order) (x : OrderOutcome) (h : Quiet s) :
    endOrder (hooksTop c) o x s =
      if o.state = .queued then passNotice (endNotice o x s.partTime.toNat) (leaveQueue o.number s)
      else dispatchTop c (passNotice (endNotice o x s.partTime.toNat) (leaveQueue o.number s)) := by
  have left : finishOrder o x s = passNotice (endNotice o x s.partTime.toNat) (leaveQueue o.number s) := by
    rw [finishOrder_quiet o x h, orderNotice_eq]
    rfl
  have quiet := left ▸ h.finishOrder o x
  unfold endOrder
  dsimp only
  rw [left]
  generalize passNotice (endNotice o x s.partTime.toNat) (leaveQueue o.number s) = t at quiet
  dsimp only [hooksTop]
  by_cases hq : o.state = .queued
  · rw [if_pos hq, if_neg (by simpa [Order.inFlight] using hq), recordPassTop_quiet c quiet, activateTop_quiet c quiet]
  · rw [if_neg hq, if_pos ((inFlight_iff o).mpr hq), recordPassTop_quiet c (quiet.dispatchTop c),
      activateTop_quiet c (quiet.dispatchTop c)]

/-- The end of the only order with nothing in hand: no order is left to dispatch. -/
theorem endOrder_only {s : State} (c : Ctx) (o : Order) (x : OrderOutcome) (h : Quiet s) (hl : s.elements.queue = [o]) :
    endOrder (hooksTop c) o x s =
      passNotice (endNotice o x s.partTime.toNat) { s with elements := { s.elements with queue := [] } } := by
  rw [endOrder_quiet c o x h, leaveQueue_last hl, dispatchTop, dispatchPass_empty, ite_self]
  rw [passNotice_elements]

/-- A notice passed and a change of another block: the order of the two does not matter. -/
theorem passNotice_aside (b : NoticeBody) (u v : State) (hc : v.control = u.control) (ht : v.partTime = u.partTime) :
    { v with control := (passNotice b u).control } = passNotice b v := by
  rw [passNotice_frame b v, passNotice_congr b v u hc ht]

/-! ### Acknowledgements (O41) -/

theorem exec_orderAck {s : State} (tag a : Nat) (body : Body AckArgs) (hp : s.power = .running) :
    exec (.orderAck tag a body) s = .next (takeAck tag a body (huntField s)) := by
  simp only [exec, execOrderAck, (running_iff s).mpr hp, if_true]

/-- An ORDER_ACK that bears the tag of the order in flight at its station. -/
theorem takeAck_of_flight {s : State} {tag a v reason : Nat} {x : StationTopo} {o : Order} (hx : s.stationTopo? a = some x)
    (ho : s.flightOf? a = some o) (ht : o.tag = tag) (h0 : tag ≠ 0) :
    takeAck tag a (.fits { verdict := v, reason := reason }) s =
      ((Verdict.ofCodes v reason).map fun y => verdictEvent y o s).getD s := by
  unfold takeAck
  dsimp only
  rw [hx, ho]
  cases Verdict.ofCodes v reason with
  | none => rfl
  | some y => exact if_pos ⟨h0, ht⟩

theorem verdictEvent_of_not_sent {v : Verdict} {o : Order} {s : State} (h : o.state ≠ .sent) : verdictEvent v o s = s :=
  if_neg h

theorem acknowledge_at {s : State} {o : Order} {e : Element} (he : s.elemTopo? o.element = some e) : acknowledge o s =
    { s with
      elements := { s.elements with
        queue := s.elements.queue.map fun y => if y.number = o.number then
          { y with state := .moving, ackAt := none, strokeAt := some (s.partTime.toNat + e.stroke) } else y } } := by
  simp only [acknowledge, he, Option.map_some, Option.getD_some]
  rfl

theorem Verdict.ofCodes_none {v r : Nat} (h : v = 0 ∨ 2 < v ∨ (v = 2 ∧ (r = 0 ∨ 3 < r))) : Verdict.ofCodes v r = none := by
  unfold Verdict.ofCodes
  split
  · omega
  · have reason : DeclineReason.ofCode r = none := by
      unfold DeclineReason.ofCode
      split <;> first | omega | rfl
    rw [reason]
    rfl
  · rfl

/-- Settles O41: the order in flight acted on, and the acknowledgements without effect. -/
theorem acknowledgementActsOnTheOrderInFlight : Obligations.AcknowledgementActsOnTheOrderInFlight := by
  refine ⟨fun s tag a reason x o e hp hx ho ht h0 he => ⟨fun hsent => ?_, fun d hsent hl hquiet hd => ?_, fun v hmov => ?_⟩,
    fun s tag a body hp hnone => ?_⟩
  · rw [exec_orderAck _ _ _ hp, takeAck_of_flight (s := huntField s) hx ho ht h0]
    show Host.Outcome.next (verdictEvent .accepted o (huntField s)) = _
    rw [verdictEvent, if_pos hsent]
    exact congrArg Host.Outcome.next (acknowledge_at (s := huntField s) he)
  · have verdict : Verdict.ofCodes 2 reason = some (.declined d) := by
      rcases hd with ⟨rfl, rfl⟩ | ⟨rfl, rfl⟩ | ⟨rfl, rfl⟩ <;> rfl
    have event : inEvent (endOrder (hooksTop .plain) o (.failed (.declined d))) (huntField s) =
        passNotice (endNotice o (.failed (.declined d)) s.partTime.toNat)
          { huntField s with elements := { s.elements with queue := [] } } :=
      inEvent_notices (s := huntField s) (t := { huntField s with elements := { s.elements with queue := [] } })
        (l := [endNotice o (.failed (.declined d)) s.partTime.toNat])
        (fun c => endOrder_only (s := { huntField s with control := c }) .plain o _ (hquiet.congr rfl rfl) hl)
        (List.pairwise_singleton _ _)
    rw [exec_orderAck _ _ _ hp, takeAck_of_flight (s := huntField s) hx ho ht h0, verdict]
    show Host.Outcome.next (verdictEvent (.declined d) o (huntField s)) = _
    rw [verdictEvent, if_pos hsent]
    show Host.Outcome.next (startLine (inEvent (endOrder (hooksTop .plain) o (.failed (.declined d))) (huntField s))) = _
    rw [event, endNotice, hsent]
    rfl
  · have not_sent : o.state ≠ .sent := by rw [hmov]; exact OrderState.noConfusion
    rw [exec_orderAck _ _ _ hp, takeAck_of_flight (s := huntField s) hx ho ht h0]
    cases Verdict.ofCodes v reason with
    | none => rfl
    | some y => exact congrArg Host.Outcome.next (verdictEvent_of_not_sent not_sent)
  · rw [exec_orderAck _ _ _ hp]
    refine congrArg Host.Outcome.next ?_
    unfold takeAck
    split
    · rfl
    · next b =>
      split
      · next x v o hx hv ho =>
        refine if_neg fun ⟨h0, ht⟩ => ?_
        rcases hnone with h | ⟨y, h⟩ | ⟨v', r, h, hcodes⟩ | h
        · exact h0 h
        · cases h
        · cases h
          rw [Verdict.ofCodes_none hcodes] at hv
          cases hv
        · exact h o ho ht
      · rfl

/-! ### Timers (O42) -/

section

variable {s : State} {n m : Nat} {o : Order}

theorem due_iff {now t : Nat} : due now (some t) = true ↔ t ≤ now := by simp [due]

theorem exec_stationUnavailableExpiry (hp : s.power = .running) (ho : s.order? n = some o) (hq : o.state = .queued)
    (ht : o.unavailableAt = some m) (hm : m ≤ s.partTime.toNat) :
    exec (.stationUnavailableExpiry n) s =
      .next (startLine (inEvent (endOrder (hooksTop .plain) o (.failed .stationUnavailable)) s)) := by
  have elapsed : o.state = .queued ∧ due s.now o.unavailableAt = true := ⟨hq, by rw [ht]; exact due_iff.mpr hm⟩
  simp only [exec, execStationUnavailableExpiry, (running_iff s).mpr hp, if_true, unavailableExpiry, ho, if_pos elapsed, ownEvent]

theorem exec_acknowledgementExpiry (hp : s.power = .running) (ho : s.order? n = some o) (hq : o.state = .sent)
    (ht : o.ackAt = some m) (hm : m ≤ s.partTime.toNat) :
    exec (.acknowledgementExpiry n) s = .next (ackExpired o s) := by
  have elapsed : o.state = .sent ∧ due s.now o.ackAt = true := ⟨hq, by rw [ht]; exact due_iff.mpr hm⟩
  simp only [exec, execAcknowledgementExpiry, (running_iff s).mpr hp, if_true, ackExpiry, ho, if_pos elapsed]

theorem exec_strokeExpiry (hp : s.power = .running) (ho : s.order? n = some o) (hq : o.state = .moving)
    (ht : o.strokeAt = some m) (hm : m ≤ s.partTime.toNat) :
    exec (.strokeExpiry n) s = .next (startLine (inEvent
      (fun s => endOrder (hooksTop .plain) o (.failed .strokeTimeout) (strokeMark o.element s)) s)) := by
  have elapsed : o.state = .moving ∧ due s.now o.strokeAt = true := ⟨hq, by rw [ht]; exact due_iff.mpr hm⟩
  simp only [exec, execStrokeExpiry, (running_iff s).mpr hp, if_true, strokeExpiry, ho, if_pos elapsed, ownEvent]

/-- The only order ended as one event with nothing in hand. -/
theorem inEvent_endOrder_only (x : OrderOutcome) (hquiet : Quiet s) (hl : s.elements.queue = [o]) :
    inEvent (endOrder (hooksTop .plain) o x) s =
      passNotice (endNotice o x s.partTime.toNat) { s with elements := { s.elements with queue := [] } } :=
  inEvent_notices (t := { s with elements := { s.elements with queue := [] } }) (l := [endNotice o x s.partTime.toNat])
    (fun c => endOrder_only (s := { s with control := c }) .plain o x (hquiet.congr rfl rfl) hl) (List.pairwise_singleton _ _)

theorem strokeMark_marked {e : Nat} {r : ElementRec} (hr : s.element? e = some r) (h : r.faultMark = true) :
    strokeMark e s = s := by
  simp [strokeMark, hr, h]

theorem strokeMark_clear {e : Nat} {r : ElementRec} (hr : s.element? e = some r) (h : r.faultMark = false) :
    strokeMark e s = passNotice
      (.element { element := e, oldState := r.state, state := r.state, direction := r.direction
                  source := r.source, unconfirmed := r.unconfirmed, faultMark := true, changedAt := r.changedAt
                  cause := .stroke, passChanged := false, origin := none, basis := s.net.basis + 1 })
      { s with
        net := { s.net with basis := s.net.basis + 1 }
        elements := { s.elements with
          table := s.elements.table.map fun y => if y.number = e then { r with faultMark := true } else y } } := by
  obtain rfl := State.element?_number hr
  simp only [strokeMark, hr, h, Bool.false_eq_true, if_false, elementNotice]
  simp [passNotices]
  rfl

end

/-- Settles O42: the three timers of an order. -/
theorem orderTimersResendOrFail : Obligations.OrderTimersResendOrFail := by
  intro s n m o hp ho hm ended
  obtain rfl := (State.order?_mem ho).2
  have told (reason : FailReason) : endNotice o (.failed reason) s.partTime.toNat = ended reason := rfl
  refine ⟨fun hq ht hquiet => ?_, fun e hq ht hleft hi he => ?_, fun k before rest hq ht hleft hl hquiet hbar => ?_,
    fun hq ht hleft hl hquiet => ?_, fun r hq ht hl hquiet hr hmark => ?_, fun r hq ht hl hquiet hr hmark => ?_⟩
  · rw [exec_stationUnavailableExpiry hp ho hq ht hm]
    refine congrArg (fun u => Host.Outcome.next (startLine u)) ?_
    refine inEvent_notices (t := leaveQueue o.number s) (l := [ended .stationUnavailable]) (fun c => ?_)
      (List.pairwise_singleton _ _)
    have ended_here := endOrder_quiet (s := { s with control := c }) .plain o (.failed .stationUnavailable)
      (hquiet.congr rfl rfl)
    rw [ended_here, if_pos hq]
    rfl
  · rw [exec_acknowledgementExpiry hp ho hq ht hm, ackExpired, if_neg (by omega), hi]
    refine congrArg Host.Outcome.next ?_
    unfold resendOrder
    rw [handFrame_of_found (e := e)]
    · rfl
    · exact he
  · rw [exec_acknowledgementExpiry hp ho hq ht hm, ackExpired, if_neg (by omega), interlock_first hbar]
    show Host.Outcome.next (startLine (inEvent _ s)) = _
    rw [inEvent_endOrder_only _ hquiet hl]
    rfl
  · rw [exec_acknowledgementExpiry hp ho hq ht hm, ackExpired, if_pos hleft]
    show Host.Outcome.next (startLine (inEvent _ s)) = _
    rw [inEvent_endOrder_only _ hquiet hl]
    rfl
  · rw [exec_strokeExpiry hp ho hq ht hm]
    refine congrArg (fun u => Host.Outcome.next (startLine u)) ?_
    refine inEvent_notices (t := { s with elements := { s.elements with queue := [] } })
      (l := [ended .strokeTimeout]) (fun c => ?_) (List.pairwise_singleton _ _)
    rw [strokeMark_marked (s := { s with control := c }) hr hmark,
      endOrder_only (s := { s with control := c }) .plain o _ (hquiet.congr rfl rfl) hl]
    rfl
  · rw [exec_strokeExpiry hp ho hq ht hm]
    refine congrArg (fun u => Host.Outcome.next (startLine u)) ?_
    refine inEvent_notices (t := { s with
        net := { s.net with basis := s.net.basis + 1 }
        elements := { s.elements with
          queue := []
          table := s.elements.table.map fun y => if y.number = o.element then { r with faultMark := true } else y } })
      (l := [.element { element := o.element, oldState := r.state, state := r.state, direction := r.direction
                        source := r.source, unconfirmed := r.unconfirmed, faultMark := true, changedAt := r.changedAt
                        cause := .stroke, passChanged := false, origin := none, basis := s.net.basis + 1 },
            ended .strokeTimeout]) (fun c => ?_) (pairwise_pair id)
    dsimp only
    rw [strokeMark_clear (s := { s with control := c }) hr hmark, endOrder_only .plain o _ ?_ ?_, passNotices_cons, passNotice_partTime]
    · refine congrArg (passNotice (ended .strokeTimeout)) ?_
      rw [passNotice_frame]
      refine passNotice_aside _ _ { s with
        control := c
        net := { s.net with basis := s.net.basis + 1 }
        elements := { s.elements with
          queue := []
          table := s.elements.table.map fun y => if y.number = o.element then { r with faultMark := true } else y } } rfl rfl
    · exact hquiet.congr (by rw [passNotice_register]) (by rw [passNotice_net])
    · rw [passNotice_elements]
      exact hl

end Sys2Proof.Machine

/-! SUPPORT. The placement of an order, and the end of one already at its target or cancelled (O39, O40). -/

namespace Sys2Proof.Machine

/-! ### Outcomes handed to the register (R158) -/

theorem State.record?_some {s : State} {k : Nat} {r : IsoRecord} (h : s.record? k = some r) :
    s.register.records[k]? = some (some r) := by
  unfold State.record? at h
  cases hk : s.register.records[k]? with
  | none => rw [hk] at h; cases h
  | some x => rw [hk] at h; exact congrArg some h

theorem updRecord_at {s : State} {k : Nat} {r : IsoRecord} (h : s.record? k = some r) (g : IsoRecord → IsoRecord) :
    s.updRecord k g = { s with register := { records := s.register.records.set k (some (g r)) } } := by
  have modified : s.register.records.modify k (Option.map g) = s.register.records.set k (some (g r)) := by
    rw [List.modify_eq_set_getElem?, State.record?_some h]
    rfl
  rw [State.updRecord, modified]

theorem handOutcome_host {o : Order} (h : o.origin = .host) (x : OrderOutcome) (s : State) : handOutcome o x s = s := by
  rw [handOutcome, h]
  rfl

theorem stepAfter_iff (step : EntryStep) (action : Action) (x : OrderOutcome) : stepAfter step action x =
    if step = .toClose ∧ action = .close then some (if x = .done ∨ x = .already then .closed else .closeFailed)
    else if step = .opening ∧ action = .opening then some (if x = .done ∨ x = .already then .reopened else .openFailed)
    else none := by
  cases step <;> cases action <;> first | rfl | (cases x <;> rfl)

/-- What an outcome writes to the entry of its element (R158). -/
theorem handOutcome_of_record {s : State} {o : Order} {i k : Nat} {r : IsoRecord} (x : OrderOutcome)
    (ho : o.origin.incident = some i) (hk : s.recordOf i = some k) (hr : s.record? k = some r) :
    handOutcome o x s = { s with register := { records := s.register.records.set k (some
      { r with entries := r.entries.map fun e =>
          if e.element = o.element ∧ e.step = .toClose ∧ o.action = .close then
            { e with step := if x = .done ∨ x = .already then .closed else .closeFailed, last := some (.order x)
                     stepTime := s.partTime.toNat }
          else if e.element = o.element ∧ e.step = .opening ∧ o.action = .opening then
            { e with step := if x = .done ∨ x = .already then .reopened else .openFailed, last := some (.order x)
                     stepTime := s.partTime.toNat }
          else e }) } } := by
  have found : o.origin.incident.bind s.recordOf = some k := by rw [ho, Option.bind_some, hk]
  rw [handOutcome, found]
  dsimp only
  rw [updRecord_at hr]
  have entries : (r.updEntry o.element fun e => match stepAfter e.step o.action x with
      | some y => { e with step := y, last := some (.order x), stepTime := s.now }
      | none => e).entries = r.entries.map fun e =>
        if e.element = o.element ∧ e.step = .toClose ∧ o.action = .close then
          { e with step := if x = .done ∨ x = .already then .closed else .closeFailed, last := some (.order x)
                   stepTime := s.partTime.toNat }
        else if e.element = o.element ∧ e.step = .opening ∧ o.action = .opening then
          { e with step := if x = .done ∨ x = .already then .reopened else .openFailed, last := some (.order x)
                   stepTime := s.partTime.toNat }
        else e := by
    refine List.map_congr_left fun e _ => ?_
    by_cases he : e.element = o.element
    · rw [if_pos he]
      dsimp only
      rw [stepAfter_iff]
      by_cases hc : e.step = .toClose ∧ o.action = .close
      · simp [he, hc, State.now]
      · by_cases hc' : e.step = .opening ∧ o.action = .opening
        · simp [he, hc', State.now]
        · simp [he, hc, hc']
    · rw [if_neg he, if_neg fun h => he h.1, if_neg fun h => he h.1]
  exact congrArg (fun l => { s with register := { records := s.register.records.set k (some { r with entries := l }) } }) entries

/-- What an outcome hands on depends on the register and the part time alone. -/
theorem handOutcome_congr (o : Order) (x : OrderOutcome) {s t : State} (hr : t.register = s.register)
    (ht : t.partTime = s.partTime) : (handOutcome o x t).register = (handOutcome o x s).register := by
  have records : t.recordOf = s.recordOf := by
    funext i
    simp only [State.recordOf, State.record?, hr]
  unfold handOutcome
  rw [records]
  split
  · exact hr
  · simp only [State.updRecord, State.now, hr, ht]

/-! ### Placement (R116 to R118) -/

/-- The search for a number ends at the first that no member holds. -/
theorem freeNumber_first {top : Nat} {held : List Nat} {fuel : Nat} : ∀ {steps n : Nat}, steps ≤ fuel →
    (∀ j, j < steps → (after top)^[j] n ∈ held) → (after top)^[steps] n ∉ held →
    freeNumber top held fuel n = (after top)^[steps] n := by
  induction fuel with
  | zero =>
    intro steps n hs _ _
    obtain rfl : steps = 0 := by omega
    rfl
  | succ fuel ih =>
    intro steps n hs hheld hfree
    cases steps with
    | zero => exact freeNumber_of_free top held fuel n hfree
    | succ steps =>
      have here : n ∈ held := hheld 0 (by omega)
      rw [freeNumber, if_pos here, Function.iterate_succ_apply]
      exact ih (by omega) (fun j hj => by simpa using hheld (j + 1) (by omega)) (by simpa using hfree)

theorem orderNumber_first {s : State} {steps : Nat} (hs : steps ≤ 32)
    (hheld : ∀ j, j < steps → ∃ y ∈ s.elements.queue, y.number = (after 65535)^[j] s.elements.nextOrder)
    (hfree : ∀ y ∈ s.elements.queue, y.number ≠ (after 65535)^[steps] s.elements.nextOrder) :
    orderNumber s = (after 65535)^[steps] s.elements.nextOrder := by
  refine freeNumber_first (by simp [Config.queueLimit]; omega) (fun j hj => ?_) fun hm => ?_
  · obtain ⟨y, hy, he⟩ := hheld j hj
    exact he ▸ List.mem_map_of_mem hy
  · obtain ⟨y, hy, he⟩ := List.mem_map.mp hm
    exact hfree y hy he

section

variable {s : State} {n : Nat} {x : Action} {e : Element} {r : ElementRec}

/-- The tests of R117 for an element of the active image, from NOT_REMOTE on. -/
theorem placeTest_at (he : s.elemTopo? n = some e) (hr : s.element? n = some r) :
    (e.cls ≠ .remote → placeTest n x s = some .notRemote) ∧
    (e.cls = .remote →
      (∀ old, s.orderOf? n = some old → placeTest n x s =
        if old.action = x then some .duplicate else if old.state = .queued then none else some .inFlight) ∧
      (s.orderOf? n = none → placeTest n x s =
        if r.state = x.target ∨ s.elements.queue.length < 32 then none else some .full)) := by
  unfold placeTest
  rw [he, hr]
  refine ⟨fun h => if_pos h, fun h => ⟨fun old ho => ?_, fun ho => ?_⟩⟩
  · simp only [h, ne_eq, not_true_eq_false, if_false, ho]
    by_cases hq : old.state = .queued <;> simp [Order.inFlight, hq]
  · simp only [h, ne_eq, not_true_eq_false, if_false, ho]
    rfl

theorem replacedOrder_none (h : s.orderOf? n = none) : replacedOrder n x s = none := by simp [replacedOrder, h]

theorem replacedOrder_some {old : Order} (h : s.orderOf? n = some old) (ha : old.action ≠ x) (hq : old.state = .queued) :
    replacedOrder n x s = some old := by
  simp [replacedOrder, h, ha, Order.inFlight, hq]

theorem afterReplacement_none (h : s.orderOf? n = none) : afterReplacement n x s = s := by
  rw [afterReplacement, replacedOrder_none h]

theorem afterReplacement_some {old : Order} (h : s.orderOf? n = some old) (ha : old.action ≠ x) (hq : old.state = .queued) :
    afterReplacement n x s = finishOrder old .cancelled s := by
  rw [afterReplacement, replacedOrder_some h ha hq]

/-- The order that an ORDER request makes (R118). -/
def hostOrder (number element : Nat) (action : Action) (override : Bool) (now : Nat) : Order :=
  { number := number, element := element, action := action, origin := .host, override := override, state := .queued
    sendsLeft := 3, tag := 0, enqueuedAt := now, unavailableAt := none, ackAt := none, strokeAt := none }

/-- A station's orders are available for it, by the station of the element in the active image. -/
def Available (s : State) (station : Nat) : Prop :=
  ∃ st, s.station? station = some st ∧ st.state = .reporting ∧ st.localFlag = false

/-- An order joined to the queue behind the others, with its timer (R118, R124). -/
def joined (s : State) (o : Order) (timer : Option Nat) (next : Nat) : State :=
  { s with elements := { s.elements with
      queue := s.elements.queue ++ [{ o with unavailableAt := timer }], nextOrder := next } }

theorem joinQueue_at {o : Order} {timer : Option Nat} (he : s.elemTopo? o.element = some e)
    (h1 : Available s e.station → timer = none)
    (h2 : ¬Available s e.station → timer = some (s.partTime.toNat + 120)) (next : Nat) :
    joinQueue o { s with elements := { s.elements with nextOrder := next } } = joined s o timer next := by
  have station : State.stationOf { s with elements := { s.elements with nextOrder := next } } o = e.station := by
    show ((s.elemTopo? o.element).map (·.station)).getD 0 = _
    rw [he]
    rfl
  have timed : (if State.unavailable { s with elements := { s.elements with nextOrder := next } } e.station then
      some (s.partTime.toNat + 120) else none) = timer := by
    by_cases ha : Available s e.station
    · have : s.unavailable e.station = false := (unavailable_eq_false s e.station).mpr ha
      rw [h1 ha]
      exact if_neg ((Bool.not_eq_true _).mpr this)
    · have : s.unavailable e.station = true := by
        rw [← Bool.not_eq_false, unavailable_eq_false]
        exact ha
      rw [h2 ha]
      exact if_pos this
  unfold joinQueue
  dsimp only
  rw [station, ← timed]
  rfl

/-- A placement of an order of the host away from its target: it joins the queue and a dispatch pass follows (R118). -/
theorem place_joins {s' : State} {timer : Option Nat} {number : Nat} {override : Bool} {h : Hooks}
    (hs' : afterReplacement n x s = s') (hnum : orderNumber s' = number) (he : s'.elemTopo? n = some e)
    (hr : s'.element? n = some r) (hx : r.state ≠ x.target)
    (h1 : Available s' e.station → timer = none)
    (h2 : ¬Available s' e.station → timer = some (s'.partTime.toNat + 120)) :
    place h (fun _ s => s) n x .host override s =
      h.dispatch (joined s' (hostOrder number n x override s'.partTime.toNat) timer (after 65535 number)) := by
  unfold place
  dsimp only
  rw [placeNumber, hs', hnum, if_neg]
  · exact congrArg h.dispatch (joinQueue_at (o := hostOrder number n x override s'.partTime.toNat) he h1 h2 _)
  · show ¬((s'.element? n).any fun r => decide (r.state = x.target)) = true
    rw [hr]
    simpa using hx

/-- The counter of order numbers set (R116). -/
def withNext (s : State) (next : Nat) : State := { s with elements := { s.elements with nextOrder := next } }

/-- A placement of an order of the host at its target: it ends ALREADY without joining the queue (R118). -/
theorem place_already {s' : State} {number : Nat} {override : Bool} {h : Hooks}
    (hs' : afterReplacement n x s = s') (hnum : orderNumber s' = number) (hr : s'.element? n = some r)
    (hx : r.state = x.target) :
    place h (fun _ s => s) n x .host override s =
      let t := passNotice (endNotice (hostOrder number n x override s'.partTime.toNat) .already s'.partTime.toNat)
        (withNext s' (after 65535 number))
      if (replacedOrder n x s).isSome then h.activate (h.pass t) else t := by
  have at_target : (State.element? { s' with elements := { s'.elements with nextOrder := after 65535 number } } n).any
      (fun r => decide (r.state = x.target)) = true := by
    show (s'.element? n).any _ = true
    rw [hr]
    simpa using hx
  unfold place
  dsimp only
  rw [placeNumber, hs', hnum, if_pos at_target, handOutcome_host rfl, orderNotice_eq]
  rfl

end

/-- A replaced order's end, with a further change of the queue and of the next number behind it. -/
theorem finishOrder_aside {s : State} {old : Order} {queue : List Order} {next : Nat} :
    { finishOrder old .cancelled s with elements := { s.elements with queue := queue, nextOrder := next } } =
      handOutcome old .cancelled (passNotice (endNotice old .cancelled s.partTime.toNat)
        { s with elements := { s.elements with queue := queue, nextOrder := next } }) := by
  have told : finishOrder old .cancelled s = handOutcome old .cancelled
      (passNotice (endNotice old .cancelled s.partTime.toNat) (leaveQueue old.number s)) := by
    rw [finishOrder, orderNotice_eq]
    rfl
  have register : (handOutcome old .cancelled (passNotice (endNotice old .cancelled s.partTime.toNat)
      { s with elements := { s.elements with queue := queue, nextOrder := next } })).register =
      (handOutcome old .cancelled
        (passNotice (endNotice old .cancelled s.partTime.toNat) (leaveQueue old.number s))).register :=
    handOutcome_congr old .cancelled (by rw [passNotice_register, passNotice_register]; rfl)
      (by rw [passNotice_partTime, passNotice_partTime]; rfl)
  rw [told, handOutcome_frame old .cancelled (passNotice _ { s with
      elements := { s.elements with queue := queue, nextOrder := next } }), register, handOutcome_frame,
    passNotice_frame _ (leaveQueue old.number s),
    ← passNotice_aside _ (leaveQueue old.number s) { s with
      elements := { s.elements with queue := queue, nextOrder := next } } rfl rfl]
  rfl

theorem withNext_finishOrder {s : State} {old : Order} {next : Nat} : withNext (finishOrder old .cancelled s) next =
    handOutcome old .cancelled (passNotice (endNotice old .cancelled s.partTime.toNat)
      { s with elements := { s.elements with queue := (leaveQueue old.number s).elements.queue, nextOrder := next } }) := by
  rw [withNext, finishOrder_elements]
  exact finishOrder_aside

/-! ### O39 -/

/-- An only order that is eligible and passes its interlock is sent by the pass, whatever is in hand. -/
theorem dispatchPass_single {s : State} {o : Order} (depart : State → State) (hl : s.elements.queue = [o])
    (hq : o.state = .queued) (he : eligible s o = true) (hi : interlock s o = none) :
    dispatchPass depart s = sendOrder o s := by
  have head : (unseen [] s).head? = some o := by simp [unseen, hl, hq]
  have done (fuel : Nat) : dispatchLoop depart fuel [o.number] (sendOrder o s) = sendOrder o s := by
    refine dispatchLoop_done _ _ _ _ fun y hy hyq => ?_
    rw [sendOrder_queue, hl, List.map_singleton, if_pos rfl, List.mem_singleton] at hy
    rw [hy] at hyq
    cases hyq
  rw [dispatchPass, dispatchLoop_step, head]
  dsimp only
  rw [if_pos he, hi]
  exact done _

/-- The first order of an empty queue, at an available station and past its interlock, is sent at once (R120, R123). -/
theorem dispatchPass_first {s : State} {o : Order} {e : Element} {next : Nat} (depart : State → State)
    (hl : s.elements.queue = []) (hq : o.state = .queued) (he : s.elemTopo? o.element = some e)
    (hav : Available s e.station) (hi : ∀ m, ¬Bars s o m) :
    dispatchPass depart (joined s o none next) =
      { s with
        elements := { s.elements with
          queue := [{ o with
            state := .sent, tag := s.elements.nextTag, sendsLeft := 2, unavailableAt := none
            ackAt := some (s.partTime.toNat + 3) }]
          nextOrder := next
          nextTag := after 255 s.elements.nextTag }
        field := { s.field with out := s.field.out ++
          [{ station := e.station, slot := e.slot, action := o.action, tag := s.elements.nextTag }] } } := by
  have alone : (joined s o none next).elements.queue = [{ o with unavailableAt := none }] := by
    show s.elements.queue ++ _ = _
    rw [hl]
    rfl
  have here : State.stationOf (joined s o none next) { o with unavailableAt := none } = e.station := by
    show ((s.elemTopo? o.element).map (·.station)).getD 0 = _
    rw [he]
    rfl
  have ready : eligible (joined s o none next) { o with unavailableAt := none } = true := by
    refine (eligible_iff _ _).mpr ⟨?_, by rw [here]; exact hav, fun y hy hyq => ?_⟩
    · have waiting : ([{ o with unavailableAt := none }] : List Order).filter (fun y => y.state ≠ .queued) = [] := by
        simp [hq]
      rw [alone, waiting]
      exact Nat.zero_lt_succ 3
    · rw [alone, List.mem_singleton] at hy
      rw [hy] at hyq
      exact absurd hq hyq
  have passes : interlock (joined s o none next) { o with unavailableAt := none } = none :=
    interlock_eq_none_iff.mpr fun m hm => hi m hm
  rw [dispatchPass_single depart alone hq ready passes,
    sendOrder_at (older := []) (newer := []) (e := e) (by rw [alone]; simp) alone he]
  rfl

section

variable {s : State} {a : OrderArgs} {img : Image} {e : Element} {r : ElementRec} {x : Action} {tag : Nat}

theorem serveOrder_at (d : ControlPort) (hi : s.net.active = some img) (he : img.element? a.element = some e)
    (hr : s.element? a.element = some r) : serveOrder a { s with control := d } =
      match Action.ofCode a.action with
      | none => refuse .range { s with control := d }
      | some x =>
        match placeTest a.element x { s with control := d } with
        | some c => refuse c { s with control := d }
        | none =>
          (place (hooksTop .plain) (fun _ s => s) a.element x .host a.override { s with control := d },
            .accepted (.placed (placeNumber a.element x { s with control := d }))) := by
  rw [serveOrder, withElement_at d _ hi he hr] <;> rfl

theorem exec_order_refused {c : Code} (ha : Admits s tag) (hi : s.net.active = some img)
    (he : img.element? a.element = some e) (hr : s.element? a.element = some r) (hx : Action.ofCode a.action = some x)
    (hc : placeTest a.element x s = some c) :
    exec (.order tag (.fits a)) s = .next (answered 0x30 tag (.refused (.plain c)) (huntControl s)) := by
  refine (Asks.order tag a).exec_same ha fun d => ?_
  have refused : placeTest a.element x { s with control := d } = some c := hc
  rw [serveOrder_at d hi he hr, hx]
  dsimp only
  rw [refused]
  rfl

/-- An ORDER that passes its tests: the event is its placement. -/
theorem exec_order_placed {t : State} {g : State → State} {number : Nat} (ha : Admits s tag) (hi : s.net.active = some img)
    (he : img.element? a.element = some e) (hr : s.element? a.element = some r) (hx : Action.ofCode a.action = some x)
    (hc : placeTest a.element x s = none) (hn : ∀ d, placeNumber a.element x { s with control := d } = number)
    (hg : ∀ d, place (hooksTop .plain) (fun _ s => s) a.element x .host a.override { s with control := d } =
      g { t with control := d }) :
    exec (.order tag (.fits a)) s = .next (answered 0x30 tag (.accepted (.placed number))
      (inEvent g { t with control := (huntControl s).control })) := by
  refine (Asks.order tag a).exec_event ha fun d => ?_
  have passed : placeTest a.element x { s with control := d } = none := hc
  rw [serveOrder_at d hi he hr, hx]
  dsimp only
  rw [passed, hg d, hn d]

theorem orderNumber_finishOrder (old : Order) (y : OrderOutcome) (d : ControlPort) :
    orderNumber (finishOrder old y { s with control := d }) = orderNumber (leaveQueue old.number s) := by
  rw [orderNumber, finishOrder_elements]
  rfl

theorem action_ofCode {c : Nat} (h : (c = 1 ∧ x = .close) ∨ (c = 2 ∧ x = .opening)) : Action.ofCode c = some x := by
  rcases h with ⟨rfl, rfl⟩ | ⟨rfl, rfl⟩ <;> rfl

theorem action_ofCode_none {c : Nat} (h1 : c ≠ 1) (h2 : c ≠ 2) : Action.ofCode c = none := by
  unfold Action.ofCode
  split <;> first | omega | rfl

theorem endNotice_queued {o : Order} (h : o.state = .queued) (y : OrderOutcome) (now : Nat) : endNotice o y now =
    .order { order := o.number, element := o.element, action := o.action, origin := o.origin, override := o.override,
             outcome := y, tag := o.tag, sendsUsed := 0, enqueuedAt := o.enqueuedAt, endedAt := now } := by
  rw [endNotice, if_pos h]

theorem inEvent_nothing (u : State) : inEvent id u = u := inEvent_id rfl rfl

/-- A new order joins behind the others, and a dispatch pass follows (R118, R120). -/
theorem exec_order_joins {steps : Nat} {timer : Option Nat} (ha : Admits s tag) (hi : s.net.active = some img)
    (he : img.element? a.element = some e) (hr : s.element? a.element = some r) (hx : Action.ofCode a.action = some x)
    (hcls : e.cls = .remote) (ho : s.orderOf? a.element = none) (ht : r.state ≠ x.target)
    (hroom : s.elements.queue.length < 32) (hs : steps ≤ 32)
    (h1 : Available s e.station → timer = none) (h2 : ¬Available s e.station → timer = some (s.partTime.toNat + 120))
    (hheld : ∀ j, j < steps → ∃ y ∈ s.elements.queue, y.number = (after 65535)^[j] s.elements.nextOrder)
    (hfree : ∀ y ∈ s.elements.queue, y.number ≠ (after 65535)^[steps] s.elements.nextOrder)
    {number : Nat} (hnum : number = (after 65535)^[steps] s.elements.nextOrder) {t : State} {g : State → State}
    (hg : ∀ d, dispatchTop .plain (joined { s with control := d }
      (hostOrder number a.element x a.override s.partTime.toNat) timer (after 65535 number)) = g { t with control := d }) :
    exec (.order tag (.fits a)) s = .next (answered 0x30 tag (.accepted (.placed number))
      (inEvent g { t with control := (huntControl s).control })) := by
  have topo : s.elemTopo? a.element = some e := by rw [State.elemTopo?, hi, Option.bind_some, he]
  have passed : placeTest a.element x s = none := by
    rw [((placeTest_at topo hr).2 hcls).2 ho, if_pos (.inr hroom)]
  have found : orderNumber s = number := by rw [hnum]; exact orderNumber_first hs hheld hfree
  refine exec_order_placed ha hi he hr hx passed (fun d => ?_) fun d => ?_
  · rw [placeNumber, afterReplacement_none]
    · exact found
    · exact ho
  · rw [← hg d]
    exact place_joins (s := { s with control := d }) (s' := { s with control := d }) (afterReplacement_none ho) found topo hr
      ht h1 h2

/-- A new order in the place of a QUEUED one of the opposite action (R118). -/
theorem exec_order_replaces {old : Order} {steps : Nat} {timer : Option Nat} (ha : Admits s tag)
    (hi : s.net.active = some img) (he : img.element? a.element = some e) (hr : s.element? a.element = some r)
    (hx : Action.ofCode a.action = some x) (hcls : e.cls = .remote) (ho : s.orderOf? a.element = some old)
    (hact : old.action ≠ x) (hq : old.state = .queued) (ht : r.state ≠ x.target) (hs : steps ≤ 32)
    (h1 : Available s e.station → timer = none) (h2 : ¬Available s e.station → timer = some (s.partTime.toNat + 120))
    (hheld : ∀ j, j < steps → ∃ y ∈ (leaveQueue old.number s).elements.queue,
      y.number = (after 65535)^[j] s.elements.nextOrder)
    (hfree : ∀ y ∈ (leaveQueue old.number s).elements.queue, y.number ≠ (after 65535)^[steps] s.elements.nextOrder)
    {number : Nat} (hnum : number = (after 65535)^[steps] s.elements.nextOrder) :
    exec (.order tag (.fits a)) s = .next (answered 0x30 tag (.accepted (.placed number)) (inEvent
      (fun v => dispatchTop .plain (handOutcome old .cancelled (passNotice (endNotice old .cancelled s.partTime.toNat) v)))
      { huntControl s with elements := { s.elements with
          queue := (leaveQueue old.number s).elements.queue ++
            [{ hostOrder number a.element x a.override s.partTime.toNat with unavailableAt := timer }]
          nextOrder := after 65535 number } })) := by
  have topo : s.elemTopo? a.element = some e := by rw [State.elemTopo?, hi, Option.bind_some, he]
  have passed : placeTest a.element x s = none := by
    rw [((placeTest_at topo hr).2 hcls).1 old ho, if_neg hact, if_pos hq]
  have found : orderNumber (leaveQueue old.number s) = number := by
    rw [hnum]
    exact orderNumber_first (s := leaveQueue old.number s) hs hheld hfree
  refine exec_order_placed (t := { s with elements := { s.elements with
      queue := (leaveQueue old.number s).elements.queue ++
        [{ hostOrder number a.element x a.override s.partTime.toNat with unavailableAt := timer }]
      nextOrder := after 65535 number } }) ha hi he hr hx passed (fun d => ?_) fun d => ?_
  · rw [placeNumber, afterReplacement_some (s := { s with control := d }) ho hact hq, orderNumber_finishOrder, found]
  · have left := finishOrder_frame old .cancelled { s with control := d }
    have partTime : (finishOrder old .cancelled { s with control := d }).partTime = s.partTime := by rw [left]
    have stations (n : Nat) : (finishOrder old .cancelled { s with control := d }).station? n = s.station? n := by
      rw [State.station?, left]
      rfl
    have available : Available (finishOrder old .cancelled { s with control := d }) e.station ↔ Available s e.station := by
      simp only [Available, stations]
    have placed := place_joins (s := { s with control := d }) (e := e) (r := r) (timer := timer) (override := a.override)
      (h := hooksTop .plain)
      (afterReplacement_some ho hact hq) ((orderNumber_finishOrder old .cancelled d).trans found)
      (by rw [State.elemTopo?, left]; exact topo) (by rw [State.element?, finishOrder_elements]; exact hr) ht
      (fun h => h1 (available.mp h)) (fun h => by rw [partTime]; exact h2 fun h' => h (available.mpr h'))
    rw [placed, partTime, joined, finishOrder_elements]
    exact congrArg (dispatchTop .plain) (finishOrder_aside (s := { s with control := d }))

end

/-- Settles O39: the refusals, the order that joins, the order that replaces, and the first order of an empty queue. -/
theorem orderIsSentOrWaitsForItsStation : Obligations.OrderIsSentOrWaitsForItsStation := by
  intro s tag a img e r ha hi he hr refused
  have topo : s.elemTopo? a.element = some e := by rw [State.elemTopo?, hi, Option.bind_some, he]
  refine ⟨fun h1 h2 => ?_, fun x hx => ?_⟩
  · refine (Asks.order tag a).exec_same ha fun d => ?_
    rw [serveOrder_at d hi he hr, action_ofCode_none h1 h2]
    rfl
  intro target now numberAfter made available accepted
  have hx' := action_ofCode hx
  have target_eq : target = x.target := by cases x <;> rfl
  have tests := placeTest_at (x := x) topo hr
  refine ⟨fun hcls => exec_order_refused ha hi he hr hx' (tests.1 hcls), fun hcls => ⟨fun old ho hact => ?_,
    fun old ho hact hq => ?_, fun ho ht hfull => ?_, fun steps timer ho ht hroom hs h1 h2 => ?_,
    fun old steps timer ho hact hq ht hs h1 h2 => ?_, fun hl ht => ?_⟩⟩
  · exact exec_order_refused ha hi he hr hx' (by rw [(tests.2 hcls).1 old ho, if_pos hact])
  · exact exec_order_refused ha hi he hr hx' (by rw [(tests.2 hcls).1 old ho, if_neg hact, if_neg hq])
  · exact exec_order_refused ha hi he hr hx' (by
      rw [(tests.2 hcls).2 ho, if_neg (not_or.mpr ⟨target_eq ▸ ht, by omega⟩)])
  · intro n hheld hfree
    exact exec_order_joins (t := joined s (hostOrder n a.element x a.override now) timer (after 65535 n)) ha hi he hr hx'
      hcls ho (target_eq ▸ ht) hroom hs h1 h2 hheld hfree rfl fun _ => rfl
  · intro left n hheld hfree
    have replaced := exec_order_replaces ha hi he hr hx' hcls ho hact hq (target_eq ▸ ht) hs h1 h2 hheld hfree
      (number := n) rfl
    rw [endNotice_queued hq] at replaced
    exact replaced
  · intro n
    have none_held : s.orderOf? a.element = none := by simp [State.orderOf?, hl]
    have alone (d : ControlPort) (timer : Option Nat) :
        (joined { s with control := d } (hostOrder n a.element x a.override now) timer (after 65535 n)).elements.queue =
          [{ hostOrder n a.element x a.override now with unavailableAt := timer }] := by
      show s.elements.queue ++ _ = _
      rw [hl]
      rfl
    have here (d : ControlPort) (timer : Option Nat) :
        State.stationOf (joined { s with control := d } (hostOrder n a.element x a.override now) timer (after 65535 n))
          { hostOrder n a.element x a.override now with unavailableAt := timer } = e.station := by
      show ((s.elemTopo? a.element).map (·.station)).getD 0 = _
      rw [topo]
      rfl
    refine ⟨fun hav hclose hopen => ?_, fun hav => ?_⟩
    · have sent := exec_order_joins (steps := 0) (timer := none) (number := n) (g := id)
        (t := { s with
          elements := { s.elements with
            queue := [{ made n with
              state := .sent, sendsLeft := 2, tag := s.elements.nextTag, ackAt := some (now + 3) }]
            nextOrder := numberAfter n
            nextTag := if s.elements.nextTag < 255 then s.elements.nextTag + 1 else 1 }
          field := { s.field with out := s.field.out ++
            [{ station := e.station, slot := e.slot, action := x, tag := s.elements.nextTag }] } })
        ha hi he hr hx' hcls none_held (target_eq ▸ ht) (by rw [hl]; simp) (by omega)
        (fun _ => rfl) (fun h => absurd hav h) (fun j hj => by omega) (by rw [hl]; simp) rfl fun d => ?_
      · rw [inEvent_nothing] at sent
        exact sent
      · refine dispatchPass_first (s := { s with control := d }) (o := hostOrder n a.element x a.override now) _ hl rfl topo
          hav fun m hm => ?_
        rcases hm with ⟨hact, hover, hlost, hguard⟩ | ⟨hact, hgain, y, hy, hc⟩
        · rcases hclose hact with ho | hg
          · rw [show a.override = false from hover] at ho
            cases ho
          · have := hg m hlost
            rw [show s.guardedSegment m = true from hguard] at this
            cases this
        · exact hopen hact m hgain y hy hc
    · have waits := exec_order_joins (steps := 0) (timer := some (now + 120)) (number := n) (g := id)
        (t := { s with elements := { s.elements with
          queue := [{ made n with unavailableAt := some (now + 120) }]
          nextOrder := numberAfter n } })
        ha hi he hr hx' hcls none_held (target_eq ▸ ht) (by rw [hl]; simp) (by omega)
        (fun h => absurd h hav) (fun _ => rfl) (fun j hj => by omega) (by rw [hl]; simp) rfl fun d => ?_
      · rw [inEvent_nothing] at waits
        exact waits
      · rw [dispatchTop_none .plain fun y hy _ hel => ?_]
        · simp only [joined, hl]
          rfl
        · rw [alone, List.mem_singleton] at hy
          subst hy
          obtain ⟨-, hst, -⟩ := (eligible_iff _ _).mp hel
          rw [here] at hst
          exact hav hst

end Sys2Proof.Machine

/-! SUPPORT. Orders that end ALREADY or CANCELLED (O40). -/

namespace Sys2Proof.Machine

/-! ### O40 -/

section

variable {s : State} {a : OrderArgs} {img : Image} {e : Element} {r : ElementRec} {x : Action} {tag steps number : Nat}

/-- An ORDER at its target, with no order of its element: it ends ALREADY (R118). -/
theorem exec_order_already (ha : Admits s tag) (hi : s.net.active = some img) (he : img.element? a.element = some e)
    (hr : s.element? a.element = some r) (hx : Action.ofCode a.action = some x) (hcls : e.cls = .remote)
    (ho : s.orderOf? a.element = none) (ht : r.state = x.target) (hs : steps ≤ 32)
    (hheld : ∀ j, j < steps → ∃ y ∈ s.elements.queue, y.number = (after 65535)^[j] s.elements.nextOrder)
    (hfree : ∀ y ∈ s.elements.queue, y.number ≠ (after 65535)^[steps] s.elements.nextOrder)
    (hnum : number = (after 65535)^[steps] s.elements.nextOrder) :
    exec (.order tag (.fits a)) s = .next (answered 0x30 tag (.accepted (.placed number)) (passNotice
      (endNotice (hostOrder number a.element x a.override s.partTime.toNat) .already s.partTime.toNat)
      { huntControl s with elements := { s.elements with nextOrder := after 65535 number } })) := by
  have topo : s.elemTopo? a.element = some e := by rw [State.elemTopo?, hi, Option.bind_some, he]
  have passed : placeTest a.element x s = none := by
    rw [((placeTest_at topo hr).2 hcls).2 ho, if_pos (.inl ht)]
  have found : orderNumber s = number := by rw [hnum]; exact orderNumber_first hs hheld hfree
  have placed := exec_order_placed
    (g := passNotice (endNotice (hostOrder number a.element x a.override s.partTime.toNat) .already s.partTime.toNat))
    (t := { s with elements := { s.elements with nextOrder := after 65535 number } })
    ha hi he hr hx passed (number := number) (fun d => ?_) fun d => ?_
  · rw [inEvent_notice] at placed
    exact placed
  · rw [placeNumber, afterReplacement_none]
    · exact found
    · exact ho
  · rw [place_already (s := { s with control := d }) (s' := { s with control := d }) (afterReplacement_none ho) found hr ht]
    dsimp only
    rw [replacedOrder_none]
    · exact if_neg Bool.false_ne_true
    · exact ho

/-- An ORDER at its target that replaces a QUEUED order: the replaced one ends first, then the new one ALREADY, and a record
pass and an activating moment follow (R118, R130). -/
theorem exec_order_already_replaces {old : Order} (ha : Admits s tag) (hi : s.net.active = some img)
    (he : img.element? a.element = some e) (hr : s.element? a.element = some r) (hx : Action.ofCode a.action = some x)
    (hcls : e.cls = .remote) (ho : s.orderOf? a.element = some old) (hact : old.action ≠ x) (hq : old.state = .queued)
    (ht : r.state = x.target) (hs : steps ≤ 32)
    (hheld : ∀ j, j < steps → ∃ y ∈ (leaveQueue old.number s).elements.queue,
      y.number = (after 65535)^[j] s.elements.nextOrder)
    (hfree : ∀ y ∈ (leaveQueue old.number s).elements.queue, y.number ≠ (after 65535)^[steps] s.elements.nextOrder)
    (hnum : number = (after 65535)^[steps] s.elements.nextOrder) :
    exec (.order tag (.fits a)) s = .next (answered 0x30 tag (.accepted (.placed number)) (inEvent
      (fun v => activateTop .plain (recordPassTop .plain (passNotice
        (endNotice (hostOrder number a.element x a.override s.partTime.toNat) .already s.partTime.toNat)
        (handOutcome old .cancelled (passNotice (endNotice old .cancelled s.partTime.toNat) v)))))
      { huntControl s with elements := { s.elements with
          queue := (leaveQueue old.number s).elements.queue, nextOrder := after 65535 number } })) := by
  have topo : s.elemTopo? a.element = some e := by rw [State.elemTopo?, hi, Option.bind_some, he]
  have passed : placeTest a.element x s = none := by
    rw [((placeTest_at topo hr).2 hcls).1 old ho, if_neg hact, if_pos hq]
  have found : orderNumber (leaveQueue old.number s) = number := by
    rw [hnum]
    exact orderNumber_first (s := leaveQueue old.number s) hs hheld hfree
  refine exec_order_placed (t := { s with elements := { s.elements with
      queue := (leaveQueue old.number s).elements.queue, nextOrder := after 65535 number } }) ha hi he hr hx passed
    (fun d => ?_) fun d => ?_
  · rw [placeNumber, afterReplacement_some (s := { s with control := d }) ho hact hq, orderNumber_finishOrder, found]
  · have left := finishOrder_frame old .cancelled { s with control := d }
    have partTime : (finishOrder old .cancelled { s with control := d }).partTime = s.partTime := by rw [left]
    have placed := place_already (s := { s with control := d }) (r := r) (override := a.override) (h := hooksTop .plain)
      (afterReplacement_some ho hact hq) ((orderNumber_finishOrder old .cancelled d).trans found)
      (by rw [State.element?, finishOrder_elements]; exact hr) ht
    rw [placed, replacedOrder_some (s := { s with control := d }) ho hact hq, partTime]
    dsimp only [hooksTop]
    rw [if_pos (Option.isSome_some)]
    rw [withNext_finishOrder]
    rfl

end

/-- Settles O40: the orders that end ALREADY, the cancelled order, and the outcome handed to the register. -/
theorem ordersEndAlreadyOrCancelled : Obligations.OrdersEndAlreadyOrCancelled := by
  refine ⟨fun s tag a x img e r steps ha hi he hr hcls hs hx => ?_, fun s tag n img ha hi => ⟨fun ho => ?_,
    fun o ho hq => ?_, fun o ho hq hquiet => ?_⟩, fun s o outcome => ⟨fun ho => handOutcome_host ho outcome s,
    fun i ho => ?_⟩⟩
  · have hx' : Action.ofCode a.action = some x := by
      rcases hx with ⟨h, rfl, -⟩ | ⟨h, rfl, -⟩ <;> rw [h] <;> rfl
    have ht : r.state = x.target := by
      rcases hx with ⟨-, rfl, h⟩ | ⟨-, rfl, h⟩ <;> exact h
    intro numberAfter n firstFree already
    refine ⟨fun ho ⟨hheld, hfree⟩ => exec_order_already ha hi he hr hx' hcls ho ht hs hheld hfree rfl,
      fun old ho hact hq => ?_⟩
    rintro left ⟨hheld, hfree⟩
    have replaced := exec_order_already_replaces ha hi he hr hx' hcls ho hact hq ht hs hheld hfree (number := n) rfl
    rw [endNotice_queued hq] at replaced
    exact replaced
  · refine (Asks.orderCancel tag n).exec_same ha fun d => ?_
    rw [serveOrderCancel, needImage_at d _ hi, show State.order? { s with control := d } n = none from ho]
    rfl
  · refine (Asks.orderCancel tag n).exec_same ha fun d => ?_
    rw [serveOrderCancel, needImage_at d _ hi, show State.order? { s with control := d } n = some o from ho]
    dsimp only
    rw [if_pos ((inFlight_iff o).mpr hq)]
    rfl
  · obtain rfl := (State.order?_mem ho).2
    refine (Asks.orderCancel tag o.number).exec_notice (t := leaveQueue o.number s) ha fun d => ?_
    rw [serveOrderCancel, needImage_at d _ hi, show State.order? { s with control := d } o.number = some o from ho]
    dsimp only
    rw [if_neg ((not_inFlight_iff o).mpr hq),
      endOrder_quiet (s := { s with control := d }) .plain o .cancelled (hquiet.congr rfl rfl), if_pos hq,
      endNotice_queued hq]
    rfl
  · have origin : o.origin.incident = some i := by rcases ho with h | h <;> rw [h] <;> rfl
    refine ⟨fun hi => ?_, fun k r hk hr => handOutcome_of_record outcome origin hk hr⟩
    rw [handOutcome, origin, Option.bind_some, hi]

end Sys2Proof.Machine

/-! SUPPORT. Element records written, and the positions of a report (O43). -/

namespace Sys2Proof.Machine

/-! ### A recompute with nothing in hand (R69) -/

/-- The hand-ons of a recompute come last. -/
theorem recompute_eq_foldl (origin : Option Nat) (e : Nat) (hook : State → State) (s : State) :
    recompute origin e hook s = (recomputeMoves s).foldl (fun t _ => hook t) (recompute origin e id s) := by
  have still (l : List (Nat × SupplyState × SupplyState)) (t : State) : l.foldl (fun t _ => id t) t = t := by
    induction l with
    | nil => rfl
    | cons m l ih => exact ih
  unfold recompute
  dsimp only
  rw [still]

theorem Quiet.recompute {s : State} (h : Quiet s) (origin : Option Nat) (e : Nat) : Quiet (recompute origin e id s) := by
  refine recompute_keeps (P := Quiet) origin e id (fun t ht => ht) (fun t m ht => ?_) (fun t l ht => ?_) s (h.congr rfl rfl)
  · exact ht.congr (by rw [moveNotice_frame]) (by rw [moveNotice_frame])
  · exact ht.congr (by rw [supplyLoss_frame]) (by rw [supplyLoss_frame])

theorem recompute_quiet {s : State} (h : Quiet s) {hook : State → State} (hh : ∀ t, Quiet t → hook t = t)
    (origin : Option Nat) (e : Nat) : recompute origin e hook s = recompute origin e id s := by
  rw [recompute_eq_foldl]
  have quiet := h.recompute origin e
  generalize recompute origin e id s = t at quiet
  induction recomputeMoves s with
  | nil => rfl
  | cons m l ih => rw [List.foldl_cons, hh t quiet, ih]

/-! ### The judged order (R127, R129) -/

/-- With nothing in hand it does not matter what follows an order's end inside a dispatch pass. -/
theorem dispatchLoop_quiet {depart depart' : State → State} (hd : ∀ t, Quiet t → depart t = t)
    (hd' : ∀ t, Quiet t → depart' t = t) (fuel : Nat) : ∀ (seen : List Nat) {s : State}, Quiet s →
      dispatchLoop depart fuel seen s = dispatchLoop depart' fuel seen s := by
  induction fuel with
  | zero => exact fun _ _ _ => rfl
  | succ fuel ih =>
    intro seen s hs
    rw [dispatchLoop_step, dispatchLoop_step]
    cases (unseen seen s).head? with
    | none => rfl
    | some o =>
      dsimp only
      rw [ih _ hs, ih _ (hs.sendOrder o)]
      cases interlock s o with
      | none => rfl
      | some n =>
        have ended := hs.finishOrder o (.failed (.interlock n))
        dsimp only
        rw [hd _ ended, hd' _ ended, ih _ ended]

theorem dispatchTop_quiet {s : State} (h : Quiet s) (c c' : Ctx) : dispatchTop c s = dispatchTop c' s :=
  dispatchLoop_quiet (fun _ ht => depart_quiet c ht) (fun _ ht => depart_quiet c' ht) _ _ h

section

variable {s : State} {n : Nat} {o : Order} {x : ElementState} {travel : Bool}

/-- An order ended, as far as it leaves the queue and is told (R130 steps 1 and 2). -/
def endedOrder (o : Order) (x : OrderOutcome) (s : State) : State :=
  passNotice (endNotice o x s.partTime.toNat) (leaveQueue o.number s)

theorem Quiet.endedOrder (h : Quiet s) (o : Order) (x : OrderOutcome) : Quiet (endedOrder o x s) :=
  h.congr (by rw [Machine.endedOrder, passNotice_register]; rfl) (by rw [Machine.endedOrder, passNotice_net]; rfl)

theorem endOrder_eq (c : Ctx) (o : Order) (x : OrderOutcome) (h : Quiet s) :
    endOrder (hooksTop c) o x s = if o.state = .queued then endedOrder o x s else dispatchTop .plain (endedOrder o x s) := by
  rw [endOrder_quiet c o x h, dispatchTop_quiet (h.endedOrder o x) .plain c]
  rfl

theorem Quiet.endOrder (h : Quiet s) (c : Ctx) (o : Order) (x : OrderOutcome) : Quiet (endOrder (hooksTop c) o x s) := by
  rw [endOrder_eq c o x h]
  split
  · exact h.endedOrder o x
  · exact (h.endedOrder o x).dispatchTop .plain

/-- The order of an element judged, with nothing in hand. -/
theorem judgeOrder_quiet (c : Ctx) (h : Quiet s) (ho : s.orderOf? n = some o) :
    judgeOrder (hooksTop c) n x travel s =
      if o.state = .queued then if x = o.action.target then endedOrder o .already s else s
      else if x = o.action.target then dispatchTop .plain (endedOrder o .done s)
      else if x = .fault then dispatchTop .plain (endedOrder o (.failed .elementFault) s)
      else if travel = true ∧ o.state = .sent then acknowledge o s
      else s := by
  unfold judgeOrder
  rw [ho]
  dsimp only
  by_cases hq : o.state = .queued
  · rw [if_neg ((not_inFlight_iff o).mpr hq), if_pos hq, endOrder_eq c o _ h, if_pos hq]
  · rw [if_pos ((inFlight_iff o).mpr hq), if_neg hq, endOrder_eq c o _ h, endOrder_eq c o _ h, if_neg hq, if_neg hq]

theorem judgeOrder_none (c : Ctx) (ho : s.orderOf? n = none) : judgeOrder (hooksTop c) n x travel s = s := by
  rw [judgeOrder, ho]

theorem Quiet.judgeOrder (h : Quiet s) (c : Ctx) : Quiet (judgeOrder (hooksTop c) n x travel s) := by
  cases ho : s.orderOf? n with
  | none => rw [judgeOrder_none c ho]; exact h
  | some o =>
    rw [judgeOrder_quiet c h ho]
    split
    · split
      · exact h.endedOrder o _
      · exact h
    · split
      · exact (h.endedOrder o _).dispatchTop _
      · split
        · exact (h.endedOrder o _).dispatchTop _
        · split
          · exact h.congr rfl rfl
          · exact h

end

/-! ### An element record written (R110) -/

/-- The incident of the order in flight of an element (R110). -/
def orderIncident (s : State) (n : Nat) : Option Nat :=
  match s.orderOf? n with
  | none => none
  | some o => if o.state = .queued then none
    else match o.origin with
      | .host => none
      | .isolation i => some i
      | .restoration i => some i

theorem originIncident_quiet {s : State} (h : Quiet s) (n : Nat) : originIncident n s = orderIncident s n := by
  unfold originIncident orderIncident
  rw [h.recordHolding]
  cases s.orderOf? n with
  | none => rfl
  | some o =>
    rw [Option.bind_some]
    by_cases hq : o.state = .queued
    · rw [if_neg ((not_inFlight_iff o).mpr hq)]
      dsimp only
      rw [if_pos hq]
      rfl
    · rw [if_pos ((inFlight_iff o).mpr hq)]
      dsimp only
      rw [if_neg hq]
      cases o.origin <;> rfl

/-- Whether a change of state changes the passability (R9). -/
@[reducible] def PassChanged (x y : ElementState) : Prop := (x = .closed ∧ y ≠ .closed) ∨ (x ≠ .closed ∧ y = .closed)

theorem passes_ne_iff (x y : ElementState) : x.passes ≠ y.passes ↔ PassChanged x y := by
  unfold PassChanged ElementState.passes
  by_cases hx : x = .closed <;> by_cases hy : y = .closed <;> simp [hx, hy]

theorem bumpBasisIf_add (c : Bool) (s : State) : bumpBasisIf c s =
    { s with net := { s.net with basis := s.net.basis + if c = true then 1 else 0 } } := by
  rw [bumpBasisIf_eq]
  cases c
  · simp
  · rfl

/-- The element table and the basis with a record written: one increase for a change of passability and one for a mark set
from clear (R110). -/
def elementWritten (new : ElementRec) (basis : Word) (s : State) : State :=
  { s with
    net := { s.net with basis := basis }
    elements := { s.elements with table := s.elements.table.map fun z => if z.number = new.number then new else z } }

/-- The steps of R110 with nothing in hand, up to the judgement of the element's order. -/
theorem elementSteps_quiet {s : State} (c : Ctx) {old new : ElementRec} {cause : ElementCause} {travel : Bool} (h : Quiet s)
    {basis : Word}
    (hb : basis = (s.net.basis + if PassChanged old.state new.state then 1 else 0) +
      if old.faultMark = false ∧ new.faultMark = true then 1 else 0) :
    elementSteps (hooksTop c) old new cause travel s =
      let told := passNotices (elementNotice old new cause (orderIncident s new.number) basis).toList
        (elementWritten new basis s)
      judgeOrder (hooksTop c) new.number new.state travel
        (if PassChanged old.state new.state then recompute (orderIncident s new.number) new.number id told else told) := by
  have written : bumpBasisIf (!old.faultMark && new.faultMark)
      (bumpBasisIf (old.state.passes ≠ new.state.passes) (s.updElement new.number fun _ => new)) =
      elementWritten new basis s := by
    have mark : (!old.faultMark && new.faultMark) = true ↔ old.faultMark = false ∧ new.faultMark = true := by simp
    have moved : decide (old.state.passes ≠ new.state.passes) = true ↔ PassChanged old.state new.state := by
      rw [decide_eq_true_eq, passes_ne_iff]
    rw [bumpBasisIf_add, bumpBasisIf_add, hb]
    simp only [mark, moved]
    rfl
  have basis_of : (elementWritten new basis s).net.basis = basis := rfl
  unfold elementSteps
  dsimp only
  rw [written, basis_of, originIncident_quiet h]
  have pass : ∀ t, Quiet t → (hooksTop c).pass t = t := fun t ht => by
    dsimp only [hooksTop]
    exact recordPassTop_quiet c ht
  have quiet : Quiet (passNotices (elementNotice old new cause (orderIncident s new.number) basis).toList
      (elementWritten new basis s)) :=
    h.congr (by rw [passNotices_register]; rfl) (by rw [passNotices_net]; rfl)
  generalize passNotices (elementNotice old new cause (orderIncident s new.number) basis).toList
    (elementWritten new basis s) = told at quiet
  rw [recompute_quiet quiet pass]
  by_cases hc : PassChanged old.state new.state
  · rw [if_pos hc, if_pos ((passes_ne_iff _ _).mpr hc)]
  · rw [if_neg hc, if_neg fun h => hc ((passes_ne_iff _ _).mp h)]

/-- What the steps up to the judgement keep: the queue, the stations, the register and the standby image. -/
theorem recompute_blocks (origin : Option Nat) (e : Nat) (u : State) :
    (recompute origin e id u).elements = u.elements ∧ (recompute origin e id u).net = u.net ∧
    (recompute origin e id u).register = u.register ∧ (recompute origin e id u).partTime = u.partTime ∧
    (recompute origin e id u).field = u.field := by
  obtain ⟨i, c, h, -⟩ := recompute_frame (hook := id) (u := u) (fun _ _ _ => rfl) origin e
  rw [h]
  exact ⟨rfl, rfl, rfl, rfl, rfl⟩

/-- The state before the judgement of the order: the record written and told, and the recompute of a changed passability. -/
def elementTold (old new : ElementRec) (basis : Word) (l : List NoticeBody) (s : State) : State :=
  if PassChanged old.state new.state then
    recompute (orderIncident s new.number) new.number id (passNotices l (elementWritten new basis s))
  else passNotices l (elementWritten new basis s)

section

variable {s : State} {old new : ElementRec} {basis : Word} {l : List NoticeBody}

theorem elementTold_blocks : (elementTold old new basis l s).elements = (elementWritten new basis s).elements ∧
    (elementTold old new basis l s).net = (elementWritten new basis s).net ∧
    (elementTold old new basis l s).register = s.register ∧ (elementTold old new basis l s).partTime = s.partTime := by
  unfold elementTold
  split
  · obtain ⟨he, hn, hr, ht, -⟩ := recompute_blocks (orderIncident s new.number) new.number
      (passNotices l (elementWritten new basis s))
    rw [he, hn, hr, ht, passNotices_elements, passNotices_net, passNotices_register, passNotices_partTime]
    exact ⟨rfl, rfl, rfl, rfl⟩
  · rw [passNotices_elements, passNotices_net, passNotices_register, passNotices_partTime]
    exact ⟨rfl, rfl, rfl, rfl⟩

theorem elementTold_quiet (h : Quiet s) : Quiet (elementTold old new basis l s) := by
  obtain ⟨-, hn, hr, -⟩ := elementTold_blocks (s := s) (old := old) (new := new) (basis := basis) (l := l)
  exact h.congr hr (by rw [hn]; rfl)

theorem elementTold_orderOf? (n : Nat) : (elementTold old new basis l s).orderOf? n = s.orderOf? n := by
  obtain ⟨he, -, -, -⟩ := elementTold_blocks (s := s) (old := old) (new := new) (basis := basis) (l := l)
  rw [State.orderOf?, he]
  rfl

theorem elementTold_elemTopo? (n : Nat) : (elementTold old new basis l s).elemTopo? n = s.elemTopo? n := by
  obtain ⟨-, hn, -, -⟩ := elementTold_blocks (s := s) (old := old) (new := new) (basis := basis) (l := l)
  rw [State.elemTopo?, hn]
  rfl

theorem elementTold_partTime : (elementTold old new basis l s).partTime = s.partTime :=
  elementTold_blocks.2.2.2

end

/-! ### O43 -/

theorem takePosition_number (now : Nat) (c : PositionCode) (o : Option Order) (r : ElementRec) :
    (takePosition now c o r).number = r.number := rfl

/-- The notice of a report where the record changed (R115). -/
theorem elementNotice_report (old new : ElementRec) (origin : Option Nat) (basis : Word) : elementNotice old new .report origin basis =
      if new.state = old.state ∧ new.direction = old.direction ∧ new.faultMark = old.faultMark then none
      else some (.element
        { element := new.number, oldState := old.state, state := new.state, direction := new.direction, source := new.source
          unconfirmed := new.unconfirmed, faultMark := new.faultMark, changedAt := new.changedAt, cause := .report
          passChanged := decide (PassChanged old.state new.state)
          origin := if PassChanged old.state new.state then origin else none, basis := basis }) := by
  have same : (ElementCause.report ≠ .crew ∧ old.state = new.state ∧ old.direction = new.direction ∧
      old.faultMark = new.faultMark) ↔
      (new.state = old.state ∧ new.direction = old.direction ∧ new.faultMark = old.faultMark) := by
    simp [eq_comm]
  unfold elementNotice
  simp only [same, passes_ne_iff]

theorem takePosition_spec (now : Nat) (c : PositionCode) (o : Option Order) (r : ElementRec) :
    let x := takePosition now c o r
    x.number = r.number ∧ x.source = .station ∧ x.unconfirmed = false ∧
    (x.faultMark = true ↔ r.faultMark = true ∨ c = .fault) ∧
    (c = .opened → x.state = .opened ∧ x.direction = none) ∧
    (c = .closed → x.state = .closed ∧ x.direction = none) ∧
    (c = .stopped → x.state = .mid ∧ x.direction = none) ∧
    (c = .fault → x.state = .fault ∧ x.direction = none) ∧
    (c = .travel → x.state = .moving ∧
      (∀ y, o = some y → y.state ≠ .queued → y.action = .close → x.direction = some .closing) ∧
      (∀ y, o = some y → y.state ≠ .queued → y.action = .opening → x.direction = some .opening) ∧
      ((∀ y, o = some y → y.state = .queued) → x.direction = none)) ∧
    (x.state = r.state → x.direction = r.direction → x.changedAt = r.changedAt) ∧
    (x.state ≠ r.state ∨ x.direction ≠ r.direction → x.changedAt = now) := by
  have travel : ∀ y, o = some y → y.state ≠ .queued →
      travelDirection o = match y.action with
        | .close => some .closing
        | .opening => some .opening := by
    rintro y rfl hq
    simp only [travelDirection, if_pos ((inFlight_iff y).mpr hq)] <;> rfl
  refine ⟨rfl, rfl, rfl, by simp [takePosition], ?_, ?_, ?_, ?_, fun hc => ?_, fun hs hd => ?_, fun h => ?_⟩
  · rintro rfl; exact ⟨rfl, rfl⟩
  · rintro rfl; exact ⟨rfl, rfl⟩
  · rintro rfl; exact ⟨rfl, rfl⟩
  · rintro rfl; exact ⟨rfl, rfl⟩
  · subst hc
    refine ⟨rfl, fun y ho hq ha => ?_, fun y ho hq ha => ?_, fun hq => ?_⟩
    · exact (travel y ho hq).trans (by rw [ha])
    · exact (travel y ho hq).trans (by rw [ha])
    · show travelDirection o = none
      cases o with
      | none => rfl
      | some y => exact if_neg ((not_inFlight_iff y).mpr (hq y rfl))
  · exact if_pos (Prod.ext hs hd)
  · refine if_neg fun he => ?_
    rcases h with h | h
    · exact h (congrArg Prod.fst he)
    · exact h (congrArg Prod.snd he)

/-- Settles O43: the record of a position, and the steps that follow it with nothing in hand. -/
theorem positionsSetTheElementRecord : Obligations.PositionsSetTheElementRecord := by
  refine ⟨takePosition_spec, fun s n c r hquiet hr => ?_⟩
  intro now new origin changed basis written told v after
  have number : new.number = n := (takePosition_number now c (s.orderOf? n) r).trans (State.element?_number hr)
  have notice : passNotices (elementNotice r new .report (orderIncident s n) basis).toList (elementWritten new basis s) =
      told := by
    have here : elementWritten new basis s = written := by rw [elementWritten, number]
    rw [elementNotice_report, here, number]
    by_cases hs : new.state = r.state ∧ new.direction = r.direction ∧ new.faultMark = r.faultMark
    · rw [if_pos hs]
      exact (if_pos hs).symm
    · rw [if_neg hs]
      exact (if_neg hs).symm
  have before : elementTold r new basis (elementNotice r new .report (orderIncident s n) basis).toList s = v := by
    unfold elementTold
    rw [notice, number]
    rfl
  have judged : after = judgeOrder (hooksTop .plain) n new.state (decide (c = .travel)) v := by
    have steps := elementSteps_quiet .plain (old := r) (new := new) (cause := .report) (travel := decide (c = .travel)) hquiet
      (basis := basis) rfl
    rw [number] at steps
    show positionEvent (hooksTop .plain) n c s = _
    rw [positionEvent, hr]
    exact steps.trans (congrArg (judgeOrder (hooksTop .plain) n new.state (decide (c = .travel))) (by
      rw [← before, elementTold, number]))
  have quiet : Quiet v := before ▸ elementTold_quiet hquiet
  have order_of : v.orderOf? n = s.orderOf? n := before ▸ elementTold_orderOf? n
  have part_time : v.partTime = s.partTime := before ▸ elementTold_partTime
  obtain ⟨-, -, -, -, -, -, -, fault, moving, -⟩ := takePosition_spec now c (s.orderOf? n) r
  refine ⟨fun ho => ?_, fun o ho => ?_⟩
  · rw [judged, judgeOrder_none .plain (order_of.trans ho)]
  intro target ended
  have element : o.element = n := (State.orderOf?_mem ho).2
  have target_eq : target = o.action.target := by
    dsimp only [target]
    cases o.action <;> rfl
  have ended_eq (outcome : OrderOutcome) : endedOrder o outcome v = ended outcome := by
    rw [endedOrder, part_time, endNotice, element]
    rfl
  rw [judged, judgeOrder_quiet .plain quiet (order_of.trans ho), ended_eq, ended_eq, ended_eq, target_eq]
  refine ⟨fun hq hx => ?_, fun hq hc => ?_, fun e hq hc he => ?_, fun hq hx hc htravel => ?_, fun hq hx => ?_,
    fun hq hx => ?_⟩
  · rw [if_neg hq, if_pos hx]
  · have state := (fault hc).1
    have off : new.state ≠ o.action.target := by rw [state]; cases o.action <;> exact ElementState.noConfusion
    rw [if_neg hq, if_neg off, if_pos state]
  · have state := (moving hc).1
    have off : new.state ≠ o.action.target := by rw [state]; cases o.action <;> exact ElementState.noConfusion
    have no_fault : new.state ≠ .fault := by rw [state]; exact ElementState.noConfusion
    have waiting : o.state ≠ .queued := by rw [hq]; exact OrderState.noConfusion
    have topo : v.elemTopo? o.element = some e := by
      rw [element]
      exact (before ▸ elementTold_elemTopo? n).trans he
    rw [if_neg waiting, if_neg off, if_neg no_fault, if_pos ⟨by simpa using hc, hq⟩, acknowledge_at topo, part_time]
  · have no_fault : new.state ≠ .fault := by
      cases c
      case fault => exact absurd rfl hc
      all_goals exact ElementState.noConfusion
    rw [if_neg hq, if_neg hx, if_neg no_fault, if_neg fun h => htravel ⟨h.2, by simpa using h.1⟩]
  · rw [if_pos hq, if_pos hx]
  · rw [if_pos hq, if_neg hx]

end Sys2Proof.Machine

/-! SUPPORT. Crew reports and cleared fault marks (O44). -/

namespace Sys2Proof.Machine

/-! ### Crew reports (R112, R159) -/

theorem crewPosition_of {c : Nat} {y : ElementState} (h : (c = 1 ∧ y = .opened) ∨ (c = 2 ∧ y = .closed)) :
    ∃ x : Action, crewPosition c = some x ∧ x.target = y := by
  rcases h with ⟨rfl, rfl⟩ | ⟨rfl, rfl⟩
  · exact ⟨.opening, rfl, rfl⟩
  · exact ⟨.close, rfl, rfl⟩

theorem crewPosition_none {c : Nat} (h1 : c ≠ 1) (h2 : c ≠ 2) : crewPosition c = none := by
  match c, h1, h2 with
  | 0, _, _ | 3, _, _ | 4, _, _ | 5, _, _ => rfl
  | 1, h, _ => exact absurd rfl h
  | 2, _, h => exact absurd rfl h
  | n + 6, _, _ => rfl

/-- The notice of a crew report, which is always due (R115). -/
theorem elementNotice_crew (old new : ElementRec) (origin : Option Nat) (basis : Word) : elementNotice old new .crew origin basis =
      some (.element
        { element := new.number, oldState := old.state, state := new.state, direction := new.direction, source := new.source
          unconfirmed := new.unconfirmed, faultMark := new.faultMark, changedAt := new.changedAt, cause := .crew
          passChanged := decide (PassChanged old.state new.state)
          origin := if PassChanged old.state new.state then origin else none, basis := basis }) := by
  unfold elementNotice
  rw [if_neg fun h => h.1 rfl]
  simp only [passes_ne_iff]

theorem handCrew_quiet {s : State} (h : Quiet s) (n : Nat) (x : Action) : handCrew n x s = s := by
  rw [handCrew, h.recordHolding]

/-- The element record a crew report writes (R112). -/
def crewRecord (r : ElementRec) (y : ElementState) (now : Nat) : ElementRec :=
  { r with state := y, direction := none, source := .crew, unconfirmed := false
           changedAt := if r.state = y then r.changedAt else now }

theorem takeCrew_eq {x : Action} {y : ElementState} (h : x.target = y) (now : Nat) (r : ElementRec) :
    takeCrew now x r = crewRecord r y now := by
  subst h
  simp only [takeCrew, crewRecord, eq_comm]

section

variable {s : State} {x : Action} {y : ElementState} {r : ElementRec} {basis : Word} {l : List NoticeBody}

/-- A crew report with nothing in hand: the record written and told, the recompute, and the order judged. -/
theorem crewEvent_quiet (h : Quiet s) (hx : x.target = y)
    (hb : basis = if PassChanged r.state y then s.net.basis + 1 else s.net.basis)
    (hl : l = (elementNotice r (crewRecord r y s.partTime.toNat) .crew (orderIncident s r.number) basis).toList) :
    crewEvent x r s = judgeOrder (hooksTop { skip := some r.number }) r.number y false
      (elementTold r (crewRecord r y s.partTime.toNat) basis l s) := by
  have basis_eq : basis = (s.net.basis + if PassChanged r.state (crewRecord r y s.partTime.toNat).state then 1 else 0) +
      if r.faultMark = false ∧ (crewRecord r y s.partTime.toNat).faultMark = true then 1 else 0 := by
    have no_mark : ¬(r.faultMark = false ∧ (crewRecord r y s.partTime.toNat).faultMark = true) := fun hm => by
      rw [show (crewRecord r y s.partTime.toNat).faultMark = r.faultMark from rfl, hm.1] at hm
      cases hm.2
    rw [if_neg no_mark, hb]
    by_cases hc : PassChanged r.state y
    · rw [if_pos hc, if_pos (show PassChanged r.state (crewRecord r y s.partTime.toNat).state from hc)]
      exact (BitVec.add_zero _).symm
    · rw [if_neg hc, if_neg (show ¬PassChanged r.state (crewRecord r y s.partTime.toNat).state from hc)]
      exact ((BitVec.add_zero _).trans (BitVec.add_zero _)).symm
  have steps := elementSteps_quiet { skip := some r.number } (old := r) (new := crewRecord r y s.partTime.toNat) (cause := .crew)
    (travel := false) h basis_eq
  have told : elementSteps (hooksTop { skip := some r.number }) r (takeCrew s.now x r) .crew false s =
      judgeOrder (hooksTop { skip := some r.number }) r.number y false
        (elementTold r (crewRecord r y s.partTime.toNat) basis l s) := by
    rw [takeCrew_eq hx, hl]
    exact steps
  unfold crewEvent
  dsimp only
  rw [told]
  have quiet : Quiet (judgeOrder (hooksTop { skip := some r.number }) r.number y false
      (elementTold r (crewRecord r y s.partTime.toNat) basis l s)) := (elementTold_quiet h).judgeOrder _
  rw [handCrew_quiet quiet, recordPassTop_quiet _ quiet]

end

theorem passChanged_crew {x y : ElementState} (hy : y = .opened ∨ y = .closed) :
    PassChanged x y ↔ (x = .closed ∧ y = .opened) ∨ (x ≠ .closed ∧ y = .closed) := by
  unfold PassChanged
  rcases hy with rfl | rfl <;> simp

/-- What an accepted crew report writes to the entry of its element (R159). -/
theorem handCrew_of_record {s : State} {element k : Nat} {r : IsoRecord} (x : Action)
    (hk : s.recordHolding element = some k) (hr : s.record? k = some r) :
    handCrew element x s = { s with register := { records := s.register.records.set k (some
      { r with entries := r.entries.map fun e =>
          if e.element = element then
            match crewStep e.step x with
            | some (y, l) => { e with step := y, last := some l, stepTime := s.partTime.toNat }
            | none => e
          else e }) } } := by
  rw [handCrew, hk]
  dsimp only
  rw [updRecord_at hr]
  rfl

/-- R159's table. -/
theorem crewStep_entry (now : Nat) (x : Action) (e : Entry) :
    (match crewStep e.step x with
      | some (y, l) => { e with step := y, last := some l, stepTime := now }
      | none => e) =
      if e.step = .crewClose then
        if x = .close then { e with step := .closed, last := some .crewClosed, stepTime := now }
        else { e with step := .closeFailed, last := some .crewOpen, stepTime := now }
      else if e.step = .crewOpen then
        if x = .close then { e with step := .openFailed, last := some .crewClosed, stepTime := now }
        else { e with step := .reopened, last := some .crewOpen, stepTime := now }
      else if e.step = .openFailed ∧ x = .opening then { e with step := .reopened, last := some .crewOpen, stepTime := now }
      else e := by
  cases x <;> cases h : e.step <;> rfl

/-! ### Cleared fault marks (R113) -/

theorem clearFault_at {s : State} {n : Nat} {r : ElementRec} (hr : s.element? n = some r) (h : r.faultMark = true) :
    clearFault r s = passNotice
      (.element { element := n, oldState := r.state, state := r.state, direction := r.direction
                  source := r.source, unconfirmed := r.unconfirmed, faultMark := false, changedAt := r.changedAt
                  cause := .clearFault, passChanged := false, origin := none, basis := s.net.basis + 1 })
      { s with
        net := { s.net with basis := s.net.basis + 1 }
        elements := { s.elements with
          table := s.elements.table.map fun y => if y.number = n then { r with faultMark := false } else y } } := by
  obtain rfl := State.element?_number hr
  simp only [clearFault, elementNotice, h]
  simp [passNotices]
  rfl

/-- Settles O44: crew reports, their hand-on to the register, and cleared fault marks. -/
theorem crewReportsAndFaultClearsWriteTheElement : Obligations.CrewReportsAndFaultClearsWriteTheElement := by
  refine ⟨fun s tag a y img e r ha hi he hr hy => ⟨fun hcls hquiet => ?_, fun hcls hst => ?_⟩,
    fun s tag a img e r ha hi he hr h1 h2 => ?_, fun s tag n img e r ha hi he hr => ⟨fun hm => ?_, fun hm => ?_⟩,
    fun s element x => ⟨fun hk => by rw [handCrew, hk], fun k r hk hr => ?_⟩⟩
  · obtain ⟨x, hx, htarget⟩ := crewPosition_of hy
    intro origin changed at' basis told u reported
    have number : r.number = a.element := State.element?_number hr
    have y_cases : y = .opened ∨ y = .closed := hy.imp And.right And.right
    have hch : PassChanged r.state y ↔ changed := passChanged_crew y_cases
    have served (d : ControlPort) :
        serveCrewReport a { s with control := d } = (crewEvent x r { s with control := d }, .done .nothing) := by
      have accepted : ¬(e.cls = .remote && (s.station? e.station).any fun t => t.state = .reporting) = true := by
        rw [Bool.and_eq_true, decide_eq_true_eq, Option.any_eq_true]
        rintro ⟨hremote, st, hst, hrep⟩
        exact hcls ⟨hremote, st, hst, of_decide_eq_true hrep⟩
      rw [serveCrewReport, withElement_at d _ hi he hr, hx]
      exact if_neg accepted
    have notice : (elementNotice r (crewRecord r y s.partTime.toNat) .crew (orderIncident s r.number) basis).toList =
        [.element { element := a.element, oldState := r.state, state := y, direction := none, source := .crew
                    unconfirmed := false, faultMark := r.faultMark, changedAt := at', cause := .crew
                    passChanged := decide changed, origin := if changed then origin else none, basis := basis }] := by
      rw [elementNotice_crew, number]
      show [_] = _
      simp only [show (crewRecord r y s.partTime.toNat).state = y from rfl, hch]
      rw [show (crewRecord r y s.partTime.toNat).number = a.element from number]
      rfl
    have written (d : ControlPort) :
        elementTold r (crewRecord r y s.partTime.toNat) basis
          (elementNotice r (crewRecord r y s.partTime.toNat) .crew (orderIncident s r.number) basis).toList
          { s with control := d } = reported { u with control := d } := by
      have table : elementWritten (crewRecord r y s.partTime.toNat) basis { s with control := d } = { u with control := d } := by
        rw [elementWritten, show (crewRecord r y s.partTime.toNat).number = a.element from number]
        rfl
      rw [notice, elementTold, table, show (crewRecord r y s.partTime.toNat).number = a.element from number]
      by_cases hc : changed
      · exact (if_pos (hch.mpr hc)).trans (if_pos hc).symm
      · exact (if_neg fun h => hc (hch.mp h)).trans (if_neg hc).symm
    have event (d : ControlPort) : crewEvent x r { s with control := d } =
        judgeOrder (hooksTop { skip := some r.number }) r.number y false (reported { u with control := d }) := by
      have basis_eq : basis = if PassChanged r.state y then s.net.basis + 1 else s.net.basis := by
        simp only [hch]
        rfl
      have steps : crewEvent x r { s with control := d } = judgeOrder (hooksTop { skip := some r.number }) r.number y false
          (elementTold r (crewRecord r y s.partTime.toNat) basis
            (elementNotice r (crewRecord r y s.partTime.toNat) .crew (orderIncident s r.number) basis).toList
            { s with control := d }) :=
        crewEvent_quiet (s := { s with control := d }) (hquiet.congr rfl rfl) htarget basis_eq rfl
      rw [steps, written d]
    have told_blocks (d : ControlPort) : Quiet (reported { u with control := d }) ∧
        (reported { u with control := d }).orderOf? r.number = s.orderOf? r.number ∧
        (reported { u with control := d }).partTime = s.partTime := by
      rw [← written d]
      exact ⟨elementTold_quiet (hquiet.congr rfl rfl), elementTold_orderOf? _, elementTold_partTime⟩
    have done {g : State → State} (hg : ∀ d, judgeOrder (hooksTop { skip := some r.number }) r.number y false
        (reported { u with control := d }) = g { u with control := d }) :
        exec (.crewReport tag (.fits a)) s = .next (answered 0x32 tag (.done .nothing) (inEvent g u)) :=
      (Asks.crewReport tag a).exec_event ha (t := u) fun d => by rw [served d, event d, hg d]
    refine ⟨fun hno => ?_, fun o ho hat => ?_⟩
    · have reported_alone (d : ControlPort) : judgeOrder (hooksTop { skip := some r.number }) r.number y false
          (reported { u with control := d }) = reported { u with control := d } := by
        obtain ⟨quiet, order_of, -⟩ := told_blocks d
        cases ho : s.orderOf? r.number with
        | none => exact judgeOrder_none _ (order_of.trans ho)
        | some o =>
          have off : y ≠ o.action.target := fun hy => by
            obtain ⟨no_close, no_opening⟩ := hno o (number ▸ ho)
            cases hact : o.action with
            | close => exact no_close ⟨hact, hy.trans (by rw [hact]; rfl)⟩
            | opening => exact no_opening ⟨hact, hy.trans (by rw [hact]; rfl)⟩
          have no_fault : y ≠ .fault := by
            rcases y_cases with h | h <;> rw [h] <;> exact ElementState.noConfusion
          rw [judgeOrder_quiet _ quiet (order_of.trans ho), if_neg off, if_neg off, if_neg no_fault,
            if_neg (c := false = true ∧ _) fun h => Bool.false_ne_true h.1, ite_self]
      refine (done reported_alone).trans ?_
      by_cases hc : changed
      · rw [if_pos hc]
      · rw [if_neg hc]
        have plain : reported = told := funext fun v => if_neg hc
        rw [plain]
        exact congrArg (fun v => Host.Outcome.next (answered 0x32 tag (.done .nothing) v)) (inEvent_notice _ _)
    · intro ended
      refine done fun d => ?_
      obtain ⟨quiet, order_of, part_time⟩ := told_blocks d
      have order : s.orderOf? r.number = some o := number ▸ ho
      have element : o.element = a.element := (State.orderOf?_mem ho).2
      have target : y = o.action.target := by
        rcases hat with ⟨hact, hy⟩ | ⟨hact, hy⟩ <;> rw [hact, hy] <;> rfl
      have ended_eq (outcome : OrderOutcome) : endedOrder o outcome (reported { u with control := d }) =
          ended outcome (reported { u with control := d }) := by
        rw [endedOrder, part_time, endNotice, element]
        rfl
      rw [judgeOrder_quiet _ quiet (order_of.trans order), if_pos target, if_pos target, ended_eq, ended_eq]
  · obtain ⟨x, hx, -⟩ := crewPosition_of hy
    refine (Asks.crewReport tag a).exec_same ha fun d => ?_
    have reported : (e.cls = .remote && (s.station? e.station).any fun t => t.state = .reporting) = true := by
      obtain ⟨st, hs, hrep⟩ := hst
      simp [hcls, hs, hrep]
    rw [serveCrewReport, withElement_at d _ hi he hr, hx]
    exact if_pos reported
  · refine (Asks.crewReport tag a).exec_same ha fun d => ?_
    rw [serveCrewReport, withElement_at d _ hi he hr, crewPosition_none h1 h2]
    rfl
  · refine (Asks.elementClearFault tag n).exec_same ha fun d => ?_
    rw [serveElementClearFault, withElement_at d _ hi he hr, if_neg (by rw [hm]; exact Bool.false_ne_true)]
  · refine (Asks.elementClearFault tag n).exec_notice ha (t := { s with
      net := { s.net with basis := s.net.basis + 1 }
      elements := { s.elements with
        table := s.elements.table.map fun y => if y.number = n then { r with faultMark := false } else y } }) fun d => ?_
    rw [serveElementClearFault, withElement_at d _ hi he hr, if_pos hm, clearFault_at (s := { s with control := d }) hr hm]
  · intro moved
    rw [handCrew_of_record x hk hr]
    have entries : (r.entries.map fun e => if e.element = element then
          match crewStep e.step x with
          | some (y, l) => { e with step := y, last := some l, stepTime := s.partTime.toNat }
          | none => e
        else e) = r.entries.map fun e =>
          if e.element ≠ element then e
          else if e.step = .crewClose then
            if x = .close then moved .closed .crewClosed e else moved .closeFailed .crewOpen e
          else if e.step = .crewOpen then
            if x = .close then moved .openFailed .crewClosed e else moved .reopened .crewOpen e
          else if e.step = .openFailed ∧ x = .opening then moved .reopened .crewOpen e
          else e := by
      refine List.map_congr_left fun e _ => ?_
      by_cases he : e.element = element
      · rw [if_pos he, if_neg (fun h => h he)]
        exact crewStep_entry s.partTime.toNat x e
      · rw [if_neg he, if_pos he]
    exact congrArg (fun l => { s with register := { records := s.register.records.set k (some { r with entries := l }) } })
      entries

end Sys2Proof.Machine

/-! SUPPORT. What a recompute writes and tells (O47). -/

namespace Sys2Proof.Machine

/-! ### Ascending insertion, read by number -/

section

variable {α : Type} {key : α → Nat} {x : α} {n : Nat}

theorem find?_insertBy_other (l : List α) (h : key x ≠ n) :
    (insertBy key x l).find? (fun y => key y = n) = l.find? fun y => key y = n := by
  induction l with
  | nil => simp [insertBy, h]
  | cons y l ih =>
    unfold insertBy
    split
    · rw [List.find?_cons_of_neg (by simpa using h)]
    · rw [List.find?_cons, List.find?_cons, ih]

theorem find?_insertBy_new {l : List α} (h : l.find? (fun y => key y = key x) = none) :
    (insertBy key x l).find? (fun y => key y = key x) = some x := by
  induction l with
  | nil => simp [insertBy]
  | cons y l ih =>
    obtain ⟨hy, hl⟩ : key y ≠ key x ∧ l.find? (fun y => key y = key x) = none := by simpa using h
    unfold insertBy
    split
    · exact List.find?_cons_of_pos (by simp)
    · exact (List.find?_cons_of_neg (by simpa using hy)).trans (ih hl)

theorem find?_foldl_insertBy_other (l m : List α) (h : n ∉ l.map key) :
    (l.foldl (fun m x => insertBy key x m) m).find? (fun y => key y = n) = m.find? fun y => key y = n := by
  induction l generalizing m with
  | nil => rfl
  | cons x l ih =>
    obtain ⟨hx, hl⟩ := not_or.mp (List.mem_cons.not.mp h)
    exact (ih _ hl).trans (find?_insertBy_other m (Ne.symm hx))

theorem find?_foldl_insertBy_new {l m : List α} (hx : x ∈ l) (hl : (l.map key).Nodup)
    (hm : m.find? (fun y => key y = key x) = none) :
    (l.foldl (fun m x => insertBy key x m) m).find? (fun y => key y = key x) = some x := by
  induction l generalizing m with
  | nil => cases hx
  | cons y l ih =>
    obtain ⟨hy, hl⟩ := List.nodup_cons.mp hl
    rcases List.mem_cons.mp hx with rfl | hx
    · exact (find?_foldl_insertBy_other l _ hy).trans (find?_insertBy_new hm)
    · have other : key y ≠ key x := fun he => hy (he ▸ List.mem_map_of_mem hx)
      exact ih hx hl ((find?_insertBy_other m other).trans hm)

end

/-! ### The tables (R70, R78) -/

theorem recomputeSeg_eq (now : Nat) (g : Globals) (l : List Nat) (x : SegSupply) :
    recomputeSeg now g (l.contains x.segment) x =
      if x.segment ∈ l then
        if x.state = .cut ∨ x.state = .depressurized then
          { x with state := .recharging, stateTime := now, reconnectedAt := some now, sampled := [], ventAt := none
                   rechargeAt := some (now + g.recharge) }
        else x
      else if x.state = .live ∨ x.state = .recharging then
        { x with state := .cut, stateTime := now, cutTime := some now, sampled := []
                 ventAt := some (now + g.vent), rechargeAt := none }
      else x := by
  unfold recomputeSeg
  by_cases h : x.segment ∈ l
  · rw [if_pos h, show l.contains x.segment = true by simpa using h]
    cases x.state <;> rfl
  · rw [if_neg h, show l.contains x.segment = false by simpa using h]
    cases x.state <;> rfl

theorem recomputeMoves_eq (s : State) : recomputeMoves s = s.supply.segs.filterMap fun x =>
    if x.segment ∈ s.reachable then
      if x.state = .cut ∨ x.state = .depressurized then some (x.segment, x.state, .recharging) else none
    else if x.state = .live ∨ x.state = .recharging then some (x.segment, x.state, .cut)
    else none := by
  refine congrArg (fun f => s.supply.segs.filterMap f) (funext fun x => ?_)
  by_cases h : x.segment ∈ s.reachable
  · rw [if_pos h, show s.reachable.contains x.segment = true by simpa using h]
    cases x.state <;> rfl
  · rw [if_neg h, show s.reachable.contains x.segment = false by simpa using h]
    cases x.state <;> rfl

section

variable {s : State} {img : Image} {origin : Option Nat} {element : Nat}

/-- The topology of every segment record, where the records are those of the active image. -/
theorem segTopo?_of_segments (hi : s.net.active = some img) (himg : NumbersDistinct img)
    (hs : s.supply.segs.map (·.segment) = img.segments.map (·.number)) {x : SegSupply} (hx : x ∈ s.supply.segs) :
    ∃ t, s.segTopo? x.segment = some t ∧ t.number = x.segment := by
  have hm : x.segment ∈ img.segments.map (·.number) := hs ▸ List.mem_map_of_mem hx
  obtain ⟨t, ht, hn⟩ := List.mem_map.mp hm
  refine ⟨t, ?_, hn⟩
  rw [State.segTopo?, hi, ← hn]
  exact himg.segment? ht

/-- Which entries a recompute opens, and what they say (R78). -/
theorem mem_openedEntries {o : Outage} : o ∈ openedEntries origin element s ↔
    ∃ x ∈ s.supply.segs, x.state = .live ∧ x.segment ∉ s.reachable ∧
      ∃ t, s.segTopo? x.segment = some t ∧ newOutage s.now (outageCauseOf origin element) t = o := by
  simp only [openedEntries, List.mem_filterMap, List.mem_filter, Option.map_eq_some_iff, recomputeMoves_eq,
    decide_eq_true_eq]
  constructor
  · rintro ⟨m, ⟨⟨x, hx, hm⟩, hl⟩, t, ht, ho⟩
    split at hm
    · split at hm
      · next hc =>
        obtain rfl := Option.some.inj hm
        rcases hc with hc | hc <;> rw [hc] at hl <;> cases hl
      · cases hm
    · next hr =>
      split at hm
      · obtain rfl := Option.some.inj hm
        exact ⟨x, hx, hl, hr, t, ht, ho⟩
      · cases hm
  · rintro ⟨x, hx, hl, hr, t, ht, ho⟩
    exact ⟨(x.segment, x.state, .cut), ⟨⟨x, hx, by rw [if_neg hr, if_pos (.inl hl)]⟩, hl⟩, t, ht, ho⟩

/-- The entry of a segment after a recompute (R78). -/
theorem recomputeTables_outage? (hi : s.net.active = some img) (himg : NumbersDistinct img)
    (hs : s.supply.segs.map (·.segment) = img.segments.map (·.number))
    (hfree : ∀ x ∈ s.supply.segs, x.state = .live → s.outage? x.segment = none) {seg : Segment} (hseg : seg ∈ img.segments)
    {x : SegSupply} (hx : s.seg? seg.number = some x) :
    (recomputeTables origin element s).outage? seg.number =
      if x.state = .live ∧ seg.number ∉ s.reachable then some (newOutage s.now (outageCauseOf origin element) seg)
      else s.outage? seg.number := by
  obtain ⟨hn, hmem⟩ : x.segment = seg.number ∧ x ∈ s.supply.segs := key_of_find? SegSupply.segment _ _ _ hx
  have keys : ((openedEntries origin element s).map (·.segment)).Nodup := by
    rw [openedEntries_segments fun _ hy => segTopo?_of_segments hi himg hs hy]
    refine List.Nodup.sublist (List.filter_sublist.map _) ?_
    rw [hs]
    exact himg.segments
  have topo : s.segTopo? seg.number = some seg := by
    rw [State.segTopo?, hi]
    exact himg.segment? hseg
  rw [State.outage?, recomputeTables_outages]
  by_cases hc : x.state = .live ∧ seg.number ∉ s.reachable
  · rw [if_pos hc]
    have opened : newOutage s.now (outageCauseOf origin element) seg ∈ openedEntries origin element s :=
      mem_openedEntries.mpr ⟨x, hmem, hc.1, hn ▸ hc.2, seg, hn ▸ topo, rfl⟩
    have free : s.outage? seg.number = none := hn ▸ hfree x hmem hc.1
    exact find?_foldl_insertBy_new (key := Outage.segment) opened keys free
  · rw [if_neg hc]
    refine find?_foldl_insertBy_other (key := Outage.segment) _ _ fun hm => hc ?_
    obtain ⟨o, ho, hon⟩ := List.mem_map.mp hm
    obtain ⟨y, hy, hl, hr, t, ht, rfl⟩ := mem_openedEntries.mp ho
    obtain ⟨t', ht', hy'⟩ := segTopo?_of_segments hi himg hs hy
    obtain rfl := Option.some.inj (ht.symm.trans ht')
    have same : y.segment = seg.number := hy'.symm.trans hon
    have found : s.seg? seg.number = some y := by
      rw [← same]
      exact find?_of_mem_nodup SegSupply.segment _ (by rw [hs]; exact himg.segments) y hy
    obtain rfl := Option.some.inj (found.symm.trans hx)
    exact ⟨hl, same ▸ hr⟩

end

/-! ### What is told (R71, R82) -/

/-- The notice of one move, by the entries of another state with the same tables. -/
theorem moveNotice_of_frame {u t : State} (h : u = { t with control := u.control }) (m : Nat × SupplyState × SupplyState) :
    moveNotice u m = match t.outage? m.1 with
      | none => u
      | some o => passNotice (.outage
          { segment := o.segment, event := if m.2.1 = .live then .opened else .state, oldState := m.2.1, state := m.2.2
            openedAt := o.openedAt, cause := o.cause, customers := o.customers
            minutes := min (o.customers * ((t.partTime.toNat - o.openedAt) / 60)) 4294967295
            clearance := o.clearance, basis := t.net.basis }) u := by
  have entry : u.outage? m.1 = t.outage? m.1 := by rw [h]; rfl
  have time : u.partTime = t.partTime := by rw [h]
  have net : u.net = t.net := by rw [h]
  unfold moveNotice
  rw [entry]
  cases t.outage? m.1 with
  | none => rfl
  | some o => simp only [outageNotice, Outage.figure, State.now, time, net] <;> rfl

theorem foldl_congr_of_keeps {α β : Type} {f g : β → α → β} {P : β → Prop} (hP : ∀ b a, P b → P (f b a))
    (h : ∀ b a, P b → f b a = g b a) (l : List α) {b : β} (hb : P b) : l.foldl f b = l.foldl g b := by
  induction l generalizing b with
  | nil => rfl
  | cons a l ih => rw [List.foldl_cons, List.foldl_cons, ← h b a hb, ih (hP b a hb)]

/-- Settles O47: the tables of a recompute, what it tells, and its hand-ons. -/
theorem recomputeMovesSegmentsAndOpensEntries : Obligations.RecomputeMovesSegmentsAndOpensEntries := by
  refine ⟨fun s img origin element hi himg hs hfree => ?_, fun s origin element => ?_⟩
  · intro t now
    refine ⟨List.map_congr_left fun x _ => recomputeSeg_eq _ _ _ x, fun seg hseg x hx => ?_,
      rfl, rfl, rfl, rfl, rfl, rfl, rfl⟩
    have entry := recomputeTables_outage? (origin := origin) (element := element) hi himg hs hfree hseg hx
    refine ⟨fun hl hr => ?_, fun hc => entry.trans (if_neg hc)⟩
    refine entry.trans ((if_pos ⟨hl, hr⟩).trans ?_)
    cases origin <;> rfl
  · intro moves t told raised
    have moves_eq : recomputeMoves s = moves := recomputeMoves_eq s
    have told_eq : moves.foldl moveNotice t = told :=
      foldl_congr_of_keeps (P := fun u : State => u = { t with control := u.control })
        (fun u m hu => by rw [moveNotice_frame]; exact congrArg (fun v : State => { v with control := (moveNotice u m).control }) hu)
        (fun u m hu => moveNotice_of_frame hu m) moves rfl
    have all (hook : State → State) : recompute origin element hook s = moves.foldl (fun u _ => hook u) raised := by
      unfold recompute
      dsimp only
      rw [moves_eq, told_eq]
    have alone : recompute origin element id s = raised := by
      rw [all]
      induction moves with
      | nil => rfl
      | cons m l ih => exact ih
    exact ⟨all, alone, fun h => (recompute_quiet h (fun _ ht => recordPassTop_quiet _ ht) origin element).trans alone⟩

end Sys2Proof.Machine

/-! SUPPORT. Judgements of a segment's supply, minutes and clearances (O49). -/

namespace Sys2Proof.Machine

/-! ### The conditions of the judgements (R73, R74) -/

/-- A GOOD point of a segment, with its record. -/
@[reducible] def GoodPoint (s : State) (n : Nat) (r : PointRec) : Prop :=
  (∃ t ∈ s.pointsOf, t.segment = n ∧ s.point? t.number = some r) ∧ r.quality = .good

theorem mem_goodPoints {s : State} {n : Nat} {r : PointRec} : r ∈ goodPoints s n ↔ GoodPoint s n r := by
  simp only [goodPoints, GoodPoint, List.mem_filterMap, List.mem_filter, Option.filter_eq_some_iff, decide_eq_true_eq]
  constructor
  · rintro ⟨t, ⟨ht, hn⟩, hr, hq⟩
    exact ⟨⟨t, ht, hn, hr⟩, hq⟩
  · rintro ⟨⟨t, ht, hn, hr⟩, hq⟩
    exact ⟨t, ⟨ht, hn⟩, hr, hq⟩

/-- A judgement goes by time where there is nothing to judge by, and by all there is otherwise. -/
theorem judged_iff {α : Type} {l : List α} {P : α → Prop} (hP : ∀ r, r ∈ l ↔ P r) {c : Bool} {p : α → Bool} :
    (if l.isEmpty then c else l.all p) = true ↔ ((∀ r, ¬P r) ∧ c = true) ∨ ((∃ r, P r) ∧ ∀ r, P r → p r = true) := by
  simp only [← hP]
  cases l with
  | nil => simp
  | cons a l =>
    simp only [List.isEmpty_cons, Bool.false_eq_true, if_false, List.all_eq_true]
    constructor
    · exact fun h => .inr ⟨⟨a, List.mem_cons_self⟩, h⟩
    · rintro (⟨h, -⟩ | ⟨-, h⟩)
      · exact absurd List.mem_cons_self (h a)
      · exact h

theorem emptied_iff {s : State} {x : SegSupply} : emptied s x = true ↔
    ((∀ r, ¬GoodPoint s x.segment r) ∧ x.cutTime.getD 0 + s.supply.globals.vent ≤ s.partTime.toNat) ∨
    ((∃ r, GoodPoint s x.segment r) ∧ ∀ r, GoodPoint s x.segment r →
      r.number ∈ x.sampled ∧ ∃ f, r.f = some f ∧ f < (s.supply.globals.dead : Int)) := by
  unfold emptied
  dsimp only
  rw [judged_iff fun r => mem_goodPoints]
  simp only [Bool.and_eq_true, List.contains_eq_mem, decide_eq_true_eq, Option.any_eq_true] <;> rfl

theorem refilled_iff {s : State} {x : SegSupply} : refilled s x = true ↔
    ((∀ r, ¬GoodPoint s x.segment r) ∧ x.reconnectedAt.getD 0 + s.supply.globals.recharge ≤ s.partTime.toNat) ∨
    ((∃ r, GoodPoint s x.segment r) ∧ ∀ r, GoodPoint s x.segment r →
      r.number ∈ x.sampled ∧ (r.band = .normal ∨ r.band = .high ∨ r.band = .highHigh)) := by
  unfold refilled
  dsimp only
  rw [judged_iff fun r => mem_goodPoints]
  simp only [Bool.and_eq_true, List.contains_eq_mem, decide_eq_true_eq, Bool.or_eq_true, or_assoc] <;> rfl

/-! ### The moves of the judgements (R73, R74, R82) -/

/-- The values of an OUTAGE notice (R82). -/
def outageBody (event : OutageEvent) (old new : SupplyState) (o : Outage) (s : State) : NoticeBody :=
  .outage { segment := o.segment, event := event, oldState := old, state := new, openedAt := o.openedAt, cause := o.cause
            customers := o.customers, minutes := min (o.customers * ((s.partTime.toNat - o.openedAt) / 60)) 4294967295
            clearance := o.clearance, basis := s.net.basis }

theorem outageNotice_eq (event : OutageEvent) (old new : SupplyState) (o : Outage) (s : State) :
    outageNotice event old new o s = passNotice (outageBody event old new o s) s := rfl

theorem passNotice_with_supply (b : NoticeBody) (s : State) (y : SupplyTracker) :
    passNotice b { s with supply := y } = { passNotice b s with supply := y } := by
  rw [passNotice_frame b s]
  exact (passNotice_aside b s { s with supply := y } rfl rfl).symm

section

variable {s : State} {n : Nat} {o : Outage}

theorem becomeDepressurized_eq (hook : State → State) (ho : s.outage? n = some o) :
    becomeDepressurized hook n s = hook (passNotice (outageBody .state .cut .depressurized o s)
      (s.updSeg n fun y => { y with state := .depressurized, stateTime := s.partTime.toNat, ventAt := none })) := by
  have here : (s.updSeg n fun y => { y with state := .depressurized, stateTime := s.now, ventAt := none }).outage? n =
      some o := ho
  unfold becomeDepressurized
  dsimp only
  rw [here]
  rfl

/-- The supply tables with a segment made LIVE and its entry freed. -/
def refilledTables (s : State) (n : Nat) : SupplyTracker :=
  { s.supply with
    outages := s.supply.outages.filter fun y => y.segment ≠ n
    segs := s.supply.segs.map fun y => if y.segment = n then
        { y with state := .live, stateTime := s.partTime.toNat, cutTime := none, reconnectedAt := none, sampled := []
                 rechargeAt := none }
      else y }

theorem becomeLive_eq (hook : State → State) (ho : s.outage? n = some o) :
    becomeLive hook n s = hook (passNotice (outageBody .closed .recharging .live o s)
      { s with supply := refilledTables s n }) := by
  have here : (s.updSeg n fun y => { y with state := .live, stateTime := s.now, cutTime := none, reconnectedAt := none
                                            sampled := [], rechargeAt := none }).outage? n = some o := ho
  unfold becomeLive
  dsimp only
  rw [here]
  dsimp only
  rw [outageNotice_eq, passNotice_supply, ← passNotice_with_supply]
  rfl

/-! ### Samples (R72) -/

theorem mem_joinSampled {p m : Nat} {l : List Nat} : m ∈ joinSampled p l ↔ m = p ∨ m ∈ l := by
  unfold joinSampled
  split
  · next h =>
    constructor
    · exact .inr
    · rintro (rfl | hm)
      · exact h
      · exact hm
  · exact mem_insertBy id p m l

theorem judgeSegment_cut {x : SegSupply} (hook : State → State) (hx : s.seg? n = some x) (hc : x.state = .cut) :
    judgeSegment hook n s = if emptied s x = true then becomeDepressurized hook n s else s := by
  simp only [judgeSegment, hx, hc]

theorem judgeSegment_recharging {x : SegSupply} (hook : State → State) (hx : s.seg? n = some x) (hc : x.state = .recharging) :
    judgeSegment hook n s = if refilled s x = true then becomeLive hook n s else s := by
  simp only [judgeSegment, hx, hc]

theorem State.seg?_segment {x : SegSupply} (hx : s.seg? n = some x) : x.segment = n :=
  (key_of_find? SegSupply.segment _ _ _ hx).1

theorem State.seg?_updSeg {x : SegSupply} {g : SegSupply → SegSupply} (hg : ∀ y, (g y).segment = y.segment)
    (hx : s.seg? n = some x) : (s.updSeg n g).seg? n = some (g x) := by
  have found := find?_upd SegSupply.segment n n g (fun y hy => (hg y).trans hy) s.supply.segs
  refine found.trans ?_
  rw [show s.supply.segs.find? (fun y => decide (y.segment = n)) = some x from hx, Option.map_some,
    if_pos (State.seg?_segment hx)]

/-- Two updates of one record are one. -/
theorem map_upd_upd {α : Type} (key : α → Nat) {f g : α → α} (hg : ∀ y, key (g y) = key y) (l : List α) :
    (l.map fun y => if key y = n then g y else y).map (fun y => if key y = n then f y else y) =
      l.map fun y => if key y = n then f (g y) else y := by
  rw [List.map_map]
  refine List.map_congr_left fun y _ => ?_
  by_cases h : key y = n
  · simp [h, hg]
  · simp [h]

/-- An update of the only record of a segment, by what it makes of that record. -/
theorem map_upd_at {x : SegSupply} {g f : SegSupply → SegSupply} {l : List SegSupply}
    (hx : l.find? (fun y => y.segment = n) = some x) (hl : (l.map (·.segment)).Nodup) (h : g x = f x) :
    (l.map fun y => if y.segment = n then g y else y) = l.map fun y => if y.segment = n then f y else y := by
  refine List.map_congr_left fun y hy => ?_
  by_cases hn : y.segment = n
  · have found := find?_of_mem_nodup SegSupply.segment l hl y hy
    rw [hn] at found
    obtain rfl := Option.some.inj (found.symm.trans hx)
    rw [if_pos hn, if_pos hn, h]
  · rw [if_neg hn, if_neg hn]

end

/-! ### The timers (R75, R79) -/

section

variable {s : State} {n m : Nat} {x : SegSupply}

theorem exec_ventTimerExpiry (hp : s.power = .running) (hx : s.seg? n = some x) (ht : x.ventAt = some m)
    (hm : m ≤ s.partTime.toNat) (hc : x.state = .cut) :
    exec (.ventTimerExpiry n) s = .next (if emptied s x = true then
        startLine (inEvent (becomeDepressurized (recordPassTop .plain) n) s)
      else s.updSeg n fun y => { y with ventAt := some (s.partTime.toNat + s.supply.globals.vent) }) := by
  have elapsed : due s.now x.ventAt = true := by rw [ht]; exact due_iff.mpr hm
  simp only [exec, execVentTimerExpiry, (running_iff s).mpr hp, if_true, ventTimer, hx, Option.any_some, elapsed, ventExpiry,
    hc, true_and]
  rfl

theorem exec_rechargeTimerExpiry (hp : s.power = .running) (hx : s.seg? n = some x) (ht : x.rechargeAt = some m)
    (hm : m ≤ s.partTime.toNat) (hc : x.state = .recharging) :
    exec (.rechargeTimerExpiry n) s = .next (if refilled s x = true then
        startLine (inEvent (becomeLive (recordPassTop .plain) n) s)
      else s.updSeg n fun y => { y with rechargeAt := some (s.partTime.toNat + s.supply.globals.recharge) }) := by
  have elapsed : due s.now x.rechargeAt = true := by rw [ht]; exact due_iff.mpr hm
  simp only [exec, execRechargeTimerExpiry, (running_iff s).mpr hp, if_true, rechargeTimer, hx, Option.any_some, elapsed,
    rechargeExpiry, hc, true_and]
  rfl

/-- A judgement with nothing in hand, as one event. -/
theorem inEvent_becomeDepressurized {o : Outage} (hq : Quiet s) (ho : s.outage? n = some o) :
    inEvent (becomeDepressurized (recordPassTop .plain) n) s = passNotice (outageBody .state .cut .depressurized o s)
      (s.updSeg n fun y => { y with state := .depressurized, stateTime := s.partTime.toNat, ventAt := none }) := by
  refine inEvent_notices (l := [outageBody .state .cut .depressurized o s])
    (t := s.updSeg n fun y => { y with state := .depressurized, stateTime := s.partTime.toNat, ventAt := none })
    (fun c => ?_) (List.pairwise_singleton _ _)
  rw [becomeDepressurized_eq (s := { s with control := c }) _ ho, recordPassTop_quiet]
  · rfl
  · exact hq.congr (by rw [passNotice_register]; rfl) (by rw [passNotice_net]; rfl)

theorem inEvent_becomeLive {o : Outage} (hq : Quiet s) (ho : s.outage? n = some o) :
    inEvent (becomeLive (recordPassTop .plain) n) s = passNotice (outageBody .closed .recharging .live o s)
      { s with supply := refilledTables s n } := by
  refine inEvent_notices (l := [outageBody .closed .recharging .live o s]) (t := { s with supply := refilledTables s n })
    (fun c => ?_) (List.pairwise_singleton _ _)
  rw [becomeLive_eq (s := { s with control := c }) _ ho, recordPassTop_quiet]
  · rfl
  · exact hq.congr (by rw [passNotice_register]) (by rw [passNotice_net])

end

/-! ### Clearances (R80) -/

section

variable {s : State} {n : Nat} {x : SegSupply} {o : Outage}

theorem recordClearance_quiet (hq : Quiet s) (ho : s.outage? n = some o) : recordClearance x o s =
    passNotice (outageBody .cleared x.state x.state { o with clearance := some s.partTime.toNat } s)
      { s with supply := { s.supply with outages := s.supply.outages.map fun y =>
        if y.segment = n then { o with clearance := some s.partTime.toNat } else y } } := by
  obtain rfl : o.segment = n := (key_of_find? Outage.segment _ _ _ ho).1
  unfold recordClearance
  dsimp only
  rw [recordPassTop_quiet]
  · rfl
  · exact hq.congr (by rw [outageNotice_eq, passNotice_register]; rfl) (by rw [outageNotice_eq, passNotice_net]; rfl)

end

/-- A sample joins the set and makes the judgement, where gas is leaving or returning (R72). -/
theorem sampleEvent_joined {s : State} {n p : Nat} {x : SegSupply} (hook : State → State) (hx : s.seg? n = some x)
    (hs : x.state = .cut ∨ x.state = .recharging) (hl : (s.supply.segs.map (·.segment)).Nodup) :
    sampleEvent hook p n s =
      judgeSegment hook n (s.updSeg n fun y => { y with sampled := joinSampled p x.sampled }) := by
  have joined : (s.updSeg n fun y => { y with sampled := joinSampled p y.sampled }) =
      s.updSeg n fun y => { y with sampled := joinSampled p x.sampled } :=
    congrArg (fun l => { s with supply := { s.supply with segs := l } })
      (map_upd_at (g := fun y => { y with sampled := joinSampled p y.sampled })
        (f := fun y => { y with sampled := joinSampled p x.sampled }) hx hl rfl)
  unfold sampleEvent
  rw [hx, ← joined]
  rcases hs with hs | hs <;> simp only [hs]

/-- Settles O49: the judgements of a segment by samples and timers, the minutes and the clearances. -/
theorem supplyTimersJudgeByTimeWithoutAGoodPoint : Obligations.SupplyTimersJudgeByTimeWithoutAGoodPoint := by
  refine ⟨fun s n x hx => ?_, fun s n o hp ho hm => ?_, fun s tag n img seg x ha hi hseg hx => ?_⟩
  · intro now good empties refills changed told emptied' refilled'
    have segment : x.segment = n := State.seg?_segment hx
    have empties_iff {y : SegSupply} (hy : y.segment = n) {cutAt : Nat} (hc : y.cutTime = some cutAt) :
        emptied s y = true ↔ empties y.sampled cutAt := by
      rw [emptied_iff, hy, hc]
      exact .rfl
    have refills_iff {y : SegSupply} (hy : y.segment = n) {backAt : Nat} (hc : y.reconnectedAt = some backAt) :
        refilled s y = true ↔ refills y.sampled backAt := by
      rw [refilled_iff, hy, hc]
      exact .rfl
    refine ⟨fun due cutAt hp hs ht hd hc => ?_, fun due backAt hp hs ht hd hc => ?_, fun hook p hs => ?_, fun hook p hs hl => ?_⟩
    · rw [exec_ventTimerExpiry hp hx ht hd hs]
      refine ⟨fun o he hq ho => ?_, fun he => ?_⟩
      · rw [if_pos ((empties_iff segment hc).mpr he), inEvent_becomeDepressurized hq ho]
        exact congrArg (fun u => Host.Outcome.next (startLine u)) (passNotice_with_supply _ s _)
      · rw [if_neg fun h => he ((empties_iff segment hc).mp h)]
        rfl
    · rw [exec_rechargeTimerExpiry hp hx ht hd hs]
      refine ⟨fun o he hq ho => ?_, fun he => ?_⟩
      · rw [if_pos ((refills_iff segment hc).mpr he), inEvent_becomeLive hq ho]
        exact congrArg (fun u => Host.Outcome.next (startLine u)) (passNotice_with_supply _ s _)
      · rw [if_neg fun h => he ((refills_iff segment hc).mp h)]
        rfl
    · unfold sampleEvent
      rw [hx]
      rcases hs with hs | hs <;> simp only [hs]
    · refine ⟨joinSampled p x.sampled, fun m => mem_joinSampled, ?_⟩
      intro joined
      have found : joined.seg? n = some { x with sampled := joinSampled p x.sampled } :=
        State.seg?_updSeg (g := fun y => { y with sampled := joinSampled p x.sampled }) (fun _ => rfl) hx
      refine ⟨fun cutAt hs hc => ?_, fun backAt hs hc => ?_⟩
      · have judged : sampleEvent hook p n s =
            if emptied joined { x with sampled := joinSampled p x.sampled } = true
            then becomeDepressurized hook n joined else joined :=
          (sampleEvent_joined hook hx (.inl hs) hl).trans (judgeSegment_cut hook found hs)
        have iff : emptied joined { x with sampled := joinSampled p x.sampled } = true ↔ empties (joinSampled p x.sampled) cutAt :=
          empties_iff (y := { x with sampled := joinSampled p x.sampled }) segment hc
        rw [judged]
        refine ⟨fun o he ho => ?_, fun he => if_neg fun h => he (iff.mp h)⟩
        rw [if_pos (iff.mpr he), becomeDepressurized_eq (s := joined) hook ho]
        refine congrArg hook (.trans ?_ (passNotice_with_supply _ s _))
        have once := map_upd_upd (n := n) SegSupply.segment
          (f := fun y => { y with state := .depressurized, stateTime := now, ventAt := none })
          (g := fun y => { y with sampled := joinSampled p x.sampled }) (fun _ => rfl) s.supply.segs
        exact congrArg (fun l => passNotice (outageBody .state .cut .depressurized o s)
          { s with supply := { s.supply with segs := l } }) once
      · have judged : sampleEvent hook p n s =
            if refilled joined { x with sampled := joinSampled p x.sampled } = true
            then becomeLive hook n joined else joined :=
          (sampleEvent_joined hook hx (.inr hs) hl).trans (judgeSegment_recharging hook found hs)
        have iff : refilled joined { x with sampled := joinSampled p x.sampled } = true ↔ refills (joinSampled p x.sampled) backAt :=
          refills_iff (y := { x with sampled := joinSampled p x.sampled }) segment hc
        rw [judged]
        refine ⟨fun o he ho => ?_, fun he => if_neg fun h => he (iff.mp h)⟩
        rw [if_pos (iff.mpr he), becomeLive_eq (s := joined) hook ho]
        refine congrArg hook (.trans ?_ (passNotice_with_supply _ s _))
        have once := map_upd_upd (n := n) SegSupply.segment
          (f := fun y => { y with state := .live, stateTime := now, cutTime := none, reconnectedAt := none, sampled := []
                                  rechargeAt := none })
          (g := fun y => { y with sampled := joinSampled p x.sampled }) (fun _ => rfl) s.supply.segs
        exact congrArg (fun l => passNotice (outageBody .closed .recharging .live o s)
          { s with supply := { s.supply with outages := s.supply.outages.filter fun y => y.segment ≠ n, segs := l } }) once
  · have elapsed : decide (o.minuteAt ≤ s.now) = true := decide_eq_true hm
    simp only [exec, execCustomerMinute, (running_iff s).mpr hp, if_true, customerMinute, ho, Option.any_some, elapsed]
    rfl
  · intro now
    have served (d : ControlPort) (hs : x.state = .cut ∨ x.state = .depressurized) {o : Outage} (ho : s.outage? n = some o) :
        serveOutageClear n { s with control := d } = (if o.clearance.isNone then recordClearance x o { s with control := d }
          else { s with control := d }, .done .nothing) := by
      have here : State.outage? { s with control := d } n = some o := ho
      rw [serveOutageClear, withSegment_at d _ hi hseg hx]
      rw [here]
      rcases hs with hs | hs <;> rw [hs]
    refine ⟨fun o ho hq hs hc => ?_, fun o ho hs hc => ?_, fun hs => ?_⟩
    · refine (Asks.outageClear tag n).exec_notice ha (t := { s with supply := { s.supply with
        outages := s.supply.outages.map fun y =>
          if y.segment = n then { o with clearance := some now } else y } }) fun d => ?_
      rw [served d hs ho, hc]
      exact congrArg (·, ReplyBody.done .nothing) (recordClearance_quiet (s := { s with control := d }) (hq.congr rfl rfl) ho)
    · refine (Asks.outageClear tag n).exec_same ha fun d => ?_
      rw [served d hs ho, if_neg (by simpa using hc)]
    · refine (Asks.outageClear tag n).exec_same ha fun d => ?_
      rw [serveOutageClear, withSegment_at d _ hi hseg hx]
      rcases hs with hs | hs <;> rw [hs] <;> rfl

end Sys2Proof.Machine

/-! SUPPORT. What the read requests answer (O58). -/

namespace Sys2Proof.Machine

theorem operable_iff {s : State} {e : Element} {r : ElementRec} (hr : s.element? e.number = some r) : s.operable e = true ↔
    e.defective = false ∧ r.faultMark = false ∧ (e.cls = .manual ∨
      (e.cls = .remote ∧ (∃ st, s.station? e.station = some st ∧ st.state = .reporting) ∧
        r.state ≠ .unknown ∧ r.state ≠ .fault ∧ r.unconfirmed = false)) := by
  unfold State.operable
  rw [hr]
  cases e.cls with
  | manual => simp
  | remote => simp [and_assoc, Option.any_eq_true]

section

variable {s : State} {img : Image} {n : Nat}

/-- The values of a STATION_READ by the address read (R41). -/
theorem stationResult_at {x : StationTopo} {st : Station} (hst : s.station? n = some st) : stationResult img x st s =
    { address := n, mode := x.mode, limit := x.limit, state := st.state, localFlag := st.localFlag
      lastAccepted := st.lastAccepted, lastApplied := st.lastApplied, silenceAt := st.silenceAt
      elements := (img.elements.filter fun e => e.cls = .remote ∧ e.station = n).length
      points := (img.points.filter fun p => p.station = n).length
      tag := match s.flightOf? n with
        | some o => o.tag
        | none => 0 } := by
  obtain rfl : st.address = n := (key_of_find? Station.address _ _ _ hst).1
  unfold stationResult
  cases s.flightOf? st.address <;> simp

/-- The values of an ELEMENT_READ by the number read (R133). -/
theorem elementResult_at {e : Element} {r : ElementRec} (he : img.element? n = some e) : elementResult e r s =
    { topo := e, record := r, passable := decide (r.state ≠ .closed), operable := s.operable e
      order := match s.orderOf? n with
        | some o => o.number
        | none => 0
      orderState := (s.orderOf? n).map (·.state)
      isoIndex := (s.recordHolding n).map (· + 1) } := by
  obtain rfl : e.number = n := (Image.element?_mem he).2
  unfold elementResult ElementState.passes
  cases s.orderOf? e.number <;> rfl

/-- The values of a SEGMENT_READ by the number read (R83). -/
theorem segmentResult_at {t : Segment} {x : SegSupply} (hi : s.net.active = some img) (ht : img.segment? n = some t) :
    segmentResult t x s =
      { topo := t, supply := x
        points := (img.points.filter fun p => p.segment = n).filterMap fun p =>
          (s.point? p.number).map fun r => (p.number, r.quality)
        hasOutage := (s.outage? n).isSome } := by
  obtain rfl : t.number = n := (key_of_find? Segment.number _ _ _ ht).1
  unfold segmentResult State.pointsOf
  rw [hi]
  rfl

/-- A line of the isolation summary (R166). -/
theorem isoLine_eq (r : IsoRecord) : isoLine s r =
    { incident := r.incident
      status := match s.incident? r.incident with
        | some i => i.isoStatus
        | none => .none
      entries := r.entries.length
      zone := r.zone.length
      steps := [.toClose, .crewClose, .closed, .closeFailed, .heldForClearance, .opening, .crewOpen, .reopened,
        .openFailed].map fun y => (r.entries.filter fun e => e.step = y).length } := by
  unfold isoLine
  cases s.incident? r.incident <;> rfl

end

/-- Settles O58: the reads answer from the tables and change nothing. -/
theorem readsAnswerFromTheTablesAndChangeNothing : Obligations.ReadsAnswerFromTheTablesAndChangeNothing := by
  refine ⟨fun s e r => operable_iff, fun s tag img ha hi => ⟨fun n t r ht hr => ?_, fun a x st hx hst => ?_, ?_,
    fun n e r he hr => ?_, fun n t x ht hx => ?_, fun a => ?_, fun n i hn hinc => ?_, fun n hn hinc => ?_, ?_,
    fun n r h1 h8 hr => ?_, fun n h1 h8 hr => ?_, fun n h8 => ?_, ?_⟩⟩
  · exact (Asks.pointRead tag n).exec_same ha fun d => withPoint_at d _ hi ht hr
  · refine (Asks.stationRead tag a).exec_same ha fun d => ?_
    have here : State.station? { s with control := d } a = some st := hst
    rw [serveStationRead, needImage_at d _ hi, hx, here]
    exact congrArg (fun v => (({ s with control := d } : State), ReplyBody.done (.station v)))
      (stationResult_at (s := { s with control := d }) hst)
  · exact (Asks.orderRead tag ()).exec_same ha fun d => needImage_at d _ hi
  · refine (Asks.elementRead tag n).exec_same ha fun d => ?_
    rw [serveElementRead, withElement_at d _ hi he hr]
    exact congrArg (fun v => (({ s with control := d } : State), ReplyBody.done (.element v)))
      (elementResult_at (s := { s with control := d }) he)
  · refine (Asks.segmentRead tag n).exec_same ha fun d => ?_
    rw [serveSegmentRead, withSegment_at d _ hi ht hx]
    exact congrArg (fun v => (({ s with control := d } : State), ReplyBody.done (.segment v)))
      (segmentResult_at (s := { s with control := d }) hi ht)
  · exact (Asks.outageRead tag a).exec_same ha fun d => needImage_at d _ hi
  · refine (Asks.incidentRead tag n).exec_same ha fun d => ?_
    have here : State.incident? { s with control := d } n = some i := hinc
    rw [serveIncidentRead, needImage_at d _ hi, if_neg hn, here]
  · refine (Asks.incidentRead tag n).exec_same ha fun d => ?_
    have here : State.incident? { s with control := d } n = none := hinc
    rw [serveIncidentRead, needImage_at d _ hi, if_neg hn, here]
    rfl
  · refine ⟨(sortBy (·.number) s.incidentList).map incidentLine, (sortBy_perm _ _).map _, ?_, ?_⟩
    · rw [List.map_map]
      exact List.pairwise_map.mpr (sortBy_ascending Incident.number s.incidentList)
    · exact (Asks.incidentRead tag 0).exec_same ha fun d => needImage_at d _ hi
  · refine (Asks.isolationRead tag n).exec_same ha fun d => ?_
    have here : State.record? { s with control := d } (n - 1) = some r := hr
    rw [serveIsolationRead, needImage_at d _ hi, if_neg (by simpa [Config.recordLimit] using h8), if_neg (by omega), here]
    rfl
  · refine (Asks.isolationRead tag n).exec_same ha fun d => ?_
    have here : State.record? { s with control := d } (n - 1) = none := hr
    rw [serveIsolationRead, needImage_at d _ hi, if_neg (by simpa [Config.recordLimit] using h8), if_neg (by omega), here]
    rfl
  · refine (Asks.isolationRead tag n).exec_same ha fun d => ?_
    rw [serveIsolationRead, needImage_at d _ hi, if_pos (by simpa [Config.recordLimit] using h8)]
    rfl
  · refine (Asks.isolationRead tag 0).exec_same ha fun d => ?_
    rw [serveIsolationRead, needImage_at d _ hi, if_neg (Nat.not_lt_zero _), if_pos rfl]
    have lines : isoLine { s with control := d } = _ := funext fun r => isoLine_eq r
    rw [lines]
    rfl

end Sys2Proof.Machine

/-! SUPPORT. The plan buffer and its requests (O54). -/

namespace Sys2Proof.Machine

theorem plannable_iff (i : Incident) :
    plannable i = true ↔ i.state ≠ .closed ∧ (i.isoStatus = .none ∨ i.isoStatus = .partially) := by
  simp [plannable]

/-- An activating moment with no PENDING image. -/
theorem activateTop_nothing {s : State} (c : Ctx) (h : ∀ j, s.net.standby ≠ .pending j) : activateTop c s = s := by
  unfold activateTop activateIfDue
  split
  · next j hj => exact absurd hj (h j)
  all_goals rfl

theorem PlanSection.ofCode_eq_none {n : Nat} (h : n = 0 ∨ 3 < n) : PlanSection.ofCode n = none := by
  match n, h with
  | 0, _ => rfl
  | 1, h | 2, h | 3, h => omega
  | n + 4, _ => rfl

theorem PlanSection.ofCode_isSome {n : Nat} (h1 : 1 ≤ n) (h3 : n ≤ 3) : ∃ x, PlanSection.ofCode n = some x := by
  match n, h1, h3 with
  | 1, _, _ => exact ⟨_, rfl⟩
  | 2, _, _ => exact ⟨_, rfl⟩
  | 3, _, _ => exact ⟨_, rfl⟩

/-- A computation leaves what the plan says of its acceptance. -/
theorem computePlan_keeps (img : Image) (c : PlanCopy) (p : Plan) :
    (computePlan img c p).number = p.number ∧ (computePlan img c p).incident = p.incident ∧
    (computePlan img c p).target = p.target ∧ (computePlan img c p).startBasis = p.startBasis := by
  unfold computePlan
  dsimp only
  split <;> exact ⟨rfl, rfl, rfl, rfl⟩

section

variable {s : State} {img : Image} {i : Incident} {n : Nat} (d : ControlPort)

theorem servePlan_at (hi : s.net.active = some img) (hn : s.incident? n = some i) :
    servePlan n { s with control := d } =
      if !plannable i then refuse .state { s with control := d }
      else match s.planner.buffer with
        | .computing _ _ => refuse .busy { s with control := d }
        | .held _ => refuse .held { s with control := d }
        | .empty => (acceptPlan img i { s with control := d }, .accepted (.planned s.planner.nextPlan)) := by
  have here : State.incident? { s with control := d } n = some i := hn
  rw [servePlan, needImage_at d _ hi, here] <;> rfl

theorem servePlan_refused (hi : s.net.active = some img) (hn : s.incident? n = some i)
    (h : ¬(i.state ≠ .closed ∧ (i.isoStatus = .none ∨ i.isoStatus = .partially))) :
    servePlan n { s with control := d } = refuse .state { s with control := d } := by
  rw [servePlan_at d hi hn, if_pos (by rw [Bool.not_eq_true', ← Bool.not_eq_true, plannable_iff]; exact h)]

theorem servePlan_admitted (hi : s.net.active = some img) (hn : s.incident? n = some i)
    (h : i.state ≠ .closed ∧ (i.isoStatus = .none ∨ i.isoStatus = .partially)) :
    servePlan n { s with control := d } = match s.planner.buffer with
      | .computing _ _ => refuse .busy { s with control := d }
      | .held _ => refuse .held { s with control := d }
      | .empty => (acceptPlan img i { s with control := d }, .accepted (.planned s.planner.nextPlan)) := by
  rw [servePlan_at d hi hn, if_neg (by rw [(plannable_iff i).mpr h]; exact Bool.false_ne_true)]

end

/-- Settles O54: the plan buffer from EMPTY through COMPUTING to HELD, and back. -/
theorem planBufferGoesFromEmptyThroughComputingToHeld : Obligations.PlanBufferGoesFromEmptyThroughComputingToHeld := by
  refine ⟨fun s tag n img i ha hi hn hst hiso hb => ?_, fun s tag n img ha hi => ⟨fun hn => ?_, fun i hn => ?_⟩,
    fun s tag a img ha hi => ⟨fun hpart => ?_, fun h1 h3 hheld => ?_⟩,
    fun s tag n img ha hi => ⟨fun hb => ?_, fun p hb hp => ?_, fun p c hb hp => ?_⟩,
    fun s tag a img p ha hi hb hpart => ?_, fun s tag img p ha hi hb => ?_, fun s tag img p c ha hi hb => ?_,
    fun s img p c hp hi hb ht => ?_, fun s p c hb ht => ?_⟩
  · obtain rfl : i.number = n := (State.incident?_mem hn).2
    dsimp only
    refine (Asks.plan tag i.number).exec_change (t := acceptPlan img i s) ha fun d => ?_
    rw [servePlan_admitted d hi hn ⟨hst, hiso⟩, hb]
    rfl
  · refine (Asks.plan tag n).exec_same ha fun d => ?_
    have here : State.incident? { s with control := d } n = none := hn
    rw [servePlan, needImage_at d _ hi, here]
    rfl
  · refine ⟨fun hno => ?_, fun p c hok hb => ?_, fun p hok hb => ?_⟩
    · exact (Asks.plan tag n).exec_same ha fun d => servePlan_refused d hi hn hno
    · exact (Asks.plan tag n).exec_same ha fun d => by rw [servePlan_admitted d hi hn hok, hb]; rfl
    · exact (Asks.plan tag n).exec_same ha fun d => by rw [servePlan_admitted d hi hn hok, hb]; rfl
  · refine (Asks.planRead tag a).exec_same ha fun d => ?_
    rw [servePlanRead, needImage_at d _ hi, PlanSection.ofCode_eq_none hpart]
    rfl
  · refine (Asks.planRead tag a).exec_same ha fun d => ?_
    obtain ⟨x, hx⟩ := PlanSection.ofCode_isSome h1 h3
    rw [servePlanRead, needImage_at d _ hi, hx]
    dsimp only
    cases hb : s.planner.buffer with
    | held p => exact absurd hb (hheld p)
    | empty => rfl
    | computing p c => rfl
  · refine (Asks.planCancel tag n).exec_same ha fun d => ?_
    rw [servePlanCancel, needImage_at d _ hi]
    dsimp only
    rw [hb]
    rfl
  · refine (Asks.planCancel tag n).exec_same ha fun d => ?_
    rw [servePlanCancel, needImage_at d _ hi]
    dsimp only
    rw [hb]
    exact if_neg hp
  · refine (Asks.planCancel tag n).exec_same ha fun d => ?_
    rw [servePlanCancel, needImage_at d _ hi]
    dsimp only
    rw [hb]
    exact if_neg hp
  · dsimp only
    refine (Asks.planRead tag a).exec_change (t := { s with planner := { s.planner with
      buffer := if a.release then .empty else .held p } }) ha fun d => ?_
    have whole : (if a.release = true then emptyBuffer { s with control := d } else { s with control := d }) =
        { s with control := d, planner := { s.planner with buffer := if a.release then .empty else .held p } } := by
      cases a.release
      · rw [if_neg Bool.false_ne_true, if_neg Bool.false_ne_true, ← hb]
      · rfl
    rw [servePlanRead, needImage_at d _ hi]
    rcases hpart with hp | hp | hp
    · rw [show PlanSection.ofCode a.part = some .zone by rw [hp]; rfl]
      dsimp only
      rw [hb]
      dsimp only
      rw [whole, if_pos hp]
      rfl
    · rw [show PlanSection.ofCode a.part = some .close by rw [hp]; rfl]
      dsimp only
      rw [hb]
      dsimp only
      rw [whole, if_neg (show ¬a.part = 1 by omega), if_pos hp]
      rfl
    · rw [show PlanSection.ofCode a.part = some .lost by rw [hp]; rfl]
      dsimp only
      rw [hb]
      dsimp only
      rw [whole, if_neg (show ¬a.part = 1 by omega), if_neg (show ¬a.part = 2 by omega)]
      rfl
  · refine (Asks.planCancel tag p.number).exec_change (t := emptyBuffer s) ha fun d => ?_
    rw [servePlanCancel, needImage_at d _ hi]
    dsimp only
    rcases hb with hb | ⟨⟨c, hb⟩, hstand⟩
    · rw [hb]
      exact if_pos rfl
    · rw [hb]
      refine (if_pos rfl).trans ?_
      rw [activateTop_nothing (s := emptyBuffer { s with control := d }) .plain hstand]
      rfl
  · exact exec_planCancel (t := emptyBuffer s) ha hi hb fun d => rfl
  · intro q h ended u
    obtain ⟨number, incident, target, start⟩ := computePlan_keeps img c p
    have finished : finishPlan s.partTime.toNat s.net.basis q = h :=
      congrArg (fun b => ({ q with
        endBasis := some s.net.basis, endTime := some s.partTime.toNat
        result := if s.net.basis = b then q.result else some .stale } : Plan)) start
    have told (v : State) : passNotice (planNotice h (planVerdict h) s.net.basis) v = ended v := by
      refine congrArg (fun b => passNotice b v) ?_
      rw [planNotice, show h.number = p.number from number, show h.incident = p.incident from incident,
        show h.target = p.target from target, show h.startBasis = p.startBasis from start]
      rfl
    have event : inEvent (holdPlan (finishPlan s.partTime.toNat s.net.basis q)) s =
        inEvent (fun v => activateTop .plain (ended v)) u := by
      refine (inEvent_from (s := s) (t := u) fun d => ?_).trans rfl
      rw [finished, holdPlan]
      exact congrArg (activateTop .plain) (told { u with control := d })
    have done : exec .planCompletion s = .next (startLine (inEvent (fun v => activateTop .plain (ended v)) u)) :=
      (exec_planCompletion hi hp hb ht).trans (congrArg (fun v => Host.Outcome.next (startLine v)) event)
    refine ⟨done, fun hstand => done.trans (congrArg (fun v => Host.Outcome.next (startLine v)) ?_)⟩
    refine (inEvent_from (f := fun v => activateTop .plain (ended v)) (g := ended) (s := u) (t := u) fun d => ?_).trans
      (inEvent_notice _ u)
    exact activateTop_nothing .plain (by rw [passNotice_net]; exact hstand)
  · have early : ¬p.startTime < s.now := Nat.not_lt.mpr ht
    have still : completePlan s = s := by
      unfold completePlan
      rw [hb]
      split
      · next q c' img hq _ =>
        obtain ⟨rfl, -⟩ := PlanBuffer.computing.inj hq
        exact if_neg early
      · rfl
    simp only [exec, execPlanCompletion, still, ite_self]

end Sys2Proof.Machine

/-! SUPPORT. Zone growth, and that a plan found encloses its zone (O55). -/

namespace Sys2Proof.Machine

/-! ### What one element adds (R138, R139) -/

/-- The growth `h` after `g` in the same growth: what was listed is listed, and what joined the zone waits to be examined. -/
structure Growth.Grows (g h : Growth) : Prop where
  zone : ∃ l, h.zone = g.zone ++ l ∧ h.work = g.work ++ l
  close : ∃ l, h.close = g.close ++ l
  limit : g.zone.length ≤ Config.zoneLimit → h.zone.length ≤ Config.zoneLimit
  failure : h.failure = none → g.failure = none
  fault : (∀ x, g.failure = some x → x.1 ≠ .ok) → ∀ x, h.failure = some x → x.1 ≠ .ok

theorem Growth.Grows.refl (g : Growth) : g.Grows g := ⟨⟨[], by simp⟩, ⟨[], by simp⟩, id, id, id⟩

theorem Growth.Grows.trans {f g h : Growth} (a : f.Grows g) (b : g.Grows h) : f.Grows h := by
  obtain ⟨l, hz, hw⟩ := a.zone
  obtain ⟨l', hz', hw'⟩ := b.zone
  obtain ⟨m, hc⟩ := a.close
  obtain ⟨m', hc'⟩ := b.close
  exact ⟨⟨l ++ l', by simp [hz, hz'], by simp [hw, hw']⟩, ⟨m ++ m', by simp [hc, hc']⟩, fun h => b.limit (a.limit h),
    fun h => a.failure (b.failure h), fun h => b.fault (a.fault h)⟩

/-- A growth that fails lists nothing more. -/
theorem Growth.Grows.failing (g : Growth) (hf : g.failure = none) {r : PlanResult} {n : Nat} (hr : r ≠ .ok) :
    g.Grows { g with failure := some (r, n) } :=
  ⟨⟨[], by simp⟩, ⟨[], by simp⟩, id, fun _ => hf, fun _ _ hx => Option.some.inj hx ▸ hr⟩

/-- An element that carries nothing into an examined segment from outside the zone: CLOSED in the copy, listed, or joined to the
zone at its other end. -/
def Growth.Sealed (c : PlanCopy) (g : Growth) (n : Nat) (e : Element) : Prop :=
  c.closed e.number = true ∨ (∃ x ∈ g.close, x.1 = e.number) ∨
  (e.kind = .valve ∧ (if e.endA = n then e.endB else e.endA) ∈ g.zone) ∨
  (e.kind = .regulator ∧ (e.endB = n → e.endA ∈ g.zone))

theorem Growth.Sealed.mono {c : PlanCopy} {g h : Growth} {n : Nat} {e : Element} (hs : g.Sealed c n e) (hg : g.Grows h) :
    h.Sealed c n e := by
  obtain ⟨l, hz, -⟩ := hg.zone
  obtain ⟨m, hc⟩ := hg.close
  rcases hs with hs | ⟨x, hx, hn⟩ | ⟨hk, hs⟩ | ⟨hk, hs⟩
  · exact .inl hs
  · exact .inr (.inl ⟨x, by rw [hc]; exact List.mem_append_left m hx, hn⟩)
  · exact .inr (.inr (.inl ⟨hk, by rw [hz]; exact List.mem_append_left l hs⟩))
  · exact .inr (.inr (.inr ⟨hk, fun h => by rw [hz]; exact List.mem_append_left l (hs h)⟩))

section

variable {c : PlanCopy} {g : Growth}

theorem Growth.addSegment_spec (u n : Nat) (hf : g.failure = none) :
    g.Grows (g.addSegment u n) ∧ ((g.addSegment u n).failure = none → u ∈ (g.addSegment u n).zone) := by
  unfold Growth.addSegment
  split
  · exact ⟨.failing g hf PlanResult.noConfusion, fun h => absurd h (Option.some_ne_none _)⟩
  · next hlimit =>
    exact ⟨⟨⟨[u], rfl, rfl⟩, ⟨[], by simp⟩, fun _ => by simp; omega, fun _ => hf, id⟩, fun _ => by simp⟩

theorem Growth.addElement_spec (e : Element) (hf : g.failure = none) :
    g.Grows (g.addElement e) ∧ ((g.addElement e).failure = none → ∃ x ∈ (g.addElement e).close, x.1 = e.number) := by
  unfold Growth.addElement
  split
  · next h => exact ⟨.refl g, fun _ => by simpa using h⟩
  · split
    · exact ⟨.failing g hf PlanResult.noConfusion, fun h => absurd h (Option.some_ne_none _)⟩
    · exact ⟨⟨⟨[], by simp⟩, ⟨_, rfl⟩, id, fun _ => hf, id⟩, fun _ => ⟨(e.number, e.cls), by simp, rfl⟩⟩

theorem Growth.entry_spec (e : Element) (u : Nat) (hf : g.failure = none) :
    g.Grows (g.entry c e u) ∧ ((g.entry c e u).failure = none →
      u ∈ (g.entry c e u).zone ∨ ∃ x ∈ (g.entry c e u).close, x.1 = e.number) := by
  unfold Growth.entry
  split
  · next h => exact ⟨.refl g, fun _ => .inl (by simpa using h)⟩
  · split
    · obtain ⟨grows, listed⟩ := g.addElement_spec e hf
      exact ⟨grows, fun h => .inr (listed h)⟩
    · obtain ⟨grows, joined⟩ := g.addSegment_spec u e.number hf
      exact ⟨grows, fun h => .inl (joined h)⟩

/-- An element judged at an examined segment is sealed there, unless the growth fails. -/
theorem Growth.judge_spec (n : Nat) (e : Element) :
    g.Grows (g.judge c n e) ∧ ((g.judge c n e).failure = none → (g.judge c n e).Sealed c n e) := by
  unfold Growth.judge
  by_cases hf : g.failure = none
  · by_cases hc : c.closed e.number = true
    · rw [if_pos (by simp [hc])]
      exact ⟨.refl g, fun _ => .inl hc⟩
    · rw [if_neg (by simp [hf, hc])]
      cases hk : e.kind with
      | valve =>
        obtain ⟨grows, entered⟩ := g.entry_spec (c := c) e (if e.endA = n then e.endB else e.endA) hf
        exact ⟨grows, fun h => (entered h).elim (fun hz => .inr (.inr (.inl ⟨hk, hz⟩))) fun hx => .inr (.inl hx)⟩
      | regulator =>
        dsimp only
        split
        · obtain ⟨grows, entered⟩ := g.entry_spec (c := c) e e.endA hf
          exact ⟨grows, fun h => (entered h).elim (fun hz => .inr (.inr (.inr ⟨hk, fun _ => hz⟩))) fun hx => .inr (.inl hx)⟩
        · next hn => exact ⟨.refl g, fun _ => .inr (.inr (.inr ⟨hk, fun h => absurd h hn⟩))⟩
      | source =>
        dsimp only
        split
        · obtain ⟨grows, listed⟩ := g.addElement_spec e hf
          exact ⟨grows, fun h => .inr (.inl (listed h))⟩
        · exact ⟨.failing g hf PlanResult.noConfusion, fun h => absurd h (Option.some_ne_none _)⟩
  · have failed : (g.failure.isSome || c.closed e.number) = true := by
      rw [Option.isSome_iff_ne_none.mpr hf, Bool.true_or]
    rw [if_pos failed]
    exact ⟨.refl g, fun h => absurd h hf⟩

/-- All the elements that touch an examined segment judged. -/
theorem Growth.foldl_judge_spec (n : Nat) (l : List Element) :
    g.Grows (l.foldl (Growth.judge c n) g) ∧ ((l.foldl (Growth.judge c n) g).failure = none →
      ∀ e ∈ l, (l.foldl (Growth.judge c n) g).Sealed c n e) := by
  induction l generalizing g with
  | nil => exact ⟨.refl g, fun _ e he => absurd he List.not_mem_nil⟩
  | cons e l ih =>
    obtain ⟨one, sealed⟩ := g.judge_spec (c := c) n e
    obtain ⟨rest, all⟩ := ih (g := g.judge c n e)
    refine ⟨one.trans rest, fun h x hx => ?_⟩
    rcases List.mem_cons.mp hx with rfl | hx
    · exact (sealed (rest.failure h)).mono rest
    · exact all h x hx

end

/-! ### The whole growth (R138) -/

/-- A growth in progress: the examined segments come first in the zone, every element is sealed at each of them, and the
others wait. -/
structure Growth.Examined (img : Image) (c : PlanCopy) (g : Growth) (done : List Nat) : Prop where
  zone : g.zone = done ++ g.work
  limit : g.zone.length ≤ Config.zoneLimit
  closed : ∀ n ∈ done, ∀ e ∈ touching img n, g.Sealed c n e

/-- A growth that does not fail ends with every segment of its zone examined: each turn examines one, and there are no more
of them than turns. -/
theorem growLoop_examined {img : Image} {c : PlanCopy} (fuel : Nat) : ∀ {g : Growth} {done : List Nat},
    g.Examined img c done → Config.zoneLimit < fuel + done.length → (growLoop img c fuel g).failure = none →
    (∀ n ∈ g.zone, n ∈ (growLoop img c fuel g).zone) ∧
    ∀ n ∈ (growLoop img c fuel g).zone, ∀ e ∈ touching img n, (growLoop img c fuel g).Sealed c n e := by
  induction fuel with
  | zero =>
    intro g done h hfuel _
    have length : done.length ≤ g.zone.length := by rw [h.zone, List.length_append]; omega
    have := h.limit
    omega
  | succ fuel ih =>
    intro g done h hfuel hf
    unfold growLoop at hf ⊢
    by_cases hfail : g.failure.isSome = true
    · rw [if_pos hfail] at hf
      rw [hf] at hfail
      cases hfail
    rw [if_neg hfail] at hf ⊢
    cases hw : g.work with
    | nil =>
      refine ⟨fun _ => id, fun n hn => h.closed n ?_⟩
      rw [h.zone, hw, List.append_nil] at hn
      exact hn
    | cons m rest =>
      rw [hw] at hf
      dsimp only at hf ⊢
      obtain ⟨grows, sealed⟩ := Growth.foldl_judge_spec (c := c) (g := { g with work := rest }) m (touching img m)
      generalize hx : (touching img m).foldl (Growth.judge c m) { g with work := rest } = x at hf grows sealed
      by_cases hxf : x.failure = none
      · obtain ⟨l, hz, hl⟩ := grows.zone
        have next : x.Examined img c (done ++ [m]) := by
          refine ⟨?_, grows.limit h.limit, fun n hn e he => ?_⟩
          · rw [hz, hl, show ({ g with work := rest } : Growth).zone = done ++ g.work from h.zone, hw]
            simp
          · rcases List.mem_append.mp hn with hn | hn
            · exact (show ({ g with work := rest } : Growth).Sealed c n e from h.closed n hn e he).mono grows
            · obtain rfl := List.mem_singleton.mp hn
              exact sealed hxf e he
        obtain ⟨keeps, all⟩ := ih next (by rw [List.length_append]; simp; omega) hf
        exact ⟨fun n hn => keeps n (by rw [hz]; exact List.mem_append_left l hn), all⟩
      · have stuck : growLoop img c fuel x = x := by
          cases fuel with
          | zero => rfl
          | succ k =>
            unfold growLoop
            rw [if_pos (Option.isSome_iff_ne_none.mpr hxf)]
        rw [stuck] at hf
        exact absurd hf hxf

/-- A growth fails with one of its three failures, never with OK. -/
theorem growLoop_fault {img : Image} {c : PlanCopy} (fuel : Nat) : ∀ {g : Growth}, (∀ x, g.failure = some x → x.1 ≠ .ok) →
    ∀ x, (growLoop img c fuel g).failure = some x → x.1 ≠ .ok := by
  induction fuel with
  | zero => exact fun h => h
  | succ fuel ih =>
    intro g h
    unfold growLoop
    split
    · exact h
    · split
      · exact h
      · next m rest _ => exact ih ((Growth.foldl_judge_spec (g := { g with work := rest }) m (touching img m)).1.fault h)

/-- A growth that does not fail holds the target, and every element is sealed at every segment of its zone. -/
theorem grow_sealed {img : Image} {c : PlanCopy} {target : Nat} (hf : (grow img c target).failure = none) :
    target ∈ (grow img c target).zone ∧
    ∀ n ∈ (grow img c target).zone, ∀ e ∈ touching img n, (grow img c target).Sealed c n e := by
  have start : Growth.Examined img c { zone := [target], close := [], work := [target], failure := none } [] :=
    ⟨rfl, by simp [Config.zoneLimit], fun n hn => absurd hn List.not_mem_nil⟩
  obtain ⟨keeps, all⟩ := growLoop_examined (Config.zoneLimit + 1) start (by simp) hf
  exact ⟨keeps target List.mem_cons_self, all⟩

/-! ### The plan (R141, R142) -/

/-- A listed element with an end outside the zone, and a listed SOURCE, stay listed (R141). -/
theorem prune_keeps {img : Image} (himg : NumbersDistinct img) {zone : List Nat} {close : List (Nat × OpClass)} {e : Element}
    (he : e ∈ img.elements) (hx : ∃ x ∈ close, x.1 = e.number)
    (hout : e.kind = .source ∨ e.endA ∉ zone ∨ e.endB ∉ zone) :
    ((prune img zone close).any fun x => x.1 = e.number) = true := by
  obtain ⟨x, hmem, hn⟩ := hx
  refine List.any_eq_true.mpr ⟨x, List.mem_filter.mpr ⟨hmem, ?_⟩, by simpa using hn⟩
  rw [hn, himg.element? he]
  rcases hout with h | h | h <;> simp [h]

/-- No gas comes into the zone past the elements that are CLOSED and the pruned close list. -/
theorem zone_shut {img : Image} (himg : NumbersDistinct img) {c : PlanCopy} {g : Growth}
    (hs : ∀ n ∈ g.zone, ∀ e ∈ touching img n, g.Sealed c n e) {n : Nat}
    (h : Carried img (fun m => !c.closed m && !((prune img g.zone g.close).any fun x => x.1 = m)) n) : n ∉ g.zone := by
  have shut {e : Element} {m : Nat} (he : e ∈ img.elements) (hm : m ∈ g.zone) (touches : e.endA = m ∨ e.endB = m)
      (hp : (!c.closed e.number && !((prune img g.zone g.close).any fun x => x.1 = e.number)) = true)
      (hout : e.kind = .source ∨ e.endA ∉ g.zone ∨ e.endB ∉ g.zone) :
      (e.kind = .valve ∧ (if e.endA = m then e.endB else e.endA) ∈ g.zone) ∨
      (e.kind = .regulator ∧ (e.endB = m → e.endA ∈ g.zone)) := by
    obtain ⟨open', unlisted⟩ : c.closed e.number = false ∧
        ((prune img g.zone g.close).any fun x => x.1 = e.number) = false := by simpa using hp
    rcases hs m hm e (List.mem_filter.mpr ⟨he, by simpa using touches⟩) with hc | hx | hv
    · rw [open'] at hc
      cases hc
    · rw [prune_keeps himg he hx hout] at unlisted
      cases unlisted
    · exact hv
  induction h with
  | source he hk hp _ =>
    intro hz
    rcases shut he hz (.inr rfl) hp (.inl hk) with ⟨hv, -⟩ | ⟨hv, -⟩ <;> rw [hk] at hv <;> cases hv
  | valveToB he hk hp _ _ ih =>
    intro hz
    rcases shut he hz (.inr rfl) hp (.inr (.inl ih)) with ⟨-, hv⟩ | ⟨hv, -⟩
    · split at hv
      · next same => exact ih (same ▸ hz)
      · exact ih hv
    · rw [hk] at hv
      cases hv
  | valveToA he hk hp _ _ ih =>
    intro hz
    rcases shut he hz (.inl rfl) hp (.inr (.inr ih)) with ⟨-, hv⟩ | ⟨hv, -⟩
    · rw [if_pos rfl] at hv
      exact ih hv
    · rw [hk] at hv
      cases hv
  | regulator he hk hp _ _ ih =>
    intro hz
    rcases shut he hz (.inr rfl) hp (.inr (.inl ih)) with ⟨hv, -⟩ | ⟨-, hv⟩
    · rw [hk] at hv
      cases hv
    · exact ih (hv rfl)

/-- A plan that reaches OK has the zone and the pruned list of a growth that did not fail. -/
theorem computePlan_ok {img : Image} {c : PlanCopy} {p : Plan} (h : (computePlan img c p).result = some .ok) :
    (grow img c p.target).failure = none ∧ (computePlan img c p).zone = (grow img c p.target).zone ∧
    (computePlan img c p).close = prune img (grow img c p.target).zone (grow img c p.target).close := by
  unfold computePlan at h ⊢
  dsimp only at h ⊢
  cases hf : (grow img c p.target).failure with
  | none => exact ⟨rfl, rfl, rfl⟩
  | some x =>
    rw [hf] at h
    exact absurd (Option.some.inj h) (growLoop_fault _ (fun _ hx => absurd hx.symm (Option.some_ne_none _)) x hf)

/-- Settles O55: a plan that reaches OK encloses its zone. -/
theorem planEnclosesItsZone : Obligations.PlanEnclosesItsZone := by
  intro img c p himg h
  obtain ⟨hf, zone, close⟩ := computePlan_ok h
  obtain ⟨target, sealed⟩ := grow_sealed hf
  rw [zone, close]
  exact ⟨target, fun n hn hr => zone_shut himg sealed ((mem_reach n).mp hr) hn⟩

end Sys2Proof.Machine

/-! SUPPORT. Changes of an incident and the INCIDENT_SET actions (O52). -/

namespace Sys2Proof.Machine

/-! ### A changed incident (R96, R106) -/

theorem awaits_iff {x : IncidentState} : x.awaits = true ↔ x = .opened ∨ x = .dispatched := by
  cases x <;> simp [IncidentState.awaits]

/-- The recompute of a deadline, field by field (R96). -/
theorem aimDeadline_eq (now : Nat) (i : Incident) : aimDeadline now i =
    { i with
      deadline := if i.state = .opened ∨ i.state = .dispatched then
          some (min (i.deadline.getD (i.baseTime + attendanceLimit i.grade)) (i.baseTime + attendanceLimit i.grade))
        else i.deadline
      overdue := if (i.state = .opened ∨ i.state = .dispatched) ∧
          min (i.deadline.getD (i.baseTime + attendanceLimit i.grade)) (i.baseTime + attendanceLimit i.grade) ≤ now then true
        else i.overdue } := by
  unfold aimDeadline
  by_cases h : i.state = .opened ∨ i.state = .dispatched
  · have aimed : (i.deadline.map (min · (i.baseTime + attendanceLimit i.grade))).getD (i.baseTime + attendanceLimit i.grade) =
        min (i.deadline.getD (i.baseTime + attendanceLimit i.grade)) (i.baseTime + attendanceLimit i.grade) := by
      cases i.deadline <;> simp
    rw [if_pos (awaits_iff.mpr h)]
    dsimp only
    rw [aimed]
    generalize min (i.deadline.getD (i.baseTime + attendanceLimit i.grade)) (i.baseTime + attendanceLimit i.grade) = d
    by_cases hd : d ≤ now
    · simp [h, hd]
    · simp [h, hd]
  · rw [if_neg fun ha => h (awaits_iff.mp ha)]
    simp [h]

/-- The values of an INCIDENT notice (R106). -/
def incidentBody (new : Incident) (events : EventSet) (oldGrade : Option Nat) (oldState : Option IncidentState)
    (call : Option CallEntry) (source : Option JoinSource) : NoticeBody :=
  .incident
    { incident := new.number, segment := new.segment, events := events, causes := new.causes, oldGrade := oldGrade
      grade := new.grade, oldState := oldState, state := new.state, baseTime := new.baseTime, deadline := new.deadline
      overdue := new.overdue, clusterEscalated := new.clusterEscalated, totalCalls := new.totalCalls, call := call
      trigPoint := new.trigPoint, trigElement := new.trigElement, isoStatus := new.isoStatus, joined := source }

theorem incidentNotice_created (new : Incident) (source : Option JoinSource) (call : Option CallEntry) :
    incidentNotice none new false source call = some (incidentBody new
      { created := true, joined := false, grade := false, overdue := new.overdue, state := false, isolation := false }
      none none call source) := rfl

theorem incidentNotice_changed (old new : Incident) (joined : Bool) (source : Option JoinSource) (call : Option CallEntry) :
    incidentNotice (some old) new joined source call =
      if joined = false ∧ new.grade = old.grade ∧ ¬(old.overdue = false ∧ new.overdue = true) ∧
        new.state = old.state ∧ new.isoStatus = old.isoStatus then none
      else some (incidentBody new
        { created := false, joined := joined, grade := decide (new.grade ≠ old.grade)
          overdue := decide (old.overdue = false ∧ new.overdue = true), state := decide (new.state ≠ old.state)
          isolation := decide (new.isoStatus ≠ old.isoStatus) } (some old.grade) (some old.state) call source) := by
  have events : incidentEvents (some old) new joined =
      { created := false, joined := joined, grade := decide (new.grade ≠ old.grade)
        overdue := decide (old.overdue = false ∧ new.overdue = true), state := decide (new.state ≠ old.state)
        isolation := decide (new.isoStatus ≠ old.isoStatus) } := by
    unfold incidentEvents
    simp only [ne_comm (a := old.grade), ne_comm (a := old.state), ne_comm (a := old.isoStatus)]
    cases old.overdue <;> cases new.overdue <;> rfl
  have none_due : (EventSet.mk false joined (decide (new.grade ≠ old.grade))
      (decide (old.overdue = false ∧ new.overdue = true)) (decide (new.state ≠ old.state))
      (decide (new.isoStatus ≠ old.isoStatus))).isEmpty = true ↔
      joined = false ∧ new.grade = old.grade ∧ ¬(old.overdue = false ∧ new.overdue = true) ∧
        new.state = old.state ∧ new.isoStatus = old.isoStatus := by
    cases old.overdue <;> simp [EventSet.isEmpty, and_assoc]
  unfold incidentNotice
  dsimp only
  rw [events]
  simp only [none_due]
  rfl

theorem incidentNotice_pairwise (old : Option Incident) (new : Incident) (joined : Bool) (source : Option JoinSource)
    (call : Option CallEntry) : (incidentNotice old new joined source call).toList.Pairwise fun a b => ¬a.sameSubject b := by
  cases incidentNotice old new joined source call with
  | none => exact List.Pairwise.nil
  | some b => exact List.pairwise_singleton _ _

/-- A changed incident that a request tells of. -/
theorem Asks.exec_setIncident {c : Instr} {s t : State} {kind tag : Nat} {f : State → Served} {reply : ReplyBody}
    {old new : Incident} {joined : Bool} {source : Option JoinSource} {call : Option CallEntry}
    (h : Asks c kind tag f) (ha : Admits s tag)
    (hf : ∀ d, f { s with control := d } = (setIncident old new joined source call { t with control := d }, reply)) :
    exec c s = .next (answered kind tag reply
      (setIncident old new joined source call { t with control := (huntControl s).control })) :=
  h.exec_notices ha (t := t.updIncident old.number fun _ => new) hf (incidentNotice_pairwise ..)

/-- A changed incident as one event. -/
theorem inEvent_setIncident (old new : Incident) (joined : Bool) (source : Option JoinSource) (call : Option CallEntry)
    (s : State) : inEvent (setIncident old new joined source call) s = setIncident old new joined source call s :=
  inEvent_notices (t := s.updIncident old.number fun _ => new)
    (l := (incidentNotice (some old) new joined source call).toList) (fun _ => rfl) (incidentNotice_pairwise ..)

/-! ### The actions (R102 to R104) -/

theorem closable_iff {i : Incident} {s : State} : closable i s = true ↔
    (i.isoStatus = .none ∨ i.isoStatus = .restored) ∧ ∀ o ∈ s.supply.outages, o.cause ≠ .planned i.number := by
  simp [closable]

/-- Settles O52: the INCIDENT_SET actions, the deadline's expiry, and the changed record with its notice. -/
theorem incidentActionsMoveForwardOnly : Obligations.IncidentActionsMoveForwardOnly := by
  refine ⟨fun s tag n g img i ha hi hn => ?_, fun s n d i hp hn hd ht hs ho => ?_, fun s tag n g action img ha hi => ?_,
    fun s old new joined source call => ?_⟩
  · intro done refused awaits free
    have taken {c : Instr} {serve : Incident → State → Served} {j : Incident}
        (h : Asks c 0x51 tag (withIncident n serve))
        (hf : ∀ d, serve i { s with control := d } = changeIncident i j { s with control := d }) :
        exec c s = .next (done j) :=
      h.exec_setIncident (t := s) ha fun d => (withIncident_at d serve hi hn).trans (hf d)
    have refuses {c : Instr} {serve : Incident → State → Served} {x : Code}
        (h : Asks c 0x51 tag (withIncident n serve))
        (hf : ∀ d, serve i { s with control := d } = refuse x { s with control := d }) :
        exec c s = .next (answered 0x51 tag (.refused (.plain x)) (huntControl s)) :=
      h.exec_same ha fun d => (withIncident_at d serve hi hn).trans (hf d)
    have grade : Asks (.incidentSetGrade tag (.fits { incident := n, action := 5, grade := g })) 0x51 tag
        (withIncident n (setGrade g)) := Asks.grade tag { incident := n, action := 5, grade := g }
    refine ⟨fun h => taken (.dispatch tag n g) fun d => if_pos h, fun h => refuses (.dispatch tag n g) fun d => if_neg h,
      fun h => taken (.attend tag n g) fun d => if_pos (awaits_iff.mpr h),
      fun h => refuses (.attend tag n g) fun d => if_neg fun hw => h (awaits_iff.mp hw),
      fun h => taken (.safe tag n g) fun d => if_pos h, fun h => refuses (.safe tag n g) fun d => if_neg h,
      fun h hf => taken (.close tag n g) fun d => if_pos ⟨h, closable_iff.mpr hf⟩,
      fun h => refuses (.close tag n g) fun d => if_neg fun hc => h ⟨hc.1, closable_iff.mp hc.2⟩,
      fun h => refuses grade fun d => if_pos h,
      fun h hg => refuses grade fun d => (if_neg h).trans (if_neg hg), fun h h1 h4 hlow => ?_⟩
    intro bound due
    exact taken grade fun d => ((if_neg h).trans (if_pos ⟨h1, h4, hlow⟩)).trans (by rw [aimDeadline_eq]; rfl)
  · have elapsed : deadlineDue s.now i = true := by
      rw [deadlineDue, hd, ho, awaits_iff.mpr hs, due_iff.mpr (show d ≤ s.now from ht)]
      rfl
    simp only [exec, execDeadlineExpiry, (running_iff s).mpr hp, if_true, deadlineExpiry, hn, if_pos elapsed, ownEvent,
      inEvent_setIncident]
  · intro refuses other
    have asks : Asks other 0x51 tag (serveGrade { incident := n, action := action, grade := g }) := Asks.grade ..
    refine ⟨fun hn => ?_, fun i hn haction => ?_⟩
    · have missing (serve : Incident → State → Served) (d : ControlPort) :
          withIncident n serve { s with control := d } = refuse .notFound { s with control := d } := by
        have here : State.incident? { s with control := d } n = none := hn
        rw [withIncident, needImage_at d _ hi, here]
      exact ⟨(Asks.dispatch tag n g).exec_same ha (missing _), (Asks.attend tag n g).exec_same ha (missing _),
        (Asks.safe tag n g).exec_same ha (missing _), (Asks.close tag n g).exec_same ha (missing _),
        asks.exec_same ha (missing _)⟩
    · refine asks.exec_same ha fun d => (withIncident_at d _ hi hn).trans (if_neg ?_)
      show action ≠ 5
      omega
  · intro t written body unchanged
    have made : t = passNotices (incidentNotice (some old) new joined source call).toList written := rfl
    refine ⟨fun h => ?_, fun h => ?_, fun ho hn => ?_, incidentNotice_created new source call, rfl⟩
    · rw [made, incidentNotice_changed, if_pos h]
      rfl
    · rw [made, incidentNotice_changed, if_neg h]
      rfl
    · have found (m : Nat) : t.incident? m = (s.incident? m).map fun i => if i.number = old.number then new else i := by
        have same : t.incident? m = written.incident? m := by
          rw [made, State.incident?, State.incidentList, passNotices_incidents]
          rfl
        exact same.trans (incident?_updIncident s old.number m (fun _ => new) fun _ _ => hn)
      refine ⟨by rw [found, ho, Option.map_some, if_pos rfl], fun m hm => ?_⟩
      rw [found]
      cases hx : s.incident? m with
      | none => rfl
      | some x =>
        have number : x.number = m := (State.incident?_mem hx).2
        rw [Option.map_some, if_neg (number ▸ hm)]

end Sys2Proof.Machine

/-! SUPPORT. The slot and the number of a new incident, and correlation (R87, R92). -/

namespace Sys2Proof.Machine

/-! ### Slots (R87) -/

/-- A CLOSED incident's slot is earlier than another's: by closed time, then by number. -/
def ClosedBefore (a b : Nat × Incident) : Prop :=
  a.2.closedAt.getD 0 < b.2.closedAt.getD 0 ∨ (a.2.closedAt.getD 0 = b.2.closedAt.getD 0 ∧ a.2.number < b.2.number)

theorem earlierClosed_eq (a b : Nat × Incident) : earlierClosed a b = a ∨ (earlierClosed a b = b ∧ ClosedBefore b a) := by
  unfold earlierClosed ClosedBefore
  dsimp only
  split
  · next h => exact .inr ⟨rfl, by simpa using h⟩
  · exact .inl rfl

theorem earlierClosed_of_before {a b : Nat × Incident} (h : ClosedBefore b a) : earlierClosed a b = b := by
  unfold earlierClosed ClosedBefore at *
  dsimp only
  rw [if_pos (by simpa using h)]

theorem ClosedBefore.asymm {a b : Nat × Incident} (h : ClosedBefore a b) : ¬ClosedBefore b a := by
  unfold ClosedBefore at *
  omega

/-- The one slot that is earlier than every other is the one the search ends with. -/
theorem foldl_earlierClosed {m : Nat × Incident} (l : List (Nat × Incident)) : ∀ {a : Nat × Incident}, m ∈ a :: l →
    (∀ x ∈ a :: l, x = m ∨ ClosedBefore m x) → l.foldl earlierClosed a = m := by
  induction l with
  | nil => exact fun hm _ => (List.mem_singleton.mp hm).symm
  | cons b l ih =>
    intro a hm h
    rw [List.foldl_cons]
    have ha := h a List.mem_cons_self
    have hb := h b (List.mem_cons_of_mem a List.mem_cons_self)
    have rest : ∀ x ∈ l, x = m ∨ ClosedBefore m x := fun x hx => h x (List.mem_cons_of_mem a (List.mem_cons_of_mem b hx))
    rcases earlierClosed_eq a b with he | ⟨he, hba⟩
    · rw [he]
      refine ih ?_ fun x hx => (List.mem_cons.mp hx).elim (fun hxa => hxa ▸ ha) (rest x)
      rcases List.mem_cons.mp hm with hma | hm
      · exact hma ▸ List.mem_cons_self
      rcases List.mem_cons.mp hm with hmb | hm
      · rcases ha with ha | ha
        · exact ha ▸ List.mem_cons_self
        · exact he.symm.trans (earlierClosed_of_before (hmb ▸ ha)) ▸ hmb ▸ List.mem_cons_self
      · exact List.mem_cons_of_mem a hm
    · rw [he]
      refine ih ?_ fun x hx => (List.mem_cons.mp hx).elim (fun hxb => hxb ▸ hb) (rest x)
      rcases List.mem_cons.mp hm with hma | hm
      · rcases hb with hb | hb
        · exact hb ▸ List.mem_cons_self
        · exact absurd hba (hma ▸ hb).asymm
      · exact hm

section

variable {slots : List (Option Incident)} {k : Nat}

theorem mem_closedSlots {x : Nat × Incident} :
    x ∈ (slots.zipIdx.filterMap fun x => x.1.bind fun i => if i.state = .closed then some (x.2, i) else none) ↔
      slots[x.1]? = some (some x.2) ∧ x.2.state = .closed := by
  rw [List.mem_filterMap]
  constructor
  · rintro ⟨⟨o, j⟩, hm, h⟩
    obtain ⟨i, ho, h⟩ := Option.bind_eq_some_iff.mp h
    rw [Option.ite_none_right_eq_some] at h
    obtain ⟨hc, rfl⟩ := h.imp_right Option.some.inj
    exact ⟨ho ▸ List.mem_zipIdx_iff_getElem?.mp hm, hc⟩
  · rintro ⟨hx, hc⟩
    exact ⟨(some x.2, x.1), List.mem_zipIdx_iff_getElem?.mpr hx, by simp [hc]⟩

theorem findIdx?_none_of_full (h : ∀ j : Nat, slots[j]? ≠ some none) : slots.findIdx? (·.isNone) = none := by
  rw [List.findIdx?_eq_none_iff]
  intro x hx
  obtain ⟨j, hj⟩ := List.mem_iff_getElem?.mp hx
  cases x with
  | none => exact absurd hj (h j)
  | some i => rfl

theorem chooseSlot_free (hk : slots[k]? = some none) (hlow : ∀ j, j < k → slots[j]? ≠ some none) : chooseSlot slots = some k := by
  obtain ⟨hlt, hk⟩ := List.getElem?_eq_some_iff.mp hk
  have found : slots.findIdx? (·.isNone) = some k := by
    rw [List.findIdx?_eq_some_iff_getElem]
    refine ⟨hlt, by simp [hk], fun j hj => ?_⟩
    have := hlow j hj
    rw [List.getElem?_eq_getElem (by omega)] at this
    simpa using this
  unfold chooseSlot
  rw [found]

theorem chooseSlot_none (h : ∀ j : Nat, slots[j]? ≠ some none) (hc : ∀ i ∈ slots.filterMap id, i.state ≠ .closed) :
    chooseSlot slots = none := by
  have empty : (slots.zipIdx.filterMap fun x => x.1.bind fun i => if i.state = .closed then some (x.2, i) else none) = [] := by
    rw [List.eq_nil_iff_forall_not_mem]
    intro x hx
    obtain ⟨hx, hclosed⟩ := mem_closedSlots.mp hx
    exact hc x.2 (List.mem_filterMap.mpr ⟨some x.2, List.mem_of_getElem? hx, rfl⟩) hclosed
  unfold chooseSlot
  rw [findIdx?_none_of_full h, empty]

/-- With no free slot the earliest CLOSED incident gives up its own. -/
theorem chooseSlot_closed {i : Incident} {t : Nat} (h : ∀ j : Nat, slots[j]? ≠ some none) (hk : slots[k]? = some (some i))
    (hi : i.state = .closed) (ht : i.closedAt = some t)
    (hlater : ∀ (j : Nat) x, j ≠ k → slots[j]? = some (some x) → x.state = .closed →
      ∃ u, x.closedAt = some u ∧ (t < u ∨ (t = u ∧ i.number < x.number))) : chooseSlot slots = some k := by
  have here := mem_closedSlots (slots := slots) (x := (k, i)) |>.mpr ⟨hk, hi⟩
  have later : ∀ x ∈ (slots.zipIdx.filterMap fun x => x.1.bind fun i => if i.state = .closed then some (x.2, i) else none),
      x = (k, i) ∨ ClosedBefore (k, i) x := by
    rintro ⟨j, x⟩ hx
    obtain ⟨hx, hc⟩ := mem_closedSlots.mp hx
    by_cases hj : j = k
    · subst hj
      exact .inl (Prod.ext rfl (Option.some.inj (Option.some.inj (hx.symm.trans hk))))
    · obtain ⟨u, hu, h⟩ := hlater j x hj hx hc
      exact .inr (by simpa [ClosedBefore, ht, hu] using h)
  unfold chooseSlot
  rw [findIdx?_none_of_full h]
  generalize (slots.zipIdx.filterMap fun x => x.1.bind fun i => if i.state = .closed then some (x.2, i) else none) = l
    at here later ⊢
  cases l with
  | nil => exact absurd here List.not_mem_nil
  | cons c cs =>
    dsimp only
    rw [foldl_earlierClosed cs here later]

/-- The numbers held beside one slot. -/
theorem mem_heldBeside {m : Nat} (hk : k < slots.length) : m ∈ ((slots.set k none).filterMap id).map (·.number) ↔
    ∃ (j : Nat) (x : Incident), j ≠ k ∧ slots[j]? = some (some x) ∧ x.number = m := by
  simp only [List.mem_map, List.mem_filterMap, id]
  constructor
  · rintro ⟨x, ⟨o, ho, rfl⟩, hm⟩
    obtain ⟨j, hj⟩ := List.mem_iff_getElem?.mp ho
    have hjk : j ≠ k := by
      rintro rfl
      rw [List.getElem?_set_self hk] at hj
      cases hj
    rw [List.getElem?_set_ne hjk.symm] at hj
    exact ⟨j, x, hjk, hj, hm⟩
  · rintro ⟨j, x, hjk, hj, hm⟩
    exact ⟨x, ⟨some x, List.mem_of_getElem? (i := j) (by rw [List.getElem?_set_ne hjk.symm]; exact hj), rfl⟩, hm⟩

end

/-- A new incident takes the slot found and the first number on that no other incident holds (R87). -/
theorem createIncident_at {s : State} {k steps : Nat} (make : Nat → Incident) (hk : chooseSlot s.incidents.slots = some k)
    (hs : steps ≤ 64)
    (hheld : ∀ j, j < steps → ∃ (l : Nat) (x : Incident), l ≠ k ∧ s.incidents.slots[l]? = some (some x) ∧
      x.number = (after 65535)^[j] s.incidents.nextNumber)
    (hfree : ¬∃ (l : Nat) (x : Incident), l ≠ k ∧ s.incidents.slots[l]? = some (some x) ∧
      x.number = (after 65535)^[steps] s.incidents.nextNumber) :
    createIncident make s = some
      ({ s with incidents := { s.incidents with
          slots := s.incidents.slots.set k (some (make ((after 65535)^[steps] s.incidents.nextNumber)))
          nextNumber := after 65535 ((after 65535)^[steps] s.incidents.nextNumber) } },
        make ((after 65535)^[steps] s.incidents.nextNumber)) := by
  have hlt := chooseSlot_lt hk
  have number : freeNumber 65535 (((s.incidents.slots.set k none).filterMap id).map (·.number)) (Config.slotLimit + 1)
      s.incidents.nextNumber = (after 65535)^[steps] s.incidents.nextNumber :=
    freeNumber_first (by simp [Config.slotLimit]; omega) (fun j hj => (mem_heldBeside hlt).mpr (hheld j hj))
      fun hm => hfree ((mem_heldBeside hlt).mp hm)
  unfold createIncident
  rw [hk]
  dsimp only
  rw [number, List.set_set]

theorem createIncident_none {s : State} (make : Nat → Incident) (h : ∀ j : Nat, s.incidents.slots[j]? ≠ some none)
    (hc : ∀ i ∈ s.incidentList, i.state ≠ .closed) : createIncident make s = none := by
  unfold createIncident
  rw [chooseSlot_none h hc]

/-! ### Correlation (R92) -/

section

variable {s : State} {c : Nat → Bool} {j : Incident}

theorem State.incident?_of_mem (hnd : (s.incidentList.map (·.number)).Nodup) (hj : j ∈ s.incidentList) :
    s.incident? j.number = some j := find?_of_mem_nodup Incident.number _ hnd j hj

theorem incident_of_number (hnd : (s.incidentList.map (·.number)).Nodup) {i : Incident} (hi : i ∈ s.incidentList)
    (hj : j ∈ s.incidentList) (h : i.number = j.number) : i = j :=
  Option.some.inj ((State.incident?_of_mem hnd hi).symm.trans (h ▸ State.incident?_of_mem hnd hj))

theorem lowestIncident_eq_some_iff (hnd : (s.incidentList.map (·.number)).Nodup) : lowestIncident s c = some j ↔
    j ∈ s.incidentList ∧ j.state ≠ .closed ∧ c j.segment = true ∧
      ∀ i ∈ s.incidentList, i.state ≠ .closed → c i.segment = true → j.number ≤ i.number := by
  constructor
  · intro h
    obtain ⟨hj, k, hk, hs, hc, hn, hlow⟩ := lowestIncident_mem h
    obtain rfl := incident_of_number hnd hj hk hn
    exact ⟨hj, hs, hc, hlow⟩
  · rintro ⟨hj, hs, hc, hlow⟩
    cases h : lowestIncident s c with
    | none => exact absurd hc (by rw [lowestIncident_eq_none.mp h j hj hs]; exact Bool.false_ne_true)
    | some i =>
      obtain ⟨hi, k, hk, hks, hkc, hn, hklow⟩ := lowestIncident_mem h
      have := hlow k hk hks hkc
      have := hklow j hj hs hc
      rw [incident_of_number hnd hi hj (by omega)]

variable {img : Image} {n : Nat}

theorem correlate_eq_none_iff : correlate img n s = none ↔ ∀ i ∈ s.incidentList, i.state ≠ .closed →
    i.segment ≠ n ∧ valveNeighbours img n i.segment = false := by
  have own : lowestIncident s (fun x => x = n) = none ↔ ∀ i ∈ s.incidentList, i.state ≠ .closed → i.segment ≠ n := by
    rw [lowestIncident_eq_none]
    simp
  unfold correlate
  cases h : lowestIncident s (fun x => x = n) with
  | none =>
    have none_here := own.mp h
    exact lowestIncident_eq_none.trans
      ⟨fun hv i hi hs => ⟨none_here i hi hs, hv i hi hs⟩, fun hv i hi hs => (hv i hi hs).2⟩
  | some x =>
    refine ⟨fun hx => absurd hx (Option.some_ne_none _), fun hv => ?_⟩
    rw [own.mpr fun i hi hs => (hv i hi hs).1] at h
    cases h

theorem correlate_eq_some_iff (hnd : (s.incidentList.map (·.number)).Nodup) : correlate img n s = some j ↔
    j ∈ s.incidentList ∧ j.state ≠ .closed ∧
      ((j.segment = n ∧ ∀ i ∈ s.incidentList, i.state ≠ .closed → i.segment = n → j.number ≤ i.number) ∨
        (valveNeighbours img n j.segment = true ∧ (∀ i ∈ s.incidentList, i.state ≠ .closed → i.segment ≠ n) ∧
          ∀ i ∈ s.incidentList, i.state ≠ .closed → valveNeighbours img n i.segment = true → j.number ≤ i.number)) := by
  unfold correlate
  cases h : lowestIncident s (fun x => x = n) with
  | none =>
    have none_here : ∀ i ∈ s.incidentList, i.state ≠ .closed → i.segment ≠ n := fun i hi hs => by
      simpa using lowestIncident_eq_none.mp h i hi hs
    dsimp only
    rw [lowestIncident_eq_some_iff hnd]
    constructor
    · rintro ⟨hj, hs, hv, hlow⟩
      exact ⟨hj, hs, .inr ⟨hv, none_here, hlow⟩⟩
    · rintro ⟨hj, hs, ⟨hn, -⟩ | ⟨hv, -, hlow⟩⟩
      · exact absurd hn (none_here j hj hs)
      · exact ⟨hj, hs, hv, hlow⟩
  | some x =>
    obtain ⟨hx, hxs, hxn, hxlow⟩ := (lowestIncident_eq_some_iff hnd).mp h
    simp only [decide_eq_true_eq] at hxn hxlow
    dsimp only
    rw [Option.some.injEq]
    constructor
    · rintro rfl
      exact ⟨hx, hxs, .inl ⟨hxn, hxlow⟩⟩
    · rintro ⟨hj, hs, ⟨hn, hlow⟩ | ⟨-, hno, -⟩⟩
      · have := hlow x hx hxs hxn
        have := hxlow j hj hs hn
        exact incident_of_number hnd hx hj (by omega)
      · exact absurd hxn (hno x hx hxs)

end

end Sys2Proof.Machine

/-! SUPPORT. Calls (O50). -/

namespace Sys2Proof.Machine

theorem CallClass.ofCode_none {n : Nat} (h : n = 0 ∨ 5 < n) : CallClass.ofCode n = none := by
  match n, h with
  | 0, _ => rfl
  | 1, h | 2, h | 3, h | 4, h | 5, h => omega
  | n + 6, _ => rfl

theorem CallClass.ofCode_some {n : Nat} (h1 : 1 ≤ n) (h5 : n ≤ 5) : ∃ cls, CallClass.ofCode n = some cls := by
  match n, h1, h5 with
  | 1, _, _ => exact ⟨_, rfl⟩
  | 2, _, _ => exact ⟨_, rfl⟩
  | 3, _, _ => exact ⟨_, rfl⟩
  | 4, _, _ => exact ⟨_, rfl⟩
  | 5, _, _ => exact ⟨_, rfl⟩

theorem duplicateCall_iff {n : Nat} {s : State} : duplicateCall n s = true ↔
    ∃ i ∈ s.incidentList, i.state ≠ .closed ∧ ∃ c ∈ i.calls, c.number = n := by
  simp [duplicateCall, State.openIncidents]

/-- The six steps of a joining by a call, field by field (R94 to R96). -/
theorem joinCall_eq (now grade : Nat) (cause : Causes) (c : CallEntry) (j : Incident) : joinCall now grade cause c j =
    (let calls := (if 16 ≤ j.calls.length then j.calls.drop 1 else j.calls) ++ [c]
     let base := min j.baseTime c.time
     let escalates := 3 ≤ (calls.filter fun x => now ≤ x.time + 900).length ∧ 1 < min j.grade grade ∧ j.clusterEscalated = false
     let g := if escalates then min j.grade grade - 1 else min j.grade grade
     let bound := base + attendanceLimit g
     let d := min (j.deadline.getD bound) bound
     let awaits := j.state = .opened ∨ j.state = .dispatched
     { j with
       causes := { leak := j.causes.leak || cause.leak, pressure := j.causes.pressure || cause.pressure
                   supply := j.causes.supply || cause.supply }
       grade := g
       calls := calls
       totalCalls := min (j.totalCalls + 1) 65535
       baseTime := base
       clusterEscalated := if escalates then true else j.clusterEscalated
       deadline := if awaits then some d else j.deadline
       overdue := if awaits ∧ d ≤ now then true else j.overdue }) := by
  unfold joinCall clusterStep
  dsimp only
  rw [aimDeadline_eq]
  by_cases h : 3 ≤ ((appendCall c j.calls).filter fun x => now ≤ x.time + clusterSpan).length ∧ 1 < min j.grade grade ∧
      j.clusterEscalated = false
  · rw [if_pos h]
    have escalates : 3 ≤ (((if 16 ≤ j.calls.length then j.calls.drop 1 else j.calls) ++ [c]).filter fun x =>
      now ≤ x.time + 900).length ∧ 1 < min j.grade grade ∧ j.clusterEscalated = false := h
    simp only [if_pos escalates]
    rfl
  · rw [if_neg h]
    have stays : ¬(3 ≤ (((if 16 ≤ j.calls.length then j.calls.drop 1 else j.calls) ++ [c]).filter fun x =>
      now ≤ x.time + 900).length ∧ 1 < min j.grade grade ∧ j.clusterEscalated = false) := h
    simp only [if_neg stays]
    rfl

/-- A new incident made by a call, with its deadline (R93, R96). -/
theorem makeCall_eq (now segment : Nat) (cls : CallClass) (cause : Causes) (c : CallEntry) (n : Nat) :
    makeCall now segment cls cause c n =
      { number := n, causes := cause, segment := segment, grade := cls.grade, state := .opened
        createdAt := now, baseTime := c.time, deadline := some (c.time + attendanceLimit cls.grade)
        overdue := decide (c.time + attendanceLimit cls.grade ≤ now)
        clusterEscalated := false, totalCalls := 1, calls := [c], trigPoint := none, trigElement := none
        isoStatus := .none, isoIndex := none, lastPlan := none, closedAt := none } := rfl

section

variable {s : State} {img : Image} {seg : Segment} {a : CallArgs} {cls : CallClass} (d : ControlPort)

theorem serveCall_at (hi : s.net.active = some img) (hseg : img.segment? a.segment = some seg) :
    serveCall a { s with control := d } = match CallClass.ofCode a.cls with
      | none => refuse .range { s with control := d }
      | some cls =>
        if a.number = 0 then refuse .range { s with control := d }
        else if duplicateCall a.number s then refuse .duplicate { s with control := d }
        else takeCall img a.segment cls { number := a.number, cls := cls, time := s.partTime.toNat - min a.age 3600 }
          { s with control := d } := by
  rw [serveCall, needImage_at d _ hi, hseg]
  cases CallClass.ofCode a.cls <;> rfl

/-- A call past its tests. -/
theorem serveCall_taken (hi : s.net.active = some img) (hseg : img.segment? a.segment = some seg)
    (hc : CallClass.ofCode a.cls = some cls) (hn : a.number ≠ 0)
    (hd : ∀ i ∈ s.incidentList, i.state ≠ .closed → ∀ c ∈ i.calls, c.number ≠ a.number) :
    serveCall a { s with control := d } =
      takeCall img a.segment cls { number := a.number, cls := cls, time := s.partTime.toNat - min a.age 3600 }
        { s with control := d } := by
  have fresh : ¬duplicateCall a.number s = true := fun h => by
    obtain ⟨i, hi, hs, c, hc, hcn⟩ := duplicateCall_iff.mp h
    exact hd i hi hs c hc hcn
  rw [serveCall_at d hi hseg, hc]
  dsimp only
  rw [if_neg hn, if_neg fresh]

end

/-- Settles O50: the refusals of a CALL, the incident it creates and the one it joins. -/
theorem callsCreateOrJoinAnIncident : Obligations.CallsCreateOrJoinAnIncident := by
  refine ⟨⟨rfl, rfl, rfl, rfl⟩, fun s tag a img seg ha hi hseg => ?_, fun s tag a img seg cls ha hi hseg hc hn hd => ?_⟩
  · intro refused
    refine ⟨fun h => ?_, fun i hm c hcall hn h1 h5 hs hnum => ?_⟩
    · refine (Asks.call tag a).exec_same ha fun d => ?_
      rw [serveCall_at d hi hseg]
      cases hc : CallClass.ofCode a.cls with
      | none => rfl
      | some cls =>
        have zero : a.number = 0 := h.resolve_right fun h => Option.some_ne_none cls (hc.symm.trans (CallClass.ofCode_none h))
        exact if_pos zero
    · refine (Asks.call tag a).exec_same ha fun d => ?_
      obtain ⟨cls, hc⟩ := CallClass.ofCode_some h1 h5
      rw [serveCall_at d hi hseg, hc]
      exact (if_neg hn).trans (if_pos (duplicateCall_iff.mpr ⟨i, hm, hs, c, hcall, hnum⟩))
  · intro now c grade cause unmet lowestFree earliestClosed heldBeside numberAfter
    have grade_eq : cls.grade = grade := by
      dsimp only [grade]
      cases cls <;> rfl
    have cause_eq : cls.cause ((s.seg? a.segment).map (·.state)) = cause := by
      dsimp only [cause]
      cases cls <;> rfl
    have taken (d : ControlPort) := serveCall_taken d hi hseg hc hn hd
    refine ⟨fun hunmet hfull hopen => ?_, fun k steps hunmet hslot hsteps hheld hfree => ?_, fun j hj => ?_⟩
    · refine (Asks.call tag a).exec_same ha fun e => ?_
      have alone : correlate img a.segment { s with control := e } = none := correlate_eq_none_iff.mpr hunmet
      rw [taken, takeCall]
      dsimp only
      rw [alone]
      dsimp only
      rw [createIncident_none (s := { s with control := e }) _ hfull hopen]
      rfl
    · intro d i
      have chosen : chooseSlot s.incidents.slots = some k := by
        rcases hslot with ⟨hk, hlow⟩ | ⟨hfull, x, t, hk, hx, ht, hlater⟩
        · exact chooseSlot_free hk hlow
        · exact chooseSlot_closed hfull hk hx ht hlater
      refine (Asks.call tag a).exec_notices ha (t := { s with incidents := { s.incidents with
        slots := s.incidents.slots.set k (some i), nextNumber := numberAfter i.number } })
        (l := (incidentNotice none i false (some .call) (some c)).toList) (fun e => ?_) (incidentNotice_pairwise ..)
      have alone : correlate img a.segment { s with control := e } = none := correlate_eq_none_iff.mpr hunmet
      have new : makeCall now a.segment cls cause c ((after 65535)^[steps] s.incidents.nextNumber) = i := by
        rw [makeCall_eq, grade_eq]
        rfl
      have created := createIncident_at (s := { s with control := e }) (makeCall now a.segment cls cause c) chosen hsteps
        hheld hfree
      rw [new] at created
      rw [taken, takeCall]
      dsimp only
      rw [alone]
      dsimp only
      rw [show State.seg? { s with control := e } a.segment = s.seg? a.segment from rfl, cause_eq]
      refine (congrArg (fun o : Option (State × Incident) => match o with
        | some (s, i) => (passNotices (incidentNotice none i false (some .call) (some c)).toList s, callReply i true)
        | none => refuse .full { s with control := e }) created).trans ?_
      rfl
    · intro calls base escalates g bound d awaits i
      have joined : joinCall now grade cause c j = i := joinCall_eq ..
      refine (Asks.call tag a).exec_setIncident ha (t := s) fun e => ?_
      have found : correlate img a.segment { s with control := e } = some j := hj
      rw [taken, takeCall]
      dsimp only
      rw [found]
      dsimp only
      rw [show State.seg? { s with control := e } a.segment = s.seg? a.segment from rfl, cause_eq, grade_eq]
      exact congrArg (fun x => (setIncident j x true (some .call) (some c) { s with control := e }, callReply x false)) joined

end Sys2Proof.Machine

/-! SUPPORT. Correlation and the automatic events (O51). -/

namespace Sys2Proof.Machine

/-! ### Incidents aimed and raised (R96, R99) -/

theorem attendanceLimit_one_le (g : Nat) : attendanceLimit 1 ≤ attendanceLimit g := by
  rw [show attendanceLimit 1 = 1800 from rfl]
  unfold attendanceLimit
  split <;> omega

/-- An aim at a grade followed by an aim at grade 1 is the aim at grade 1: its limit is the shortest. -/
theorem aimDeadline_raised (now : Nat) (i : Incident) :
    aimDeadline now { aimDeadline now i with grade := 1 } = aimDeadline now { i with grade := 1 } := by
  have limit := attendanceLimit_one_le i.grade
  by_cases h : i.state = .opened ∨ i.state = .dispatched
  · rw [aimDeadline_eq now i, aimDeadline_eq, aimDeadline_eq now { i with grade := 1 }]
    dsimp only
    simp only [h, if_true, true_and, Option.getD_some]
    have nearer : min (min (i.deadline.getD (i.baseTime + attendanceLimit i.grade)) (i.baseTime + attendanceLimit i.grade))
        (i.baseTime + attendanceLimit 1) =
        min (i.deadline.getD (i.baseTime + attendanceLimit 1)) (i.baseTime + attendanceLimit 1) := by
      cases i.deadline with
      | none => simp; omega
      | some x => simp only [Option.getD_some]; omega
    rw [nearer]
    by_cases hd : min (i.deadline.getD (i.baseTime + attendanceLimit 1)) (i.baseTime + attendanceLimit 1) ≤ now
    · simp only [if_pos hd]
    · have later : ¬min (i.deadline.getD (i.baseTime + attendanceLimit i.grade)) (i.baseTime + attendanceLimit i.grade) ≤ now := by
        omega
      simp only [if_neg hd, if_neg later]
  · rw [show aimDeadline now i = i from if_neg fun ha => h (awaits_iff.mp ha)]

/-- A raise by FALLING of an incident that an event has just aimed. -/
theorem raiseByFalling_aimed (now n : Nat) (i : Incident) : raiseByFalling now n (aimDeadline now i) =
    aimDeadline now { i with grade := if i.segment = n ∧ i.causes.leak = true then 1 else i.grade } := by
  have same : (aimDeadline now i).segment = i.segment ∧ (aimDeadline now i).causes = i.causes ∧
      (aimDeadline now i).grade = i.grade := by
    rw [aimDeadline_eq]
    exact ⟨rfl, rfl, rfl⟩
  have raises : ((aimDeadline now i).segment = n ∧ (aimDeadline now i).causes.leak = true ∧ (aimDeadline now i).grade ≠ 1) ↔
      (i.segment = n ∧ i.causes.leak = true ∧ i.grade ≠ 1) := by
    rw [same.1, same.2.1, same.2.2]
  by_cases h : i.segment = n ∧ i.causes.leak = true
  · by_cases hg : i.grade = 1
    · rw [if_pos h, ← hg]
      exact if_neg fun hr => (raises.mp hr).2.2 hg
    · rw [if_pos h]
      exact (if_pos (raises.mpr ⟨h.1, h.2, hg⟩)).trans (aimDeadline_raised now i)
  · rw [if_neg h]
    exact if_neg fun hr => h ⟨(raises.mp hr).1, (raises.mp hr).2.1⟩

/-- An incident set to what it is. -/
theorem setIncident_same {s : State} {j : Incident} (hnd : (s.incidentList.map (·.number)).Nodup) (hj : j ∈ s.incidentList)
    (source : Option JoinSource) : setIncident j j false source none s = s := by
  have slots : (s.incidents.slots.map fun x => x.map fun i => if i.number = j.number then j else i) = s.incidents.slots := by
    conv_rhs => rw [← List.map_id s.incidents.slots]
    refine List.map_congr_left fun x hx => ?_
    cases x with
    | none => rfl
    | some i =>
      have hi : i ∈ s.incidentList := List.mem_filterMap.mpr ⟨some i, hx, rfl⟩
      by_cases h : i.number = j.number
      · rw [Option.map_some, if_pos h, incident_of_number hnd hi hj h]
        rfl
      · rw [Option.map_some, if_neg h]
        rfl
  unfold setIncident
  rw [incidentNotice_changed, if_pos ⟨rfl, rfl, fun h => Bool.false_ne_true (h.1.symm.trans h.2), rfl, rfl⟩]
  exact congrArg (fun l => { s with incidents := { s.incidents with slots := l } }) slots

/-! ### Automatic events (R98 to R101) -/

section

variable {s : State} {img : Image} {e : AutoEvent} {also : Incident → Incident}

theorem autoEvent_joins {j : Incident} (hi : s.net.active = some img) (hc : correlate img e.segment s = some j) :
    autoEvent e also s = setIncident j (also (joinAuto s.partTime.toNat e j)) true (some e.source) none s := by
  unfold autoEvent
  rw [hi]
  dsimp only
  rw [hc]
  rfl

theorem autoEvent_creates {k : Nat} (hi : s.net.active = some img) (hc : correlate img e.segment s = none)
    (hk : s.incidents.slots[k]? = some none) (hlow : ∀ j, j < k → s.incidents.slots[j]? ≠ some none)
    (hfree : ∀ i ∈ s.incidentList, i.number ≠ s.incidents.nextNumber) :
    autoEvent e also s = passNotices
      (incidentNotice none (makeAuto s.partTime.toNat e s.incidents.nextNumber) false (some e.source) none).toList
      { s with incidents := { s.incidents with
          slots := s.incidents.slots.set k (some (makeAuto s.partTime.toNat e s.incidents.nextNumber))
          nextNumber := after 65535 s.incidents.nextNumber } } := by
  have created := createIncident_at (s := s) (steps := 0) (makeAuto s.now e) (chooseSlot_free hk hlow) (by omega)
    (fun j hj => absurd hj (Nat.not_lt_zero j)) (by
      rintro ⟨l, x, -, hx, hn⟩
      exact hfree x (List.mem_filterMap.mpr ⟨some x, List.mem_of_getElem? hx, rfl⟩) hn)
  unfold autoEvent
  rw [hi]
  dsimp only
  rw [hc]
  dsimp only
  rw [created]
  rfl

theorem autoEvent_notMade (hi : s.net.active = some img) (hc : correlate img e.segment s = none)
    (hfull : ∀ j : Nat, s.incidents.slots[j]? ≠ some none) (hopen : ∀ i ∈ s.incidentList, i.state ≠ .closed) :
    autoEvent e also s = passNotice
      (.notMade { segment := e.segment, causes := e.causes, grade := e.grade, trigPoint := e.point
                  trigElement := e.element })
      { s with incidents := { s.incidents with full := true } } := by
  unfold autoEvent
  rw [hi]
  dsimp only
  rw [hc]
  dsimp only
  rw [createIncident_none _ hfull hopen]

/-- An incident made by an automatic event, with its deadline (R96, R98, R100). -/
theorem makeAuto_eq (now : Nat) (e : AutoEvent) (n : Nat) : makeAuto now e n =
    { number := n, causes := e.causes, segment := e.segment, grade := e.grade, state := .opened
      createdAt := now, baseTime := now, deadline := some (now + attendanceLimit e.grade), overdue := false
      clusterEscalated := false, totalCalls := 0, calls := [], trigPoint := e.point, trigElement := e.element
      isoStatus := .none, isoIndex := none, lastPlan := none, closedAt := none } := by
  have limit : ¬now + attendanceLimit e.grade ≤ now := by
    have : attendanceLimit 1 = 1800 := rfl
    have := attendanceLimit_one_le e.grade
    omega
  unfold makeAuto
  rw [aimDeadline_eq]
  simp only [newIncident, Option.getD_none, Nat.min_self, true_or, if_true, true_and, if_neg limit]

end

/-! ### Samples (R64, R98, R99) -/

section

variable {s : State} {p n : Nat} {old new : Band} {falling expected : Bool}

/-- The entry of a point into LOWLOW or HIGHHIGH, as an automatic event (R98). -/
def pressureEvent (n p : Nat) : AutoEvent :=
  { segment := n, causes := causePressure, grade := 2, point := some p, element := none, source := .pressure p }

/-- A supply loss, as an automatic event (R100). -/
def supplyEvent (n grade element : Nat) : AutoEvent :=
  { segment := n, causes := causeSupply, grade := grade, point := none
    element := if element = 0 then none else some element, source := .supply element }

theorem joinAuto_pressure (now : Nat) (j : Incident) : joinAuto now (pressureEvent n p) j =
    aimDeadline now { j with causes := { j.causes with pressure := true }, grade := min j.grade 2, trigPoint := some p } := by
  have causes : j.causes.union causePressure = { j.causes with pressure := true } := by
    simp [Causes.union, causePressure]
  show aimDeadline now { j with causes := j.causes.union causePressure, grade := min j.grade 2, trigPoint := some p } = _
  rw [causes]

theorem joinAuto_supply (now grade element : Nat) (j : Incident) : joinAuto now (supplyEvent n grade element) j =
    aimDeadline now { j with
      causes := { j.causes with supply := true }
      grade := min j.grade grade
      trigElement := if element = 0 then j.trigElement else some element } := by
  have causes : j.causes.union causeSupply = { j.causes with supply := true } := by simp [Causes.union, causeSupply]
  unfold joinAuto supplyEvent
  rw [causes]
  by_cases h : element = 0 <;> simp [h]

theorem segLive_iff : segLive s n = true ↔ ∃ x, s.seg? n = some x ∧ x.state = .live := by
  simp [segLive, Option.any_eq_true]

theorem entersExtreme_iff : entersExtreme old new = true ↔
    (new = .lowLow ∧ old ≠ .lowLow) ∨ (new = .highHigh ∧ old ≠ .highHigh) := by
  simp [entersExtreme]

theorem sampleIncidents_still (h : ¬(∃ x, s.seg? n = some x ∧ x.state = .live) ∨ expected = true) :
    sampleIncidents p n old new falling expected s = s := by
  unfold sampleIncidents
  rw [if_pos]
  rw [Bool.or_eq_true, Bool.not_eq_true', ← Bool.not_eq_true, segLive_iff]
  exact h.symm

theorem sampleIncidents_acts (hl : ∃ x, s.seg? n = some x ∧ x.state = .live) (he : expected = false) :
    sampleIncidents p n old new falling expected s =
      if (new = .lowLow ∧ old ≠ .lowLow) ∨ (new = .highHigh ∧ old ≠ .highHigh) then
        autoEvent (pressureEvent n p)
          (fun i => if falling then raiseByFalling s.partTime.toNat n i else i) s
      else if falling then fallingEvent p n s else s := by
  unfold sampleIncidents
  rw [if_neg (by rw [he, segLive_iff.mpr hl]; decide)]
  simp only [entersExtreme_iff] <;> rfl

theorem fallingEvent_none (h : ∀ i ∈ s.incidentList, ¬(i.state ≠ .closed ∧ i.segment = n ∧ i.causes.leak = true)) :
    fallingEvent p n s = s := by
  have none_found : s.incidentList.find? (fun i => i.state ≠ .closed && i.segment = n && i.causes.leak) = none := by
    rw [List.find?_eq_none]
    intro i hi hp
    exact h i hi (by simpa [and_assoc] using hp)
  unfold fallingEvent
  rw [none_found]

theorem fallingEvent_at {j : Incident} (hj : j ∈ s.incidentList) (hs : j.state ≠ .closed) (hn : j.segment = n)
    (hleak : j.causes.leak = true) (honly : ∀ i ∈ s.incidentList, i.state ≠ .closed → i.segment = n → i = j) :
    fallingEvent p n s = setIncident j (raiseByFalling s.partTime.toNat n j) false (some (.falling p)) none s := by
  have found : s.incidentList.find? (fun i => i.state ≠ .closed && i.segment = n && i.causes.leak) = some j := by
    cases h : s.incidentList.find? (fun i => i.state ≠ .closed && i.segment = n && i.causes.leak) with
    | none => exact absurd (List.find?_eq_none.mp h j hj) (by simp [hs, hn, hleak])
    | some i =>
      have holds := List.find?_some h
      simp only [ne_eq, decide_not, Bool.and_eq_true, Bool.not_eq_true', decide_eq_false_iff_not, decide_eq_true_eq] at holds
      obtain ⟨⟨hi, hin⟩, -⟩ := holds
      rw [honly i (List.mem_of_find?_eq_some h) hi hin]
  unfold fallingEvent
  rw [found]
  rfl

/-- The readings that count as faulted (R50). -/
theorem faultOf_isSome_iff {count : Nat} {faulty : Bool} : (faultOf count faulty).isSome = true ↔ faulty = true ∨ count < 760 := by
  unfold faultOf
  split
  · simp_all
  · split <;> simp_all [liveZero]

end

/-- Settles O51: correlation, and the automatic events of samples and supply losses. -/
theorem correlationFindsTheLowestIncident : Obligations.CorrelationFindsTheLowestIncident := by
  intro s img n hnd
  refine ⟨correlate_eq_none_iff, fun j => correlate_eq_some_iff hnd, fun hi => ?_⟩
  intro now aimed made notMade lowestFree noSlot pressure supply
  have aimed_eq (i : Incident) : aimDeadline now i = aimed i := aimDeadline_eq now i
  have creates {e : AutoEvent} {also : Incident → Incident} (hn : e.segment = n) {k : Nat} (hc : correlate img n s = none)
      (hk : lowestFree k) : autoEvent e also s = made k e.grade e.causes e.point e.element e.source := by
    subst hn
    obtain ⟨hk, hlow, hfree⟩ := hk
    rw [autoEvent_creates hi hc hk hlow hfree, makeAuto_eq]
    rfl
  have not_made {e : AutoEvent} {also : Incident → Incident} (hn : e.segment = n) (hc : correlate img n s = none)
      (hno : noSlot) : autoEvent e also s = notMade e.grade e.causes e.point e.element := by
    subst hn
    exact autoEvent_notMade hi hc hno.1 hno.2
  refine ⟨fun p old new falling expected => ?_, fun lost element => ?_, fun h p x seg r hr ht hn => ?_⟩
  · intro live extreme t
    refine ⟨sampleIncidents_still, fun hl he hx => ?_, fun hl he hx => ?_⟩
    · have acts : t = _ := (sampleIncidents_acts hl he).trans (if_pos hx)
      refine ⟨fun j hj => ?_, fun k hc hk => acts.trans (creates rfl hc hk), fun hc hno => acts.trans (not_made rfl hc hno)⟩
      have joined : (if falling = true then raiseByFalling now n (joinAuto now (pressureEvent n p) j)
          else joinAuto now (pressureEvent n p) j) =
          aimed { j with
            causes := { j.causes with pressure := true }
            grade := if falling = true ∧ j.segment = n ∧ j.causes.leak = true then 1 else min j.grade 2
            trigPoint := some p } := by
        rw [joinAuto_pressure, raiseByFalling_aimed, ← aimed_eq]
        cases falling <;> simp
      rw [acts, autoEvent_joins hi hj]
      exact congrArg (fun i => setIncident j i true (some (.pressure p)) none s) joined
    · have acts : t = _ := (sampleIncidents_acts hl he).trans (if_neg hx)
      refine ⟨fun hf => acts.trans (if_neg (by rw [hf]; exact Bool.false_ne_true)), fun hno => ?_,
        fun j hj hf hs hjn hleak honly => ?_⟩
      · rw [acts, fallingEvent_none hno, ite_self]
      · have falls : t = setIncident j (raiseByFalling now n j) false (some (.falling p)) none s :=
          acts.trans ((if_pos hf).trans (fallingEvent_at hj hs hjn hleak honly))
        refine ⟨fun hg => ?_, fun hg => ?_⟩
        · rw [falls, raiseByFalling, if_pos ⟨hjn, hleak, hg⟩, aimed_eq]
        · rw [falls, raiseByFalling, if_neg fun h => h.2.2 hg]
          exact setIncident_same hnd hj _
  · intro grade trig t
    have grade_eq : (if (n :: lost).any s.guardedSegment then 1 else 2) = grade := by
      have guarded : (n :: lost).any s.guardedSegment = true ↔
          ∃ m ∈ n :: lost, ∃ seg, img.segment? m = some seg ∧ seg.guarded = true := by
        simp only [List.any_eq_true, State.guardedSegment, State.segTopo?, hi, Option.bind_some, Option.any_eq_true]
      simp only [guarded]
      rfl
    have acts : t = autoEvent (supplyEvent n grade element) id s := by
      rw [← grade_eq]
      rfl
    refine ⟨rfl, fun j hj => ?_, fun k hc hk => acts.trans (creates rfl hc hk), fun hc hno => acts.trans (not_made rfl hc hno)⟩
    rw [acts, autoEvent_joins hi hj]
    exact congrArg (fun i => setIncident j i true (some (.supply element)) none s) ((joinAuto_supply ..).trans (aimed_eq _))
  · intro new
    have segment : s.segmentOfPoint p = n := by
      rw [← hn, State.segmentOfPoint, ht]
      rfl
    have reads : readingEvent h p x s = if (faultOf x.count x.faulty).isSome = true then setPoint new s
        else sampleIncidents p n r.band new.band (!r.falling && new.falling) new.expected
          (sampleEvent h.pass p n (setPoint new s)) := by
      unfold readingEvent
      rw [hr, segment]
      rfl
    refine ⟨fun hf => reads.trans (if_pos (faultOf_isSome_iff.mpr hf)), fun hf hc => ?_⟩
    have sound : ¬(faultOf x.count x.faulty).isSome = true := fun h => by
      rcases faultOf_isSome_iff.mp h with h | h
      · rw [hf] at h
        cases h
      · omega
    have set : (!r.falling && new.falling) = decide (r.falling = false ∧ new.falling = true) := by
      cases r.falling <;> cases new.falling <;> rfl
    rw [reads, if_neg sound, set]

end Sys2Proof.Machine

/-! SUPPORT. The tests of EXECUTE and its steps (O57). -/

namespace Sys2Proof.Machine

/-! ### Records to be (R155, R157) -/

theorem newEntry_eq (now : Nat) (x : Nat × OpClass) : newEntry now x =
    { element := x.1, cls := x.2, step := if x.2 = .remote then .toClose else .crewClose, order := 0, last := none
      stepTime := now } := by
  unfold newEntry
  cases x.2 <;> rfl

theorem entry?_isNone_iff {r : IsoRecord} {n : Nat} : (r.entry? n).isNone = true ↔ ∀ e ∈ r.entries, e.element ≠ n := by
  simp [IsoRecord.entry?]

theorem toPlace_iff {e : Entry} : e.toPlace = true ↔ e.step = .toClose ∧ e.order = 0 := by simp [Entry.toPlace]

/-- A plan merged into a record, by what becomes of each entry (R157). -/
theorem mergeRecord_eq (now : Nat) (p : Plan) (override : Bool) (q : IsoRecord) : mergeRecord now p override q =
    { q with
      override := override
      executions := min (q.executions + 1) 65535
      lastPlan := p.number
      zone := q.zone ++ p.zone.filter fun n => n ∉ q.zone
      entries := q.entries.filterMap (mergeEntry now p.close)
        ++ (p.close.filter fun x => ∀ e ∈ q.entries, e.element ≠ x.1).map (newEntry now) } := by
  have zone : (p.zone.filter fun n => !q.zone.contains n) = p.zone.filter fun n => n ∉ q.zone :=
    List.filter_congr fun n _ => by simp
  have fresh : (p.close.filter fun x => (q.entry? x.1).isNone) =
      p.close.filter fun x => ∀ e ∈ q.entries, e.element ≠ x.1 :=
    List.filter_congr fun x _ => by rw [Bool.eq_iff_iff, entry?_isNone_iff, decide_eq_true_eq]
  rw [mergeRecord, zone, fresh]

/-! ### The tests (R154) -/

theorem overlaps_iff {p : Plan} {s : State} : overlaps p s = true ↔
    ∃ x ∈ p.close, ∃ j q, s.recordHolding x.1 = some j ∧ s.record? j = some q ∧ q.incident ≠ p.incident := by
  simp only [overlaps, List.any_eq_true, Option.any_eq_true, Option.bind_eq_some_iff, decide_eq_true_eq]
  constructor
  · rintro ⟨x, hx, q, ⟨j, hj, hq⟩, hne⟩
    exact ⟨x, hx, j, q, hj, hq, hne⟩
  · rintro ⟨x, hx, j, q, hj, hq, hne⟩
    exact ⟨x, hx, q, ⟨j, hj, hq⟩, hne⟩

/-- The lowest free record. -/
theorem freeRecord_iff {l : List (Option IsoRecord)} {k : Nat} : l.findIdx? (·.isNone) = some k ↔
    l[k]? = some none ∧ ∀ j, j < k → l[j]? ≠ some none := by
  rw [List.findIdx?_eq_some_iff_getElem]
  constructor
  · rintro ⟨hk, hfree, hlow⟩
    refine ⟨by rw [List.getElem?_eq_getElem hk, Option.isNone_iff_eq_none.mp hfree], fun j hj h => hlow j hj ?_⟩
    rw [List.getElem?_eq_getElem (by omega)] at h
    rw [Option.some.inj h]
    rfl
  · rintro ⟨hk, hlow⟩
    obtain ⟨hlt, hfree⟩ := List.getElem?_eq_some_iff.mp hk
    refine ⟨hlt, by rw [hfree]; rfl, fun j hj h => hlow j hj ?_⟩
    rw [List.getElem?_eq_getElem (by omega), Option.isNone_iff_eq_none.mp h]

section

variable {s : State} {p : Plan} {i : Incident} {override : Bool} {k : Nat} {r : IsoRecord}

/-- The record of an EXECUTE for an incident of status NONE (R154, R155). -/
theorem executeRecord_first (hi : i.isoStatus = .none) : executeRecord p override i s = .ok (k, r) ↔
    s.register.records[k]? = some none ∧ (∀ j, j < k → s.register.records[j]? ≠ some none) ∧
      r = newRecord s.partTime.toNat p override := by
  rw [executeRecord, if_pos hi, ← and_assoc, ← freeRecord_iff]
  cases s.register.records.findIdx? (·.isNone) with
  | none => simp
  | some j =>
    simp only [Except.ok.injEq, Prod.mk.injEq, Option.some.injEq]
    exact and_congr_right fun _ => eq_comm

theorem executeRecord_noSlot (hi : i.isoStatus = .none) (h : ∀ q ∈ s.register.records, q ≠ none) :
    executeRecord p override i s = .error .noSlot := by
  have full : s.register.records.findIdx? (·.isNone) = none := by
    rw [List.findIdx?_eq_none_iff]
    intro q hq
    exact Option.isNone_eq_false_iff.mpr (Option.isSome_iff_ne_none.mpr (h q hq))
  rw [executeRecord, if_pos hi, full]

/-- The record of an EXECUTE for an incident of any other status: its own, with the plan merged in (R157). -/
theorem executeRecord_merged (hi : i.isoStatus ≠ .none) {q : IsoRecord} (hk : s.recordOf i.number = some k)
    (hq : s.record? k = some q) : executeRecord p override i s =
      if 24 < (mergeRecord s.partTime.toNat p override q).zone.length ∨
        48 < (mergeRecord s.partTime.toNat p override q).entries.length then .error .elementLimit
      else .ok (k, mergeRecord s.partTime.toNat p override q) := by
  rw [executeRecord, if_neg hi, hk]
  dsimp only
  rw [hq]
  rfl

theorem executeRecord_merged_ok (hi : i.isoStatus ≠ .none) (h : executeRecord p override i s = .ok (k, r)) :
    s.recordOf i.number = some k ∧ ∃ q, s.record? k = some q ∧ r = mergeRecord s.partTime.toNat p override q ∧
      r.zone.length ≤ 24 ∧ r.entries.length ≤ 48 := by
  cases hk : s.recordOf i.number with
  | none =>
    rw [executeRecord, if_neg hi, hk] at h
    cases h
  | some j =>
    cases hq : s.record? j with
    | none =>
      rw [executeRecord, if_neg hi, hk] at h
      dsimp only at h
      rw [hq] at h
      cases h
    | some q =>
      rw [executeRecord_merged hi hk hq] at h
      split at h
      · cases h
      · next hlimit =>
        obtain ⟨rfl, rfl⟩ := Prod.mk.inj (Except.ok.inj h)
        exact ⟨rfl, q, hq, rfl, by omega, by omega⟩

variable {a : ExecuteArgs}

theorem executeTests_stale (hb : s.planner.buffer = .held p) (hn : p.number = a.plan) (hr : p.result = some .ok)
    (h : p.startBasis ≠ s.net.basis) : executeTests a s = .error .stalePlan := by
  unfold executeTests
  rw [hb]
  dsimp only
  rw [if_neg (by simp [hn, hr]), if_pos h]

/-- The tests of an EXECUTE from the incident on. -/
theorem executeTests_held (hb : s.planner.buffer = .held p) (hn : p.number = a.plan) (hr : p.result = some .ok)
    (h : p.startBasis = s.net.basis) (hi : s.incident? p.incident = some i) :
    executeTests a s =
      if i.state ≠ .closed ∧ (i.isoStatus = .none ∨ i.isoStatus = .partially) then
        match executeRecord p a.override i s with
        | .error c => .error c
        | .ok (k, r) =>
          if overlaps p s then .error .overlap
          else if p.guardedCount ≠ 0 ∧ a.override = false then .error .guarded
          else if 32 < s.elements.queue.length + (r.entries.filter (·.toPlace)).length then .error .full
          else .ok (p, k, r)
      else .error .state := by
  have test : (!plannable i) = true ↔ ¬(i.state ≠ .closed ∧ (i.isoStatus = .none ∨ i.isoStatus = .partially)) := by
    rw [Bool.not_eq_true', ← Bool.not_eq_true, plannable_iff]
  unfold executeTests
  rw [hb]
  dsimp only
  rw [if_neg (by simp [hn, hr]), if_neg (not_not.mpr h), hi]
  by_cases hp : i.state ≠ .closed ∧ (i.isoStatus = .none ∨ i.isoStatus = .partially)
  · rw [if_pos hp]
    exact (if_neg fun ht => test.mp ht hp)
  · rw [if_neg hp]
    exact (if_pos (test.mpr hp))

theorem executeTests_error (hb : s.planner.buffer = .held p) (hn : p.number = a.plan) (hr : p.result = some .ok)
    (h : p.startBasis = s.net.basis) (hi : s.incident? p.incident = some i)
    (hok : i.state ≠ .closed ∧ (i.isoStatus = .none ∨ i.isoStatus = .partially)) {c : Code}
    (hrec : executeRecord p a.override i s = .error c) : executeTests a s = .error c := by
  rw [executeTests_held hb hn hr h hi, if_pos hok, hrec]

theorem executeTests_record (hb : s.planner.buffer = .held p) (hn : p.number = a.plan) (hr : p.result = some .ok)
    (h : p.startBasis = s.net.basis) (hi : s.incident? p.incident = some i)
    (hok : i.state ≠ .closed ∧ (i.isoStatus = .none ∨ i.isoStatus = .partially))
    (hrec : executeRecord p a.override i s = .ok (k, r)) : executeTests a s =
      if overlaps p s then .error .overlap
      else if p.guardedCount ≠ 0 ∧ a.override = false then .error .guarded
      else if 32 < s.elements.queue.length + (r.entries.filter (·.toPlace)).length then .error .full
      else .ok (p, k, r) := by
  rw [executeTests_held hb hn hr h hi, if_pos hok, hrec]

/-- What an EXECUTE past its tests has met. -/
theorem executeTests_ok {q : Plan} (h : executeTests a s = .ok (q, k, r)) :
    s.planner.buffer = .held q ∧ q.number = a.plan ∧ q.result = some .ok ∧ q.startBasis = s.net.basis ∧
    ∃ i, s.incident? q.incident = some i ∧ i.state ≠ .closed ∧ (i.isoStatus = .none ∨ i.isoStatus = .partially) ∧
      executeRecord q a.override i s = .ok (k, r) ∧ ¬overlaps q s = true ∧
      ¬(q.guardedCount ≠ 0 ∧ a.override = false) ∧
      ¬32 < s.elements.queue.length + (r.entries.filter (·.toPlace)).length := by
  cases hb : s.planner.buffer with
  | empty =>
    rw [executeTests, hb] at h
    cases h
  | computing p c =>
    rw [executeTests, hb] at h
    cases h
  | held p =>
    by_cases hn : p.number = a.plan ∧ p.result = some .ok
    · by_cases hs : p.startBasis = s.net.basis
      · cases hi : s.incident? p.incident with
        | none =>
          unfold executeTests at h
          rw [hb] at h
          dsimp only at h
          rw [if_neg (by simp [hn]), if_neg (not_not.mpr hs), hi] at h
          cases h
        | some i =>
          rw [executeTests_held hb hn.1 hn.2 hs hi] at h
          split at h
          · next hp =>
            split at h
            · cases h
            · next k' r' hr =>
              split at h
              · cases h
              · next hover =>
                split at h
                · cases h
                · next hg =>
                  split at h
                  · cases h
                  · next hfull =>
                    obtain ⟨rfl, hkr⟩ := Prod.mk.inj (Except.ok.inj h)
                    obtain ⟨rfl, rfl⟩ := Prod.mk.inj hkr
                    exact ⟨rfl, hn.1, hn.2, hs, i, hi, hp.1, hp.2, hr, hover, hg, hfull⟩
          · cases h
      · rw [executeTests_stale hb hn.1 hn.2 hs] at h
        cases h
    · unfold executeTests at h
      rw [hb] at h
      dsimp only at h
      rw [if_pos (not_and_or.mp hn)] at h
      cases h

end

/-! ### The steps (R155) -/

theorem runExecute_eq {s : State} {k : Nat} {r : IsoRecord} (hk : k < s.register.records.length) :
    runExecute k r s = reportStatus r.incident (passRecord .plain ⟨dispatchInPass, id, activateInPass⟩ k
      ((r.entries.map (·.element)).foldl (fun u e => placeClosing (hooksTop .plain) k e u)
        { s with
          planner := { s.planner with buffer := .empty }
          register := { records := s.register.records.set k (some r) }
          incidents := { s.incidents with slots := (s.incidents.slots.map fun x =>
            x.map fun y => if y.number = r.incident then
              { y with isoStatus := .executing, isoIndex := some (k + 1) } else y) } })) := by
  have found : State.record? { s with register := { records := s.register.records.set k (some r) } } k = some r := by
    simp [State.record?, hk]
  have closings : placeClosings (hooksTop .plain) k ((emptyBuffer (setRecord k r s)).updIncident r.incident fun i =>
      { i with isoStatus := .executing, isoIndex := some (k + 1) }) =
      (r.entries.map (·.element)).foldl (fun u e => placeClosing (hooksTop .plain) k e u)
        ((emptyBuffer (setRecord k r s)).updIncident r.incident fun i =>
          { i with isoStatus := .executing, isoIndex := some (k + 1) }) := by
    have here : ((emptyBuffer (setRecord k r s)).updIncident r.incident fun i =>
      { i with isoStatus := .executing, isoIndex := some (k + 1) }).record? k = some r := found
    rw [placeClosings, here]
  unfold runExecute
  dsimp only
  rw [closings]
  rfl

/-- Settles O57: the tests of an EXECUTE, the record it takes, and its steps. -/
theorem executeIsCarriedOutOnlyPastItsTests : Obligations.ExecuteIsCarriedOutOnlyPastItsTests := by
  refine ⟨fun s k r hk => ?_, fun s tag a img ha hi => ?_⟩
  · intro taken placed passed
    have run : runExecute k r s = reportStatus r.incident passed := runExecute_eq hk
    refine ⟨fun i hi => ?_, fun hi => ?_⟩
    · rw [run, reportStatus, hi]
    · rw [run, reportStatus, hi]
  intro fresh first merged orders overlapping taken refused
  have fresh_eq : newEntry s.partTime.toNat = fresh := funext fun x => newEntry_eq _ x
  have first_eq (p : Plan) : newRecord s.partTime.toNat p a.override = first p := by
    rw [newRecord, fresh_eq]
  have merged_eq (p : Plan) (q : IsoRecord) : mergeRecord s.partTime.toNat p a.override q = merged p q := by
    have entry : mergeEntry s.partTime.toNat p.close = fun e => match p.close.find? fun x => x.1 = e.element with
        | some x => some (fresh x)
        | none => if e.step = .closeFailed then none else some e := by
      funext e
      rw [mergeEntry, fresh_eq] <;> cases p.close.find? fun x => x.1 = e.element <;> rfl
    rw [mergeRecord_eq, fresh_eq, entry] <;> rfl
  have orders_eq (r : IsoRecord) : (r.entries.filter (·.toPlace)).length = orders r :=
    congrArg List.length (List.filter_congr fun e _ => by rw [Bool.eq_iff_iff, toPlace_iff, decide_eq_true_eq])
  have record_iff {p : Plan} {i : Incident} (hinc : s.incident? p.incident = some i)
      (hiso : i.isoStatus = .none ∨ i.isoStatus = .partially) (k : Nat) (r : IsoRecord) :
      executeRecord p a.override i s = .ok (k, r) ↔ taken p i k r := by
    have number : i.number = p.incident := (State.incident?_mem hinc).2
    constructor
    · intro h
      rcases hiso with h0 | h0
      · obtain ⟨hfree, hlow, hr⟩ := (executeRecord_first h0).mp h
        exact .inl ⟨h0, hfree, hlow, hr.trans (first_eq p)⟩
      · obtain ⟨hk, q, hq, hr, hz, he⟩ := executeRecord_merged_ok (by rw [h0]; exact IsoStatus.noConfusion) h
        exact .inr ⟨h0, number ▸ hk, q, hq, hr.trans (merged_eq p q), hz, he⟩
    · rintro (⟨h0, hfree, hlow, hr⟩ | ⟨h0, hk, q, hq, hr, hz, he⟩)
      · exact (executeRecord_first h0).mpr ⟨hfree, hlow, hr.trans (first_eq p).symm⟩
      · have limit : ¬(24 < (merged p q).zone.length ∨ 48 < (merged p q).entries.length) := by
          rw [← hr]
          omega
        rw [executeRecord_merged (by rw [h0]; exact IsoStatus.noConfusion) (number.symm ▸ hk) hq, merged_eq, if_neg limit, hr]
  have refuses {c : Code} (h : executeTests a s = .error c) : refused c :=
    (Asks.execute tag a).exec_same ha fun d => by
      have here : executeTests a { s with control := d } = .error c := h
      rw [serveExecute, needImage_at d _ hi, here]
      rfl
  refine ⟨fun p k r h => ?_, fun c => refuses, fun h => refuses ?_, fun p hb => ⟨fun h => refuses ?_, fun hn hr =>
    ⟨fun h => refuses (executeTests_stale hb hn hr h), fun hs => ⟨fun h => refuses ?_, fun i hinc hst => ?_⟩⟩⟩⟩
  · obtain ⟨hb, hn, hr, hs, i, hinc, hst, hiso, hrec, hover, hg, hfull⟩ := executeTests_ok h
    refine ⟨hb, hn, hr, hs, ⟨i, hinc, hst, hiso, (record_iff hinc hiso k r).mp hrec⟩, fun x hx j q hj hq => ?_, ?_, ?_, ?_⟩
    · by_contra hne
      exact hover (overlaps_iff.mpr ⟨x, hx, j, q, hj, hq, hne⟩)
    · by_contra hno
      obtain ⟨h0, hov⟩ := not_or.mp hno
      exact hg ⟨h0, by simpa using hov⟩
    · rw [← orders_eq]
      omega
    · refine (Asks.execute tag a).exec_event ha (t := s) fun d => ?_
      have here : executeTests a { s with control := d } = .ok (p, k, r) := h
      rw [serveExecute, needImage_at d _ hi, here]
      dsimp only
      rw [orders_eq]
  · unfold executeTests
    cases hb : s.planner.buffer with
    | empty => rfl
    | computing p c => rfl
    | held p => exact absurd hb (h p)
  · unfold executeTests
    rw [hb]
    exact if_pos h
  · cases hinc : s.incident? p.incident with
    | none =>
      unfold executeTests
      rw [hb]
      dsimp only
      rw [if_neg (by simp [hn, hr]), if_neg (not_not.mpr hs), hinc]
    | some i =>
      rw [executeTests_held hb hn hr hs hinc, if_neg]
      rintro ⟨hst, hiso⟩
      rcases h i hinc with hc | ⟨h1, h2⟩
      · exact hst hc
      · exact hiso.elim h1 h2
  · have number : i.number = p.incident := (State.incident?_mem hinc).2
    refine ⟨fun hiso hfull => ?_, fun k q hiso hk hq hlimit => ?_, fun k r htaken => ?_⟩
    · exact refuses (executeTests_error hb hn hr hs hinc ⟨hst, .inl hiso⟩ (executeRecord_noSlot hiso hfull))
    · refine refuses (executeTests_error hb hn hr hs hinc ⟨hst, .inr hiso⟩ ?_)
      rw [executeRecord_merged (by rw [hiso]; exact IsoStatus.noConfusion) (number.symm ▸ hk) hq, merged_eq, if_pos hlimit]
    · have hiso : i.isoStatus = .none ∨ i.isoStatus = .partially := htaken.imp And.left And.left
      have tests := executeTests_record hb hn hr hs hinc ⟨hst, hiso⟩ ((record_iff hinc hiso k r).mpr htaken)
      rw [orders_eq] at tests
      have apart (h : ¬overlapping p) : ¬overlaps p s = true := fun ho => h (overlaps_iff.mp ho)
      have unguarded (h : p.guardedCount = 0 ∨ a.override = true) : ¬(p.guardedCount ≠ 0 ∧ a.override = false) := by
        rintro ⟨h0, hov⟩
        rcases h with h | h
        · exact h0 h
        · rw [hov] at h
          cases h
      refine ⟨fun ho => refuses (tests.trans (if_pos (overlaps_iff.mpr ho))), fun ho h0 hov => refuses ?_,
        fun ho hg hfull => refuses ?_, fun ho hg hroom => ?_⟩
      · rw [tests, if_neg (apart ho), if_pos ⟨h0, hov⟩]
      · rw [tests, if_neg (apart ho), if_neg (unguarded hg), if_pos hfull]
      · rw [tests, if_neg (apart ho), if_neg (unguarded hg), if_neg (by omega)]

end Sys2Proof.Machine

/-! SUPPORT. Requests, reports and acknowledgements read back from their frames (O59). -/

namespace Sys2Proof.Machine

/-! ### Fields (R180) -/

section

variable {off w n : Nat} {i : Int}

theorem num_head (c : List Byte) (h : fieldOk w n = true) : Layout.num 0 w (leBytes w n ++ c) = n :=
  Layout.num_mid 0 w n [] c rfl ((fieldOk_iff w n).mp h)

theorem num_last (h : fieldOk w n = true) : Layout.num 0 w (leBytes w n) = n := by
  simpa using num_head [] h

theorem num_skip (a c : List Byte) (h : a.length ≤ off) : Layout.num off w (a ++ c) = Layout.num (off - a.length) w c := by
  rw [Layout.num, Layout.num, List.drop_append, List.drop_of_length_le h, List.nil_append]

theorem int_head (c : List Byte) (h : signedOk w i = true) : Layout.int 0 w (signedBytes w i ++ c) = i := by
  obtain ⟨hlo, hhi⟩ : -(256 ^ w : Nat) ≤ 2 * i ∧ 2 * i < (256 ^ w : Nat) := by simpa [signedOk] using h
  exact Layout.int_mid 0 w i [] c rfl hlo hhi

theorem int_skip (a c : List Byte) (h : a.length ≤ off) : Layout.int off w (a ++ c) = Layout.int (off - a.length) w c := by
  rw [Layout.int, Layout.int, List.drop_append, List.drop_of_length_le h, List.nil_append]

theorem flag_head (b : Bool) (c : List Byte) : Layout.flag 0 (flagBytes b ++ c) = b := Layout.flag_mid 0 b [] c rfl

theorem flag_last (b : Bool) : Layout.flag 0 (flagBytes b) = b := by simpa using flag_head b []

theorem flag_skip (a c : List Byte) (h : a.length ≤ off) : Layout.flag off (a ++ c) = Layout.flag (off - a.length) c := by
  rw [Layout.flag, Layout.flag, num_skip a c h]

end

/-! ### Bodies (R168, 11.3.1) -/

theorem and_right {x y : Bool} (h : (x && y) = true) : y = true := ((Bool.and_eq_true x y).mp h).2

/-- A layout reads back what is written to it, and what it does not read it leaves as it is. -/
structure Codec {α : Type} (args : α → Bool) (write : α → List Byte) (read : List Byte → Body α) : Prop where
  fits : ∀ a, args a = true → read (write a) = .fits a
  misfit : ∀ l x, read l = .misfit x → x = l

section

variable {α : Type} {args : α → Bool} {write : α → List Byte} {read : List Byte → Body α}

theorem Codec.read_bytes (h : Codec args write read) {b : Body α} (hb : b.ok args read = true) :
    read (b.bytes write) = b := by
  cases b with
  | fits a => exact h.fits a hb
  | misfit l =>
    have unread : (match read l with | .misfit _ => true | .fits _ => false) = true :=
      and_right hb
    show read l = .misfit l
    cases hr : read l with
    | fits a =>
      rw [hr] at unread
      cases unread
    | misfit x => rw [h.misfit l x hr]

theorem Codec.of_imp {args' : α → Bool} (h : Codec args write read) (hi : ∀ a, args' a = true → args a = true) :
    Codec args' write read := ⟨fun a ha => h.fits a (hi a ha), h.misfit⟩

/-- A layout of one fixed length. -/
theorem Codec.exact {len : Nat} {get : List Byte → α} (hlen : ∀ a, (write a).length = len)
    (hget : ∀ a, args a = true → get (write a) = a) : Codec args write (Layout.exact len get) where
  fits a ha := by rw [Layout.exact_fits len get _ (hlen a), hget a ha]
  misfit l x h := by
    by_cases hl : l.length = len
    · rw [Layout.exact_fits len get l hl] at h
      cases h
    · rw [Layout.exact_misfit len get l hl] at h
      exact (Body.misfit.inj h).symm

end

theorem codec_empty : Codec (fun _ => true) (fun _ => []) Layout.empty := .exact (fun _ => rfl) fun _ _ => rfl

theorem codec_one : Codec (fieldOk 2) (leBytes 2) Layout.one := .exact (leBytes_length 2) fun _ => num_last

theorem codec_oneByte : Codec (fieldOk 1) (leBytes 1) Layout.oneByte := .exact (leBytes_length 1) fun _ => num_last

theorem codec_commit : Codec (fieldOk 4) (fun c => leBytes 4 c) Layout.commit := .exact (leBytes_length 4) fun _ => num_last

theorem codec_globals : Codec (fun a => fieldOk 2 a.dead && fieldOk 2 a.vent && fieldOk 2 a.recharge)
    (fun a : GlobalsArgs => leBytes 2 a.dead ++ leBytes 2 a.vent ++ leBytes 2 a.recharge) Layout.globals :=
  .exact (fun _ => by simp) fun a ha => by
    simp only [Bool.and_eq_true] at ha
    simp [num_head, num_last, num_skip, ha]

theorem codec_begin : Codec (fun a => fieldOk 4 a.image && fieldOk 2 a.segments && fieldOk 2 a.elements
      && fieldOk 2 a.points && fieldOk 2 a.stations)
    (fun a : BeginArgs => leBytes 4 a.image ++ leBytes 2 a.segments ++ leBytes 2 a.elements ++ leBytes 2 a.points
      ++ leBytes 2 a.stations) Layout.begin :=
  .exact (fun _ => by simp) fun a ha => by
    simp only [Bool.and_eq_true] at ha
    simp [num_head, num_last, num_skip, ha]

theorem codec_tune : Codec (fun a => fieldOk 2 a.point && signedOk 1 a.offset && fieldOk 1 a.weight
      && fieldOk 4 a.hyst && fieldOk 2 a.fallLimit)
    (fun a : TuneArgs => leBytes 2 a.point ++ signedBytes 1 a.offset ++ leBytes 1 a.weight ++ leBytes 4 a.hyst
      ++ leBytes 2 a.fallLimit) Layout.tune :=
  .exact (fun _ => by simp) fun a ha => by
    simp only [Bool.and_eq_true] at ha
    simp [num_head, num_last, num_skip, int_head, int_skip, ha]

theorem codec_limits : Codec (fun a => fieldOk 2 a.point && signedOk 4 a.ll && signedOk 4 a.l
      && signedOk 4 a.h && signedOk 4 a.hh && fieldOk 4 a.hyst)
    (fun a : LimitsArgs => leBytes 2 a.point ++ signedBytes 4 a.ll ++ signedBytes 4 a.l ++ signedBytes 4 a.h
      ++ signedBytes 4 a.hh ++ leBytes 4 a.hyst) Layout.limits :=
  .exact (fun _ => by simp) fun a ha => by
    simp only [Bool.and_eq_true] at ha
    simp [num_head, num_last, num_skip, int_head, int_skip, ha]

theorem codec_order : Codec (fun a => fieldOk 2 a.element && fieldOk 1 a.action)
    (fun a : OrderArgs => leBytes 2 a.element ++ leBytes 1 a.action ++ flagBytes a.override) Layout.order :=
  .exact (fun _ => by simp) fun a ha => by
    simp only [Bool.and_eq_true] at ha
    simp [num_head, num_skip, flag_last, flag_skip, ha]

theorem codec_crew : Codec (fun a => fieldOk 2 a.element && fieldOk 1 a.position)
    (fun a : CrewArgs => leBytes 2 a.element ++ leBytes 1 a.position) Layout.crew :=
  .exact (fun _ => by simp) fun a ha => by
    simp only [Bool.and_eq_true] at ha
    simp [num_head, num_last, num_skip, ha]

theorem codec_window : Codec (fun a => fieldOk 2 a.offset && fieldOk 2 a.count)
    (fun a : WindowArgs => leBytes 2 a.offset ++ leBytes 2 a.count) Layout.window :=
  .exact (fun _ => by simp) fun a ha => by
    simp only [Bool.and_eq_true] at ha
    simp [num_head, num_last, num_skip, ha]

theorem codec_call : Codec (fun a => fieldOk 4 a.number && fieldOk 2 a.segment && fieldOk 1 a.cls && fieldOk 4 a.age)
    (fun a : CallArgs => leBytes 4 a.number ++ leBytes 2 a.segment ++ leBytes 1 a.cls ++ leBytes 4 a.age) Layout.call :=
  .exact (fun _ => by simp) fun a ha => by
    simp only [Bool.and_eq_true] at ha
    simp [num_head, num_last, num_skip, ha]

theorem codec_incidentSet : Codec (fun a => fieldOk 2 a.incident && fieldOk 1 a.action && fieldOk 1 a.grade)
    (fun a : GradeArgs => leBytes 2 a.incident ++ leBytes 1 a.action ++ leBytes 1 a.grade) Layout.incidentSet :=
  .exact (fun _ => by simp) fun a ha => by
    simp only [Bool.and_eq_true] at ha
    simp [num_head, num_last, num_skip, ha]

theorem codec_planRead : Codec (fun a => fieldOk 1 a.part && fieldOk 2 a.offset && fieldOk 2 a.count)
    (fun a : PlanReadArgs => leBytes 1 a.part ++ leBytes 2 a.offset ++ leBytes 2 a.count ++ flagBytes a.release)
    Layout.planRead :=
  .exact (fun _ => by simp) fun a ha => by
    simp only [Bool.and_eq_true] at ha
    simp [num_head, num_skip, flag_last, flag_skip, ha]

theorem codec_execute : Codec (fun a => fieldOk 2 a.plan)
    (fun a : ExecuteArgs => leBytes 2 a.plan ++ flagBytes a.override) Layout.execute :=
  .exact (fun _ => by simp) fun a ha => by simp [num_head, flag_last, flag_skip, ha]

/-- An ORDER_ACK, with its station address in front (11.3.3). -/
theorem codec_ack (station : Nat) : Codec (fun r => fieldOk 1 r.verdict && fieldOk 1 r.reason)
    (fun r : AckArgs => leBytes 1 station ++ leBytes 1 r.verdict ++ leBytes 1 r.reason) Layout.ack :=
  .exact (fun _ => by simp) fun a ha => by
    simp only [Bool.and_eq_true] at ha
    simp [num_head, num_last, num_skip, ha]

/-! ### Lists (11.3.2, 11.3.3) -/

theorem length_flatMap_of_size {α : Type} {size : Nat} {write : α → List Byte} (hlen : ∀ x, (write x).length = size)
    (l : List α) : (l.flatMap write).length = size * l.length := by
  induction l with
  | nil => rfl
  | cons x l ih => simp [hlen, ih, Nat.mul_succ, Nat.add_comm]

/-- Records of one size laid end to end are read back one by one. -/
theorem records_flatMap {α : Type} {size : Nat} {write : α → List Byte} {get : List Byte → α} {ok : α → Bool}
    (hlen : ∀ x, (write x).length = size) (hget : ∀ x, ok x = true → get (write x) = x) (c : List Byte) :
    ∀ {l : List α}, l.all ok = true → Layout.records size get l.length (l.flatMap write ++ c) = l
  | [], _ => rfl
  | x :: l, h => by
    obtain ⟨hx, hl⟩ : ok x = true ∧ l.all ok = true := by simpa using h
    have front : (x :: l).flatMap write ++ c = write x ++ (l.flatMap write ++ c) := by simp
    rw [front, List.length_cons, Layout.records, List.take_left' (hlen x), List.drop_left' (hlen x), hget x hx,
      records_flatMap hlen hget c hl]

theorem records_whole {α : Type} {size : Nat} (hsize : 0 < size) {write : α → List Byte} {get : List Byte → α}
    {ok : α → Bool} (hlen : ∀ x, (write x).length = size) (hget : ∀ x, ok x = true → get (write x) = x) {l : List α}
    (h : l.all ok = true) : (l.flatMap write).length % size = 0 ∧
      Layout.records size get ((l.flatMap write).length / size) (l.flatMap write) = l := by
  rw [length_flatMap_of_size hlen, Nat.mul_mod_right, Nat.mul_div_cancel_left _ hsize]
  exact ⟨rfl, by simpa using records_flatMap hlen hget [] h⟩

theorem codec_subscribe : Codec (fun l => fieldOk 1 l.length && l.all (fieldOk 1))
    (fun l : List Nat => leBytes 1 l.length ++ l.map (BitVec.ofNat 8)) Layout.subscribe where
  fits l hl := by
    obtain ⟨hlen, hall⟩ : fieldOk 1 l.length = true ∧ l.all (fieldOk 1) = true := by simpa using hl
    have whole : leBytes 1 l.length ++ l.map (BitVec.ofNat 8) ≠ [] ∧ (leBytes 1 l.length ++ l.map (BitVec.ofNat 8)).length =
        1 + Layout.num 0 1 (leBytes 1 l.length ++ l.map (BitVec.ofNat 8)) := by
      rw [num_head _ hlen]
      exact ⟨by simp [leBytes], by simp⟩
    have values : (l.map (BitVec.ofNat 8)).map BitVec.toNat = l := by
      rw [List.map_map]
      conv_rhs => rw [← List.map_id l]
      refine List.map_congr_left fun n hn => ?_
      have small : n < 256 := by simpa using (fieldOk_iff 1 n).mp (List.all_eq_true.mp hall n hn)
      simp [small]
    have tail : (leBytes 1 l.length ++ l.map (BitVec.ofNat 8)).drop 1 = l.map (BitVec.ofNat 8) :=
      List.drop_left' (leBytes_length 1 _)
    rw [Layout.subscribe, if_pos whole, tail, values]
  misfit l x h := by
    unfold Layout.subscribe at h
    split at h
    · cases h
    · exact (Body.misfit.inj h).symm

theorem segment_read (r : RawSegment) (h : r.ok = true) : Layout.segment r.bytes = r := by
  simp only [RawSegment.ok, Bool.and_eq_true] at h
  simp [Layout.segment, RawSegment.bytes, num_head, num_last, num_skip, h]

theorem element_read (r : RawElement) (h : r.ok = true) : Layout.element r.bytes = r := by
  simp only [RawElement.ok, Bool.and_eq_true] at h
  simp [Layout.element, RawElement.bytes, num_head, num_last, num_skip, h]

theorem point_read (r : RawPoint) (h : r.ok = true) : Layout.point r.bytes = r := by
  simp only [RawPoint.ok, Bool.and_eq_true] at h
  simp [Layout.point, RawPoint.bytes, num_head, num_last, num_skip, h]

theorem station_read (r : RawStation) (h : r.ok = true) : Layout.station r.bytes = r := by
  simp only [RawStation.ok, Bool.and_eq_true] at h
  simp [Layout.station, RawStation.bytes, num_head, num_last, num_skip, h]

/-- A TOPO_PART, by the kind of its records (11.3.2). -/
theorem codec_part : Codec (fun a => fieldOk 2 a.sequence && a.records.ok)
    (fun a : PartArgs => leBytes 2 a.sequence ++ leBytes 1 a.records.kindByte ++ a.records.bytes) Layout.part where
  fits a ha := by
    obtain ⟨sequence, r⟩ := a
    obtain ⟨hseq, hr⟩ : fieldOk 2 sequence = true ∧ r.ok = true := by simpa using ha
    have hkind : fieldOk 1 r.kindByte = true := by
      cases r with
      | unknown k b =>
        exact ((Bool.and_eq_true _ _).mp (and_right hr)).1
      | segments | elements | points | stations => rfl
    have long : ¬(leBytes 2 sequence ++ leBytes 1 r.kindByte ++ r.bytes).length < 3 := by simp; omega
    have seq : Layout.num 0 2 (leBytes 2 sequence ++ leBytes 1 r.kindByte ++ r.bytes) = sequence := by
      simp [num_head, hseq]
    have kind : Layout.num 2 1 (leBytes 2 sequence ++ leBytes 1 r.kindByte ++ r.bytes) = r.kindByte := by
      simp [num_head, num_skip, hkind]
    have rest : (leBytes 2 sequence ++ leBytes 1 r.kindByte ++ r.bytes).drop 3 = r.bytes := List.drop_left' (by simp)
    unfold Layout.part
    rw [if_neg long]
    dsimp only
    rw [seq, kind, rest]
    clear long seq kind rest hkind
    cases r with
    | segments l =>
      obtain ⟨hmod, hl⟩ := records_whole (size := 5) (by decide) (fun x => by simp [RawSegment.bytes]) segment_read
        (and_right hr)
      refine (if_pos rfl).trans ((if_pos hmod).trans ?_)
      exact congrArg (fun l => (Body.fits { sequence := sequence, records := .segments l } : Body PartArgs)) hl
    | elements l =>
      obtain ⟨hmod, hl⟩ := records_whole (size := 13) (by decide) (fun x => by simp [RawElement.bytes]) element_read
        (and_right hr)
      refine (if_neg (show ¬2 = 1 by decide)).trans ((if_pos rfl).trans ((if_pos hmod).trans ?_))
      exact congrArg (fun l => (Body.fits { sequence := sequence, records := .elements l } : Body PartArgs)) hl
    | points l =>
      obtain ⟨hmod, hl⟩ := records_whole (size := 14) (by decide) (fun x => by simp [RawPoint.bytes]) point_read
        (and_right hr)
      refine (if_neg (show ¬3 = 1 by decide)).trans ((if_neg (show ¬3 = 2 by decide)).trans
        ((if_pos rfl).trans ((if_pos hmod).trans ?_)))
      exact congrArg (fun l => (Body.fits { sequence := sequence, records := .points l } : Body PartArgs)) hl
    | stations l =>
      obtain ⟨hmod, hl⟩ := records_whole (size := 4) (by decide) (fun x => by simp [RawStation.bytes]) station_read
        (and_right hr)
      refine (if_neg (show ¬4 = 1 by decide)).trans ((if_neg (show ¬4 = 2 by decide)).trans
        ((if_neg (show ¬4 = 3 by decide)).trans ((if_pos rfl).trans ((if_pos hmod).trans ?_))))
      exact congrArg (fun l => (Body.fits { sequence := sequence, records := .stations l } : Body PartArgs)) hl
    | unknown k b =>
      obtain ⟨-, -, hk⟩ : _ ∧ fieldOk 1 k = true ∧ (k = 0 ∨ 4 < k) := by simpa [PartRecords.ok] using hr
      have other : ∀ j, 1 ≤ j → j ≤ 4 → ¬k = j := fun j h1 h4 hj => by omega
      exact (if_neg (other 1 (by decide) (by decide))).trans ((if_neg (other 2 (by decide) (by decide))).trans
        ((if_neg (other 3 (by decide) (by decide))).trans (if_neg (other 4 (by decide) (by decide)))))
  misfit l x h := by
    unfold Layout.part at h
    dsimp only at h
    split_ifs at h <;> exact (Body.misfit.inj h).symm

theorem reading_read (r : Reading) (h : r.ok = true) :
    Layout.reading (leBytes 1 r.slot ++ leBytes 2 r.count ++ flagBytes r.faulty) = r := by
  simp only [Reading.ok, Bool.and_eq_true] at h
  simp [Layout.reading, num_head, num_skip, flag_last, flag_skip, h]

theorem position_read (p : Position) (h : p.ok = true) : Layout.position (leBytes 1 p.slot ++ leBytes 1 p.code) = p := by
  simp only [Position.ok, Bool.and_eq_true] at h
  simp [Layout.position, num_head, num_last, num_skip, h]

/-- The body of a REPORT, with its station address in front (11.3.3). -/
def reportBytes (station : Nat) (r : ReportArgs) : List Byte :=
  leBytes 1 station ++ flagBytes r.localFlag ++ leBytes 1 r.readings.length
    ++ r.readings.flatMap (fun x => leBytes 1 x.slot ++ leBytes 2 x.count ++ flagBytes x.faulty)
    ++ leBytes 1 r.positions.length ++ r.positions.flatMap (fun x => leBytes 1 x.slot ++ leBytes 1 x.code)

theorem codec_report (station : Nat) : Codec ReportArgs.ok (reportBytes station) Layout.report where
  fits r hr := by
    obtain ⟨⟨⟨⟨hread, hpos⟩, hn⟩, hm⟩, -⟩ : (((_ ∧ _) ∧ _) ∧ _) ∧ _ := by
      simpa only [ReportArgs.ok, Bool.and_eq_true] using hr
    have rlen := length_flatMap_of_size
      (write := fun x : Reading => leBytes 1 x.slot ++ leBytes 2 x.count ++ flagBytes x.faulty) (size := 4) (fun _ => by simp)
      r.readings
    have plen := length_flatMap_of_size (write := fun x : Position => leBytes 1 x.slot ++ leBytes 1 x.code) (size := 2)
      (fun _ => by simp) r.positions
    have readings := records_flatMap (size := 4) (fun _ => by simp) reading_read
      (leBytes 1 r.positions.length ++ r.positions.flatMap fun x => leBytes 1 x.slot ++ leBytes 1 x.code) hread
    have positions := records_flatMap (size := 2) (fun _ => by simp) position_read [] hpos
    rw [List.append_nil] at positions
    unfold reportBytes
    generalize hR : r.readings.flatMap (fun x => leBytes 1 x.slot ++ leBytes 2 x.count ++ flagBytes x.faulty) = R
      at rlen readings ⊢
    generalize hP : r.positions.flatMap (fun x => leBytes 1 x.slot ++ leBytes 1 x.code) = P at plen readings positions ⊢
    generalize hb : leBytes 1 station ++ flagBytes r.localFlag ++ leBytes 1 r.readings.length ++ R
      ++ leBytes 1 r.positions.length ++ P = b
    have count : Layout.num 2 1 b = r.readings.length := by
      have front : b = (leBytes 1 station ++ flagBytes r.localFlag) ++
        (leBytes 1 r.readings.length ++ (R ++ (leBytes 1 r.positions.length ++ P))) := by rw [← hb]; simp
      have skipped : (leBytes 1 station ++ flagBytes r.localFlag).length = 2 := by simp
      rw [front, num_skip _ _ skipped.le, skipped, num_head _ hn]
    have local_flag : Layout.flag 1 b = r.localFlag := by
      rw [← hb]
      simp [flag_head, flag_skip]
    have length : b.length = 4 + 4 * r.readings.length + 2 * r.positions.length := by
      rw [← hb]
      simp [rlen, plen]
      omega
    have more : Layout.num (3 + 4 * r.readings.length) 1 b = r.positions.length := by
      have front : b = (leBytes 1 station ++ flagBytes r.localFlag ++ leBytes 1 r.readings.length ++ R) ++
        (leBytes 1 r.positions.length ++ P) := by rw [← hb]; simp
      have skipped : (leBytes 1 station ++ flagBytes r.localFlag ++ leBytes 1 r.readings.length ++ R).length =
        3 + 4 * r.readings.length := by simp [rlen]; omega
      rw [front, num_skip _ _ skipped.le, skipped, Nat.sub_self, num_head _ hm]
    have first : b.drop 3 = R ++ (leBytes 1 r.positions.length ++ P) := by
      rw [← hb, List.append_assoc _ (leBytes 1 r.positions.length), List.append_assoc _ R]
      exact List.drop_left' (by simp)
    have second : b.drop (4 + 4 * r.readings.length) = P := by
      rw [← hb]
      exact List.drop_left' (by simp [rlen]; omega)
    unfold Layout.report
    dsimp only
    rw [count, more, if_pos ⟨by omega, length⟩, first, second, readings, positions, local_flag]
  misfit l x h := by
    unfold Layout.report at h
    dsimp only at h
    split at h
    · cases h
    · exact (Body.misfit.inj h).symm

/-! ### Frames (11.2) -/

/-- A kind that no request has is read as unknown (R168). -/
theorem decodeControl_unknown {k t : Nat} (hk : requestKinds.contains k = false) : decodeControl ⟨k, t, []⟩ = .unknownKind k t := by
  have fresh : k ∉ requestKinds := by simpa using hk
  unfold decodeControl
  dsimp only
  split
  case h_33 => rfl
  all_goals exact absurd (by decide) fresh

section

variable {t i g : Nat}

/-- An INCIDENT_SET of a given action read back (R102). -/
theorem incidentSet_read {action : Nat} (hi : fieldOk 2 i = true) (ha : fieldOk 1 action = true) (hg : fieldOk 1 g = true) :
    Layout.incidentSet (leBytes 2 i ++ leBytes 1 action ++ leBytes 1 g) =
      .fits { incident := i, action := action, grade := g } :=
  codec_incidentSet.fits { incident := i, action := action, grade := g } (by simp [hi, ha, hg])

theorem decodeIncidentSet_grade {b : Body GradeArgs} (hb : b.ok (fun a => fieldOk 2 a.incident && fieldOk 1 a.action
      && fieldOk 1 a.grade && !(1 ≤ a.action && a.action ≤ 4)) Layout.incidentSet = true) :
    decodeIncidentSet t b = .incidentSetGrade t b := by
  cases b with
  | misfit l => rfl
  | fits a =>
    have other : a.action = 0 ∨ 4 < a.action := by simpa using and_right hb
    exact (if_neg (by omega)).trans ((if_neg (by omega)).trans ((if_neg (by omega)).trans (if_neg (by omega))))

end

/-- A body behind a station address starts with that address. -/
theorem station_head {α : Type} {write : α → List Byte} {b : Body α} {a : Nat}
    (ha : fieldOk 1 a = true) (hw : ∀ x, ∃ l, write x = leBytes 1 a ++ l)
    (hm : ∀ l, b = .misfit l → l ≠ [] ∧ Layout.num 0 1 l = a) :
    b.bytes write ≠ [] ∧ Layout.num 0 1 (b.bytes write) = a := by
  cases b with
  | fits x =>
    obtain ⟨l, hl⟩ := hw x
    show write x ≠ [] ∧ Layout.num 0 1 (write x) = a
    rw [hl]
    exact ⟨by simp [leBytes], num_head l ha⟩
  | misfit l => exact hm l rfl

/-- A request is read back from its frame. -/
theorem decodeControl_encode {c : Instr} {f : Frame} (hw : c.wf = true) (he : encode c = some f) (hr : c.request? ≠ none) :
    decodeControl f = c := by
  cases c
  case unknownKind k t =>
    cases he
    exact decodeControl_unknown (by simpa using and_right hw)
  case status t b => cases he; exact congrArg (Instr.status t) (codec_empty.read_bytes (and_right hw))
  case restart t b => cases he; exact congrArg (Instr.restart t) (codec_empty.read_bytes (and_right hw))
  case save t b => cases he; exact congrArg (Instr.save t) (codec_empty.read_bytes (and_right hw))
  case topoAbandon t b => cases he; exact congrArg (Instr.topoAbandon t) (codec_empty.read_bytes (and_right hw))
  case orderRead t b => cases he; exact congrArg (Instr.orderRead t) (codec_empty.read_bytes (and_right hw))
  case subscribe t b => cases he; exact congrArg (Instr.subscribe t) (codec_subscribe.read_bytes (and_right hw))
  case setGlobals t b => cases he; exact congrArg (Instr.setGlobals t) (codec_globals.read_bytes (and_right hw))
  case topoBegin t b => cases he; exact congrArg (Instr.topoBegin t) (codec_begin.read_bytes (and_right hw))
  case topoPart t b => cases he; exact congrArg (Instr.topoPart t) (codec_part.read_bytes (and_right hw))
  case topoCommit t b => cases he; exact congrArg (Instr.topoCommit t) (codec_commit.read_bytes (and_right hw))
  case pointTune t b => cases he; exact congrArg (Instr.pointTune t) (codec_tune.read_bytes (and_right hw))
  case pointLimits t b => cases he; exact congrArg (Instr.pointLimits t) (codec_limits.read_bytes (and_right hw))
  case pointRead t b => cases he; exact congrArg (Instr.pointRead t) (codec_one.read_bytes (and_right hw))
  case stationClear t b => cases he; exact congrArg (Instr.stationClear t) (codec_oneByte.read_bytes (and_right hw))
  case stationRead t b => cases he; exact congrArg (Instr.stationRead t) (codec_oneByte.read_bytes (and_right hw))
  case order t b => cases he; exact congrArg (Instr.order t) (codec_order.read_bytes (and_right hw))
  case orderCancel t b => cases he; exact congrArg (Instr.orderCancel t) (codec_one.read_bytes (and_right hw))
  case crewReport t b => cases he; exact congrArg (Instr.crewReport t) (codec_crew.read_bytes (and_right hw))
  case elementClearFault t b => cases he; exact congrArg (Instr.elementClearFault t) (codec_one.read_bytes (and_right hw))
  case elementRead t b => cases he; exact congrArg (Instr.elementRead t) (codec_one.read_bytes (and_right hw))
  case outageClear t b => cases he; exact congrArg (Instr.outageClear t) (codec_one.read_bytes (and_right hw))
  case segmentRead t b => cases he; exact congrArg (Instr.segmentRead t) (codec_one.read_bytes (and_right hw))
  case outageRead t b => cases he; exact congrArg (Instr.outageRead t) (codec_window.read_bytes (and_right hw))
  case call t b => cases he; exact congrArg (Instr.call t) (codec_call.read_bytes (and_right hw))
  case incidentRead t b => cases he; exact congrArg (Instr.incidentRead t) (codec_one.read_bytes (and_right hw))
  case plan t b => cases he; exact congrArg (Instr.plan t) (codec_one.read_bytes (and_right hw))
  case planRead t b => cases he; exact congrArg (Instr.planRead t) (codec_planRead.read_bytes (and_right hw))
  case planCancel t b => cases he; exact congrArg (Instr.planCancel t) (codec_one.read_bytes (and_right hw))
  case execute t b => cases he; exact congrArg (Instr.execute t) (codec_execute.read_bytes (and_right hw))
  case restore t b => cases he; exact congrArg (Instr.restore t) (codec_one.read_bytes (and_right hw))
  case isolationRead t b => cases he; exact congrArg (Instr.isolationRead t) (codec_oneByte.read_bytes (and_right hw))
  case incidentSetGrade t b =>
    cases he
    have read := (codec_incidentSet.of_imp fun a ha => ((Bool.and_eq_true _ _).mp ha).1).read_bytes (and_right hw)
    exact (congrArg (decodeIncidentSet t) read).trans (decodeIncidentSet_grade (and_right hw))
  case incidentSetDispatch t i g =>
    cases he
    obtain ⟨⟨-, hi⟩, hg⟩ : (fieldOk 1 t = true ∧ fieldOk 2 i = true) ∧ fieldOk 1 g = true := by
      simpa only [Instr.wf, Bool.and_eq_true] using hw
    exact congrArg (decodeIncidentSet t) (incidentSet_read (action := 1) hi (by decide) hg)
  case incidentSetAttend t i g =>
    cases he
    obtain ⟨⟨-, hi⟩, hg⟩ : (fieldOk 1 t = true ∧ fieldOk 2 i = true) ∧ fieldOk 1 g = true := by
      simpa only [Instr.wf, Bool.and_eq_true] using hw
    exact congrArg (decodeIncidentSet t) (incidentSet_read (action := 2) hi (by decide) hg)
  case incidentSetSafe t i g =>
    cases he
    obtain ⟨⟨-, hi⟩, hg⟩ : (fieldOk 1 t = true ∧ fieldOk 2 i = true) ∧ fieldOk 1 g = true := by
      simpa only [Instr.wf, Bool.and_eq_true] using hw
    exact congrArg (decodeIncidentSet t) (incidentSet_read (action := 3) hi (by decide) hg)
  case incidentSetClose t i g =>
    cases he
    obtain ⟨⟨-, hi⟩, hg⟩ : (fieldOk 1 t = true ∧ fieldOk 2 i = true) ∧ fieldOk 1 g = true := by
      simpa only [Instr.wf, Bool.and_eq_true] using hw
    exact congrArg (decodeIncidentSet t) (incidentSet_read (action := 4) hi (by decide) hg)
  all_goals exact absurd rfl hr

/-- A REPORT or an ORDER_ACK is read back from its frame. -/
theorem decodeField_encode {c : Instr} {f : Frame} (hw : c.wf = true) (he : encode c = some f) (hr : c.request? = none) :
    decodeField f = some c := by
  cases c
  case report t a b =>
    cases he
    obtain ⟨⟨⟨-, ha⟩, hb⟩, hm⟩ : ((fieldOk 1 t = true ∧ fieldOk 1 a = true) ∧ b.ok ReportArgs.ok Layout.report = true) ∧ _ = true := by
      simpa only [Instr.wf, Bool.and_eq_true] using hw
    obtain ⟨nonempty, address⟩ := station_head (b := b) (write := reportBytes a) ha
      (fun x => ⟨_, by simp only [reportBytes, List.append_assoc]; rfl⟩)
      fun l hl => by subst hl; simpa using hm
    refine (if_neg nonempty).trans ?_
    exact congrArg some (congr (congrArg (Instr.report t) address) ((codec_report a).read_bytes hb))
  case orderAck t a b =>
    cases he
    obtain ⟨⟨⟨-, ha⟩, hb⟩, hm⟩ : ((fieldOk 1 t = true ∧ fieldOk 1 a = true) ∧ _ = true) ∧ _ = true := by
      simpa only [Instr.wf, Bool.and_eq_true] using hw
    obtain ⟨nonempty, address⟩ := station_head (b := b)
      (write := fun r : AckArgs => leBytes 1 a ++ leBytes 1 r.verdict ++ leBytes 1 r.reason) ha
      (fun x => ⟨_, List.append_assoc _ _ _⟩) fun l hl => by subst hl; simpa using hm
    refine (if_neg nonempty).trans ?_
    exact congrArg some (congr (congrArg (Instr.orderAck t) address) ((codec_ack a).read_bytes hb))
  all_goals simp [encode, Instr.request?] at he hr

/-- Settles O59: requests, reports and acknowledgements are read back whole. -/
theorem decodeOfEncodeIsTheCommand : Obligations.DecodeOfEncodeIsTheCommand :=
  fun _ _ hw he => ⟨decodeControl_encode hw he, decodeField_encode hw he⟩

end Sys2Proof.Machine

/-! SUPPORT. The record pass, the retrial of held entries and the judged status (R160, R161, R163, R164), the second part of
O56. -/

namespace Sys2Proof.Machine

/-! ### One record and its entries -/

/-- A record with other entries in its place of the register. -/
def withEntries (s : State) (k : Nat) (r : IsoRecord) (l : List Entry) : State :=
  { s with register := { records := s.register.records.set k (some { r with entries := l }) } }

section

variable {s : State} {k : Nat} {r : IsoRecord}

theorem record_within (h : s.record? k = some r) : k < s.register.records.length := by
  obtain ⟨hk, -⟩ := List.getElem?_eq_some_iff.mp (State.record?_some h)
  exact hk

theorem record?_set (hk : k < s.register.records.length) (q : Option IsoRecord) :
    State.record? { s with register := { records := s.register.records.set k q } } k = q := by
  simp [State.record?, hk]

theorem record?_withEntries (h : s.record? k = some r) (l : List Entry) :
    (withEntries s k r l).record? k = some { r with entries := l } := record?_set (record_within h) _

theorem updRecord_entries (h : s.record? k = some r) (g : Entry → Entry) :
    s.updRecord k (fun q => { q with entries := q.entries.map g }) = withEntries s k r (r.entries.map g) :=
  updRecord_at h _

/-- A record put in the place it holds changes nothing. -/
theorem withEntries_same (h : s.record? k = some r) : withEntries s k r r.entries = s := by
  have same : s.register.records.set k (some r) = s.register.records := by
    refine List.ext_getElem? fun j => ?_
    rw [List.getElem?_set]
    split
    · next hj =>
      subst hj
      rw [if_pos (record_within h), State.record?_some h]
    · rfl
  show { s with register := { records := s.register.records.set k (some r) } } = s
  rw [same]

/-! ### Re-examination (R160) -/

/-- An entry re-examined, by its element's record and class. -/
theorem reexamineEntry_at {c : Ctx} {e : Entry} {x : ElementRec} {t : Element} (hc : c.skip ≠ some e.element)
    (hx : s.element? e.element = some x) (ht : s.elemTopo? e.element = some t) : reexamineEntry c s e =
      ((reexamined e.step x.state t.cls).map fun z => { e with step := z, stepTime := s.partTime.toNat }).getD e := by
  rw [reexamineEntry, if_neg hc, hx, ht]
  dsimp only
  cases reexamined e.step x.state t.cls <;> rfl

theorem reexamineEntry_element (c : Ctx) (s : State) (e : Entry) : (reexamineEntry c s e).element = e.element := by
  unfold reexamineEntry
  repeat' split
  all_goals rfl

theorem passes_iff {x : ElementState} : x.passes = true ↔ x ≠ .closed := by simp [ElementState.passes]

/-! ### Retrial (R163) -/

theorem heldPasses_iff {n : Nat} : heldPasses s n = true ↔
    (∀ m ∈ s.gaining n, ∀ y, s.outage? m = some y → y.clearance ≠ none) ∧ s.elements.queue.length < 32 := by
  simp only [heldPasses, Bool.and_eq_true, List.all_eq_true, Bool.not_eq_true', uncleared_false_iff, decide_eq_true_eq]
  rfl

variable {h : Hooks} {n : Nat} {e : Entry}

/-- An entry that is not held, or whose test fails, is not tried. -/
theorem retryEntry_stays (hk : s.record? k = some r) (he : r.entry? n = some e)
    (hp : e.step = .heldForClearance → ¬((∀ m ∈ s.gaining n, ∀ y, s.outage? m = some y → y.clearance ≠ none) ∧
      s.elements.queue.length < 32)) : retryEntry h k n s = s := by
  unfold retryEntry
  rw [hk]
  dsimp only
  rw [he]
  by_cases hs : e.step = .heldForClearance
  · have fails : ¬heldPasses s n = true := fun ht => hp hs (heldPasses_iff.mp ht)
    simp [hs, fails]
  · simp [hs]

theorem updRecord_updEntry (hk : s.record? k = some r) (n : Nat) (g : Entry → Entry) :
    s.updRecord k (fun q => q.updEntry n g) =
      withEntries s k r (r.entries.map fun y => if y.element = n then g y else y) := updRecord_at hk _

/-- A held entry that passes its test but not those of a placement keeps its step, with the code as its last result. -/
theorem retryEntry_refused (hk : s.record? k = some r) (he : r.entry? n = some e) (hs : e.step = .heldForClearance)
    (hp : (∀ m ∈ s.gaining n, ∀ y, s.outage? m = some y → y.clearance ≠ none) ∧ s.elements.queue.length < 32) {c : Code}
    (ht : placeTest n .opening s = some c) : retryEntry h k n s = withEntries s k r (r.entries.map fun y =>
      if y.element = n then { y with last := some (.placement c) } else y) := by
  have held : (r.entry? n).any (fun y => decide (y.step = .heldForClearance)) = true := by simp [he, hs]
  unfold retryEntry
  rw [hk]
  dsimp only
  rw [if_pos held, if_pos (heldPasses_iff.mpr hp), ht]
  exact updRecord_updEntry hk _ _

/-- A held entry that passes every test is placed. -/
theorem retryEntry_places (hk : s.record? k = some r) (he : r.entry? n = some e) (hs : e.step = .heldForClearance)
    (hp : (∀ m ∈ s.gaining n, ∀ y, s.outage? m = some y → y.clearance ≠ none) ∧ s.elements.queue.length < 32)
    (ht : placeTest n .opening s = none) : retryEntry h k n s = place h
      (fun m u => u.updRecord k fun q => q.updEntry n fun y => { y.toStep u.now .opening with order := m })
      n .opening (.restoration r.incident) false s := by
  have held : (r.entry? n).any (fun y => decide (y.step = .heldForClearance)) = true := by simp [he, hs]
  unfold retryEntry
  rw [hk]
  dsimp only
  rw [if_pos held, if_pos (heldPasses_iff.mpr hp), ht]

/-! ### The pass (R160) -/

theorem any_restoring_iff {u : State} (hi : s.incident? r.incident = u.incident? r.incident) :
    restoring u r = true ↔ ∃ i, s.incident? r.incident = some i ∧ i.isoStatus = .restoring := by
  rw [restoring, ← hi, Option.any_eq_true]
  simp

theorem passRecord_at (c : Ctx) (hk : s.record? k = some r) : passRecord c h k s = judgeStatus k
    (if ∃ i, s.incident? r.incident = some i ∧ i.isoStatus = .restoring then
      ((r.entries.map (·.element)).reverse).foldl (fun v e => retryEntry h k e v)
        (withEntries s k r (r.entries.map (reexamineEntry c s)))
    else withEntries s k r (r.entries.map (reexamineEntry c s))) := by
  have here := record?_withEntries hk (r.entries.map (reexamineEntry c s))
  have elements : (r.entries.map (reexamineEntry c s)).map (·.element) = r.entries.map (·.element) := by
    rw [List.map_map]
    exact List.map_congr_left fun e _ => reexamineEntry_element c s e
  have tested : (some { r with entries := r.entries.map (reexamineEntry c s) }).any
      (restoring (withEntries s k r (r.entries.map (reexamineEntry c s)))) = true ↔
      ∃ i, s.incident? r.incident = some i ∧ i.isoStatus = .restoring :=
    any_restoring_iff (r := { r with entries := r.entries.map (reexamineEntry c s) }) rfl
  unfold passRecord
  rw [hk]
  dsimp only
  rw [reexamine, updRecord_entries hk, here]
  by_cases ht : ∃ i, s.incident? r.incident = some i ∧ i.isoStatus = .restoring
  · rw [if_pos (tested.mpr ht), if_pos ht, retryHeld, here]
    dsimp only
    rw [elements]
  · rw [if_neg (tested.not.mpr ht), if_neg ht]

/-! ### Status (R161, R164) -/

variable {i : Incident}

theorem setStatus_at {m : Nat} (hi : s.incident? m = some i) (x : IsoStatus) : setStatus m x s =
    passNotice (isolationNotice { i with isoStatus := x })
      { s with incidents := { s.incidents with slots := s.incidents.slots.map fun z => z.map fun y =>
          if y.number = m then { y with isoStatus := x, isoIndex := if x = .restored then none else y.isoIndex } else y } } := by
  have found := incident?_updIncident s m m
    (fun y => { y with isoStatus := x, isoIndex := if x = .restored then none else y.isoIndex }) fun _ h => h
  rw [hi, Option.map_some, if_pos (State.incident?_mem hi).2] at found
  rw [setStatus, reportStatus, found]
  rfl

theorem zoneProven_iff {zone : List Nat} : zoneProven s zone = true ↔ ∀ n ∈ zone, ∀ t, s.segTopo? n = some t →
    ∃ x, s.seg? n = some x ∧ x.state = .depressurized := by
  simp only [zoneProven, List.all_eq_true, Bool.or_eq_true, Option.any_eq_true, decide_eq_true_eq]
  refine forall₂_congr fun n _ => ?_
  cases s.segTopo? n <;> simp

theorem judgeStatus_at (hk : s.record? k = some r) (hi : s.incident? r.incident = some i) : judgeStatus k s =
    if i.isoStatus = .restoring then
      if restorationEnds r then setStatus r.incident .restored (freeRecord k s) else s
    else if judgedStatus s r i.isoStatus = i.isoStatus then s
    else setStatus r.incident (judgedStatus s r i.isoStatus) s := by
  unfold judgeStatus
  rw [hk]
  dsimp only
  rw [hi]

/-- An entry by which a restoration goes on: held, opening, with a crew or failed (R164). -/
def GoesOn (l : List Entry) : Prop :=
  ∃ e ∈ l, e.step = .heldForClearance ∨ e.step = .opening ∨ e.step = .crewOpen ∨ e.step = .openFailed

theorem restorationEnds_iff : restorationEnds r = true ↔ ¬GoesOn r.entries := by
  simp [restorationEnds, GoesOn, and_assoc]

/-- A status that the judgement keeps. -/
theorem judgeStatus_same (hk : s.record? k = some r) (hi : s.incident? r.incident = some i)
    (hr : i.isoStatus ≠ .restoring) (hj : judgedStatus s r i.isoStatus = i.isoStatus) : judgeStatus k s = s := by
  rw [judgeStatus_at hk hi, if_neg hr, if_pos hj]

/-- A status other than RESTORED that the judgement gives. -/
theorem judgeStatus_becomes (hk : s.record? k = some r) (hi : s.incident? r.incident = some i)
    (hr : i.isoStatus ≠ .restoring) {x : IsoStatus} (hj : judgedStatus s r i.isoStatus = x) (hx : x ≠ i.isoStatus)
    (hne : x ≠ .restored) : judgeStatus k s = passNotice (isolationNotice { i with isoStatus := x })
      { s with incidents := { s.incidents with slots := s.incidents.slots.map fun z => z.map fun y =>
          if y.number = r.incident then { y with isoStatus := x } else y } } := by
  rw [judgeStatus_at hk hi, if_neg hr, hj, if_neg hx, setStatus_at hi]
  simp only [hne, if_false]

/-- An incident that restores goes on while an entry is open, and is RESTORED, its record freed, where none is (R164). -/
theorem judgeStatus_restoring (hk : s.record? k = some r) (hi : s.incident? r.incident = some i)
    (hr : i.isoStatus = .restoring) :
    (GoesOn r.entries → judgeStatus k s = s) ∧
    (¬GoesOn r.entries →
      judgeStatus k s = passNotice (isolationNotice { i with isoStatus := .restored })
        { s with
          register := { records := s.register.records.set k none }
          incidents := { s.incidents with slots := s.incidents.slots.map fun z => z.map fun y =>
            if y.number = r.incident then { y with isoStatus := .restored, isoIndex := none } else y } }) := by
  refine ⟨fun h => ?_, fun h => ?_⟩
  · rw [judgeStatus_at hk hi, if_pos hr, if_neg (restorationEnds_iff.not.mpr (not_not.mpr h))]
  · have freed : (freeRecord k s).incident? r.incident = some i := hi
    rw [judgeStatus_at hk hi, if_pos hr, if_pos (restorationEnds_iff.mpr h), setStatus_at freed]
    simp only [if_true]
    rfl

/-- The judgement of an EXECUTING incident, by the entries of its record (R161). -/
theorem judgedStatus_executing :
    ((∀ e ∈ r.entries, e.step = .closed) → judgedStatus s r .executing =
      if zoneProven s r.zone then .proven else .isolated) ∧
    ((∀ e ∈ r.entries, e.step ≠ .toClose ∧ e.step ≠ .crewClose) → (∃ e ∈ r.entries, e.step = .closeFailed) →
      judgedStatus s r .executing = .partially) ∧
    ((∃ e ∈ r.entries, e.step = .toClose ∨ e.step = .crewClose) → judgedStatus s r .executing = .executing) := by
  have shape : judgedStatus s r .executing =
      if ∀ e ∈ r.entries, e.step = .closed then (if zoneProven s r.zone then .proven else .isolated)
      else if (∀ e ∈ r.entries, e.step ≠ .toClose ∧ e.step ≠ .crewClose) ∧ ∃ e ∈ r.entries, e.step = .closeFailed then
        .partially
      else .executing := by
    simp [judgedStatus]
  rw [shape]
  refine ⟨fun h => if_pos h, fun hopen ⟨e, he, hf⟩ => ?_, fun ⟨e, he, hs⟩ => ?_⟩
  · rw [if_neg fun h => ?_, if_pos ⟨hopen, e, he, hf⟩]
    rw [h e he] at hf
    cases hf
  · rw [if_neg fun h => ?_, if_neg fun h => ?_]
    · rcases hs with hs | hs
      · exact (h.1 e he).1 hs
      · exact (h.1 e he).2 hs
    · rw [h e he] at hs
      rcases hs with hs | hs <;> cases hs

end

end Sys2Proof.Machine

/-! SUPPORT. The placement of the orders of a record: closing orders and held openings (R119, R156, R163), the third part of
O56. -/

namespace Sys2Proof.Machine

/-! ### A placement that marks its record -/

section

variable {s : State} {n number : Nat} {x : Action} {origin : Origin} {override : Bool} {e : Element} {r : ElementRec}
  {h : Hooks} {mark : Nat → State → State} {reg : IsolationRegister}

/-- An order made by a placement of any origin (R118). -/
def madeOrder (number element : Nat) (action : Action) (origin : Origin) (override : Bool) (now : Nat) : Order :=
  { number := number, element := element, action := action, origin := origin, override := override, state := .queued
    sendsLeft := 3, tag := 0, enqueuedAt := now, unavailableAt := none, ackAt := none, strokeAt := none }

/-- A placement for an element without an order and away from its target, whose mark writes the register: it joins the queue
and a dispatch pass follows (R118, R119). -/
theorem place_marked_joins {timer : Option Nat} (ho : s.orderOf? n = none) (hnum : orderNumber s = number)
    (hm : mark number (withNext s (after 65535 number)) = { withNext s (after 65535 number) with register := reg })
    (he : s.elemTopo? n = some e) (hr : s.element? n = some r) (hx : r.state ≠ x.target)
    (h1 : Available s e.station → timer = none) (h2 : ¬Available s e.station → timer = some (s.partTime.toNat + 120)) :
    place h mark n x origin override s = h.dispatch (joined { s with register := reg }
      (madeOrder number n x origin override s.partTime.toNat) timer (after 65535 number)) := by
  have marked : mark number { s with elements := { s.elements with nextOrder := after 65535 number } } =
      { withNext s (after 65535 number) with register := reg } := hm
  unfold place
  dsimp only
  rw [placeNumber, afterReplacement_none ho, hnum, marked, if_neg]
  · exact congrArg h.dispatch (joinQueue_at (s := { s with register := reg })
      (o := madeOrder number n x origin override s.partTime.toNat) he h1 h2 _)
  · show ¬((s.element? n).any fun r => decide (r.state = x.target)) = true
    rw [hr]
    simpa using hx

/-- One for an element at its target: it ends ALREADY without joining the queue (R118, R119). -/
theorem place_marked_already (ho : s.orderOf? n = none) (hnum : orderNumber s = number)
    (hm : mark number (withNext s (after 65535 number)) = { withNext s (after 65535 number) with register := reg })
    (hr : s.element? n = some r) (hx : r.state = x.target) :
    place h mark n x origin override s =
      handOutcome (madeOrder number n x origin override s.partTime.toNat) .already
        (passNotice (endNotice (madeOrder number n x origin override s.partTime.toNat) .already s.partTime.toNat)
          { withNext s (after 65535 number) with register := reg }) := by
  have marked : mark number { s with elements := { s.elements with nextOrder := after 65535 number } } =
      { withNext s (after 65535 number) with register := reg } := hm
  have at_target : (State.element? { withNext s (after 65535 number) with register := reg } n).any
      (fun r => decide (r.state = x.target)) = true := by
    show (s.element? n).any _ = true
    rw [hr]
    simpa using hx
  unfold place
  dsimp only
  rw [placeNumber, afterReplacement_none ho, hnum, marked, if_pos at_target, replacedOrder_none ho, orderNotice_eq]
  rfl

end

/-! ### The entries of a record (R156, R163) -/

section

variable {s : State} {k : Nat} {r : IsoRecord} {e : Entry} {n : Nat} {h : Hooks}

/-- A record's own update by its placement, whatever else the placement has changed. -/
theorem updRecord_updEntry_next (hk : s.record? k = some r) (next n : Nat) (g : Entry → Entry) :
    (withNext s next).updRecord k (fun q => q.updEntry n g) = { withNext s next with
      register := (withEntries s k r (r.entries.map fun y => if y.element = n then g y else y)).register } :=
  updRecord_updEntry (s := withNext s next) hk n g

/-- The record of an incident is found at its index whatever its entries become. -/
theorem recordOf_withEntries (hk : s.record? k = some r) (l : List Entry) (m : Nat) :
    (withEntries s k r l).recordOf m = s.recordOf m := by
  have length : (withEntries s k r l).register.records.length = s.register.records.length := List.length_set
  have test (j : Nat) : ((withEntries s k r l).record? j).any (fun q => decide (q.incident = m)) =
      (s.record? j).any fun q => decide (q.incident = m) := by
    by_cases hj : j = k
    · rw [hj, record?_withEntries hk, hk]
      rfl
    · have other : (withEntries s k r l).record? j = s.record? j := by
        rw [State.record?, State.record?, withEntries]
        dsimp only
        rw [List.getElem?_set_ne (Ne.symm hj)]
      rw [other]
  rw [State.recordOf, State.recordOf, length]
  exact congrArg (fun p => (List.range _).find? p) (funext test)

/-- An entry that waits for no placement is left (R156). -/
theorem placeClosing_stays (hk : s.record? k = some r) (he : r.entry? n = some e)
    (hw : ¬(e.step = .toClose ∧ e.order = 0)) : placeClosing h k n s = s := by
  have test : ¬(r.entry? n).any (·.toPlace) = true := by
    rw [he]
    exact toPlace_iff.not.mpr hw
  unfold placeClosing
  rw [hk]
  exact if_neg test

/-- A closing order that fails its tests: the entry is CLOSE_FAILED with the code (R156). -/
theorem placeClosing_refused (hk : s.record? k = some r) (he : r.entry? n = some e) (hw : e.step = .toClose ∧ e.order = 0)
    {c : Code} (ht : placeTest n .close s = some c) : placeClosing h k n s =
      withEntries s k r (r.entries.map fun y => if y.element = n then
        { y with step := .closeFailed, last := some (.placement c), stepTime := s.partTime.toNat } else y) := by
  have test : (r.entry? n).any (·.toPlace) = true := by
    rw [he]
    exact toPlace_iff.mpr hw
  unfold placeClosing
  rw [hk]
  dsimp only
  rw [if_pos test, ht]
  exact updRecord_updEntry hk _ _

/-- A closing order that passes its tests is placed (R156). -/
theorem placeClosing_places (hk : s.record? k = some r) (he : r.entry? n = some e) (hw : e.step = .toClose ∧ e.order = 0)
    (ht : placeTest n .close s = none) : placeClosing h k n s = place h
      (fun m u => u.updRecord k fun q => q.updEntry n fun y => { y with order := m })
      n .close (.isolation r.incident) r.override s := by
  have test : (r.entry? n).any (·.toPlace) = true := by
    rw [he]
    exact toPlace_iff.mpr hw
  unfold placeClosing
  rw [hk]
  dsimp only
  rw [if_pos test, ht]

end

/-! ### Placed entries, with the orders they make -/

section

variable {s : State} {k number : Nat} {r : IsoRecord} {e : Entry} {n : Nat} {h : Hooks} {t : Element} {x : ElementRec}
  {timer : Option Nat}

theorem placeTest_passes {a : Action} (ht : s.elemTopo? n = some t) (hx : s.element? n = some x) (hcls : t.cls = .remote)
    (ho : s.orderOf? n = none) (hroom : x.state = a.target ∨ s.elements.queue.length < 32) : placeTest n a s = none := by
  rw [((placeTest_at ht hx).2 hcls).2 ho, if_pos hroom]

/-- A closing order away from its target joins the queue (R156). -/
theorem placeClosing_joins (hk : s.record? k = some r) (he : r.entry? n = some e) (hw : e.step = .toClose ∧ e.order = 0)
    (ht : s.elemTopo? n = some t) (hx : s.element? n = some x) (hcls : t.cls = .remote) (ho : s.orderOf? n = none)
    (hnum : orderNumber s = number) (hroom : s.elements.queue.length < 32) (hs : x.state ≠ .closed)
    (h1 : Available s t.station → timer = none) (h2 : ¬Available s t.station → timer = some (s.partTime.toNat + 120)) :
    placeClosing h k n s = h.dispatch (joined
      (withEntries s k r (r.entries.map fun y => if y.element = n then { y with order := number } else y))
      (madeOrder number n .close (.isolation r.incident) r.override s.partTime.toNat) timer (after 65535 number)) := by
  rw [placeClosing_places hk he hw (placeTest_passes ht hx hcls ho (.inr hroom))]
  exact place_marked_joins ho hnum (updRecord_updEntry_next hk _ n fun y => { y with order := number }) ht hx hs h1 h2

/-- A held opening that passes its tests joins the queue (R163). -/
theorem retryEntry_joins (hk : s.record? k = some r) (he : r.entry? n = some e) (hh : e.step = .heldForClearance)
    (hp : ∀ m ∈ s.gaining n, ∀ y, s.outage? m = some y → y.clearance ≠ none)
    (ht : s.elemTopo? n = some t) (hx : s.element? n = some x) (hcls : t.cls = .remote) (ho : s.orderOf? n = none)
    (hnum : orderNumber s = number) (hroom : s.elements.queue.length < 32) (hs : x.state ≠ .opened)
    (h1 : Available s t.station → timer = none) (h2 : ¬Available s t.station → timer = some (s.partTime.toNat + 120)) :
    retryEntry h k n s = h.dispatch (joined
      (withEntries s k r (r.entries.map fun y => if y.element = n then
        { y with step := .opening, order := number, stepTime := s.partTime.toNat } else y))
      (madeOrder number n .opening (.restoration r.incident) false s.partTime.toNat) timer (after 65535 number)) := by
  rw [retryEntry_places hk he hh ⟨hp, hroom⟩ (placeTest_passes ht hx hcls ho (.inr hroom))]
  exact place_marked_joins ho hnum (updRecord_updEntry_next hk _ n fun y =>
    { y with step := .opening, order := number, stepTime := s.partTime.toNat }) ht hx hs h1 h2

/-- An outcome handed on behind a notice, from the register as it stands. -/
theorem handOutcome_notice {v : State} {reg reg' : IsolationRegister} {o : Order} {y : OrderOutcome} (b : NoticeBody)
    (h : (handOutcome o y { v with register := reg }).register = reg') :
    handOutcome o y (passNotice b { v with register := reg }) = { passNotice b v with register := reg' } := by
  rw [handOutcome_frame, handOutcome_congr o y (s := { v with register := reg }) (passNotice_register ..)
    (passNotice_partTime ..), h, passNotice_frame b { v with register := reg }, passNotice_frame b v,
    passNotice_congr b { v with register := reg } v rfl rfl]

/-- An ALREADY handed to the register behind a mark that leaves the step of the one entry of its element (R158). -/
theorem handed_already {o : Order} (hk : s.record? k = some r) (hi : o.origin.incident = some r.incident)
    (ha : o.action = .close) (hrec : s.recordOf r.incident = some k) (hs : e.step = .toClose)
    (hone : ∀ y ∈ r.entries, y.element = o.element → y = e) (g : Entry → Entry)
    (hg : ∀ y, (g y).element = y.element ∧ (g y).step = y.step) :
    (handOutcome o .already (withEntries s k r (r.entries.map fun y => if y.element = o.element then g y else y))).register =
      (withEntries s k r (r.entries.map fun y => if y.element = o.element then
        { g y with step := .closed, last := some (.order .already), stepTime := s.partTime.toNat } else y)).register := by
  obtain ⟨l, hl⟩ : ∃ l, l = r.entries.map fun y => if y.element = o.element then g y else y := ⟨_, rfl⟩
  have closed : (l.map fun y => if y.element = o.element ∧ y.step = .toClose ∧ o.action = .close then
        { y with step := if OrderOutcome.already = .done ∨ OrderOutcome.already = .already then .closed else .closeFailed
                 last := some (.order .already), stepTime := s.partTime.toNat }
      else if y.element = o.element ∧ y.step = .opening ∧ o.action = .opening then
        { y with step := if OrderOutcome.already = .done ∨ OrderOutcome.already = .already then .reopened else .openFailed
                 last := some (.order .already), stepTime := s.partTime.toNat }
      else y) = r.entries.map fun y => if y.element = o.element then
        { g y with step := .closed, last := some (.order .already), stepTime := s.partTime.toNat } else y := by
    rw [hl, List.map_map]
    refine List.map_congr_left fun y hy => ?_
    by_cases hyn : y.element = o.element
    · have step : y.step = .toClose := hone y hy hyn ▸ hs
      simp [hyn, hg y, step, ha]
    · simp [hyn]
  rw [← hl, handOutcome_of_record (k := k) .already hi ((recordOf_withEntries hk l r.incident).trans hrec)
    (record?_withEntries hk l)]
  simp only [withEntries, List.set_set]
  exact congrArg (fun l => ({ records := s.register.records.set k (some { r with entries := l }) } : IsolationRegister)) closed

/-- A closing order at an element that is CLOSED already ends ALREADY, and its entry is CLOSED (R119, R156, R158). -/
theorem placeClosing_already (hk : s.record? k = some r) (he : r.entry? n = some e) (hw : e.step = .toClose ∧ e.order = 0)
    (ht : s.elemTopo? n = some t) (hx : s.element? n = some x) (hcls : t.cls = .remote) (ho : s.orderOf? n = none)
    (hnum : orderNumber s = number) (hs : x.state = .closed) (hrec : s.recordOf r.incident = some k)
    (hone : ∀ y ∈ r.entries, y.element = n → y = e) : placeClosing h k n s =
      { passNotice (.order
          { order := number, element := n, action := .close, origin := .isolation r.incident, override := r.override
            outcome := .already, tag := 0, sendsUsed := 0, enqueuedAt := s.partTime.toNat, endedAt := s.partTime.toNat })
          (withNext s (after 65535 number)) with
        register := (withEntries s k r (r.entries.map fun y => if y.element = n then
          { y with step := .closed, last := some (.order .already), order := number, stepTime := s.partTime.toNat }
          else y)).register } := by
  have mark := updRecord_updEntry_next hk (after 65535 number) n fun y => { y with order := number }
  have handed := handed_already (o := madeOrder number n .close (.isolation r.incident) r.override s.partTime.toNat)
    hk rfl rfl hrec hw.1 hone (fun y => { y with order := number }) fun _ => ⟨rfl, rfl⟩
  rw [placeClosing_places hk he hw (placeTest_passes ht hx hcls ho (.inl hs)),
    place_marked_already (x := .close) ho hnum mark hx hs, endNotice_queued rfl]
  refine handOutcome_notice _ (Eq.trans ?_ handed)
  exact handOutcome_congr _ _ rfl rfl

end

end Sys2Proof.Machine

/-! SUPPORT. EXECUTE of MANUAL elements and of one REMOTE element, whole (R154 to R156), the fourth part of O56. -/

namespace Sys2Proof.Machine

section

variable {s : State} {k : Nat} {r : IsoRecord} {i : Incident} {c : Ctx} {h : Hooks}

/-- An entry that re-examination gives no other step is left. -/
theorem reexamineEntry_same {e : Entry} (hx : ∀ x t, s.element? e.element = some x → s.elemTopo? e.element = some t →
    reexamined e.step x.state t.cls = none) : reexamineEntry c s e = e := by
  by_cases hc : c.skip = some e.element
  · rw [reexamineEntry, if_pos hc]
  · cases he : s.element? e.element with
    | none => rw [reexamineEntry, if_neg hc, he]
    | some x =>
      cases ht : s.elemTopo? e.element with
      | none => rw [reexamineEntry, if_neg hc, he, ht]
      | some t => rw [reexamineEntry_at hc he ht, hx x t he ht, Option.map_none, Option.getD_none]

/-- A pass over a record of an EXECUTING incident with an entry still to close, none of its entries re-examined to another
step, changes nothing (R160, R161). -/
theorem passRecord_executing (hk : s.record? k = some r) (hi : s.incident? r.incident = some i)
    (hs : i.isoStatus = .executing) (hopen : ∃ e ∈ r.entries, e.step = .toClose ∨ e.step = .crewClose)
    (hx : ∀ e ∈ r.entries, reexamineEntry c s e = e) : passRecord c h k s = s := by
  have same : r.entries.map (reexamineEntry c s) = r.entries := by
    conv_rhs => rw [← List.map_id r.entries]
    exact List.map_congr_left hx
  have goes_on : ¬∃ j, s.incident? r.incident = some j ∧ j.isoStatus = .restoring := by
    rintro ⟨j, hj, hr⟩
    rw [hi] at hj
    rw [← Option.some.inj hj, hs] at hr
    cases hr
  rw [passRecord_at c hk, if_neg goes_on, same, withEntries_same hk, judgeStatus_same hk hi]
  · rw [hs]
    exact IsoStatus.noConfusion
  · rw [hs]
    exact judgedStatus_executing.2.2 hopen

/-- An element whose placement does nothing leaves the state through a list of placements. -/
theorem foldl_same {α β : Type} {f : β → α → β} {b : β} {l : List α} (hf : ∀ a ∈ l, f b a = b) : l.foldl f b = b := by
  induction l with
  | nil => rfl
  | cons a l ih =>
    rw [List.foldl_cons, hf a List.mem_cons_self]
    exact ih fun x hx => hf x (List.mem_cons_of_mem _ hx)

theorem entry?_of_mem {n : Nat} (hn : n ∈ r.entries.map (·.element)) :
    ∃ e ∈ r.entries, r.entry? n = some e ∧ e.element = n := by
  obtain ⟨e, he, rfl⟩ := List.mem_map.mp hn
  cases hf : r.entry? e.element with
  | none =>
    have apart := List.find?_eq_none.mp hf e he
    simp at apart
  | some y =>
    have found := List.find?_some hf
    exact ⟨y, List.mem_of_find?_eq_some hf, rfl, by simpa using found⟩

end

/-- A part with an empty queue after its first order, made with the next number, has been sent to the station of its element
(R118, R123). -/
def sentState (s : State) (o : Order) (e : Element) : State :=
  { s with
    elements := { s.elements with
      queue := [{ o with
        state := .sent, tag := s.elements.nextTag, sendsLeft := 2, unavailableAt := none
        ackAt := some (s.partTime.toNat + 3) }]
      nextOrder := after 65535 o.number
      nextTag := after 255 s.elements.nextTag }
    field := { s.field with out := s.field.out ++
      [{ station := e.station, slot := e.slot, action := o.action, tag := s.elements.nextTag }] } }

theorem orderNumber_of_empty {s : State} (hl : s.elements.queue = []) : orderNumber s = s.elements.nextOrder := by
  refine orderNumber_first (s := s) (steps := 0) (by omega) (fun j hj => by omega) fun z hz => ?_
  rw [hl] at hz
  cases hz

theorem orderOf?_of_empty {s : State} (hl : s.elements.queue = []) (n : Nat) : s.orderOf? n = none := by
  simp [State.orderOf?, hl]

/-! ### The part an EXECUTE leaves before its orders -/

/-- The record, the status of its incident and the empty buffer of an EXECUTE (R155 steps 1 to 5). -/
def takenState (s : State) (k : Nat) (r : IsoRecord) : State :=
  { s with
    planner := { s.planner with buffer := .empty }
    register := { records := s.register.records.set k (some r) }
    incidents := { s.incidents with slots := (s.incidents.slots.map fun x =>
      x.map fun y => if y.number = r.incident then { y with isoStatus := .executing, isoIndex := some (k + 1) } else y) } }

section

variable {s : State} {k : Nat} {r : IsoRecord} {i : Incident}

theorem takenState_incident (hi : s.incident? r.incident = some i) : (takenState s k r).incident? r.incident =
    some { i with isoStatus := .executing, isoIndex := some (k + 1) } := by
  have found := incident?_updIncident s r.incident r.incident
    (fun y => { y with isoStatus := .executing, isoIndex := some (k + 1) }) fun _ h => h
  rw [hi, Option.map_some, if_pos (State.incident?_mem hi).2] at found
  exact found

theorem takenState_record (hk : k < s.register.records.length) : (takenState s k r).record? k = some r :=
  record?_set hk _

theorem withEntries_takenState (l : List Entry) : withEntries (takenState s k r) k r l = takenState s k { r with entries := l } := by
  simp only [withEntries, takenState, List.set_set]

/-- The steps of an EXECUTE behind its placements, where these leave its record with an entry still to close. -/
theorem runExecute_open {v : State} {q : IsoRecord} (hk : k < s.register.records.length)
    (hi : s.incident? r.incident = some i)
    (hv : (r.entries.map (·.element)).foldl (fun u e => placeClosing (hooksTop .plain) k e u) (takenState s k r) = v)
    (hq : v.record? k = some q) (hqi : q.incident = r.incident) (hinc : v.incidents = (takenState s k r).incidents)
    (hopen : ∃ e ∈ q.entries, e.step = .toClose ∨ e.step = .crewClose)
    (hx : ∀ e ∈ q.entries, reexamineEntry .plain v e = e) :
    runExecute k r s =
      passNotice (isolationNotice { i with isoStatus := .executing, isoIndex := some (k + 1) }) v := by
  have found : v.incident? r.incident = some { i with isoStatus := .executing, isoIndex := some (k + 1) } := by
    rw [State.incident?, State.incidentList, hinc]
    exact takenState_incident hi
  have placed : runExecute k r s =
      reportStatus r.incident (passRecord .plain ⟨dispatchInPass, id, activateInPass⟩ k
        ((r.entries.map (·.element)).foldl (fun u e => placeClosing (hooksTop .plain) k e u) (takenState s k r))) :=
    runExecute_eq hk
  rw [placed, hv, passRecord_executing hq (hqi ▸ found) rfl hopen hx, reportStatus, found]

/-- The steps of an EXECUTE whose entries are all with crews. -/
theorem runExecute_manual (hk : k < s.register.records.length) (hi : s.incident? r.incident = some i) (hne : r.entries ≠ [])
    (hcrew : ∀ e ∈ r.entries, e.step = .crewClose)
    (hopen : ∀ e ∈ r.entries, ∀ x, s.element? e.element = some x → x.state ≠ .closed) :
    runExecute k r s =
      passNotice (isolationNotice { i with isoStatus := .executing, isoIndex := some (k + 1) }) (takenState s k r) := by
  refine runExecute_open hk hi (foldl_same fun n hn => ?_) (takenState_record hk) rfl rfl ?_ fun e he => ?_
  · obtain ⟨e, he, hf, -⟩ := entry?_of_mem hn
    refine placeClosing_stays (takenState_record hk) hf fun hw => ?_
    rw [hcrew e he] at hw
    cases hw.1
  · obtain ⟨e, he⟩ := List.exists_mem_of_ne_nil _ hne
    exact ⟨e, he, .inr (hcrew e he)⟩
  · refine reexamineEntry_same fun x t hx _ => ?_
    rw [hcrew e he]
    exact if_neg (hopen e he x hx)

/-- The steps of an EXECUTE with one closing order, of a passable element at an available station, on an empty queue: the order
is sent at once. -/
theorem runExecute_remote {y : Entry} {e : Element} {x : ElementRec} (hk : k < s.register.records.length)
    (hi : s.incident? r.incident = some i) (hentries : r.entries = [y]) (hw : y.step = .toClose ∧ y.order = 0)
    (hl : s.elements.queue = []) (he : s.elemTopo? y.element = some e) (hcls : e.cls = .remote)
    (hx : s.element? y.element = some x) (hs : x.state ≠ .closed) (hav : Available s e.station)
    (hg : r.override = true ∨ ∀ z ∈ s.lostBy y.element, s.guardedSegment z = false) :
    runExecute k r s =
      passNotice (isolationNotice { i with isoStatus := .executing, isoIndex := some (k + 1) })
        (sentState (takenState s k { r with entries := [{ y with order := s.elements.nextOrder }] })
          (madeOrder s.elements.nextOrder y.element .close (.isolation r.incident) r.override s.partTime.toNat) e) := by
  have found : r.entry? y.element = some y := by simp [IsoRecord.entry?, hentries]
  have room : (takenState s k r).elements.queue.length < 32 := by
    show s.elements.queue.length < 32
    rw [hl]
    decide
  have placed : placeClosing (hooksTop .plain) k y.element (takenState s k r) = _ :=
    placeClosing_joins (number := s.elements.nextOrder) (timer := none) (takenState_record hk) found hw he hx hcls
      (orderOf?_of_empty hl _) (orderNumber_of_empty hl) room hs (fun _ => rfl) fun h => absurd hav h
  have marked : (r.entries.map fun z => if z.element = y.element then { z with order := s.elements.nextOrder } else z) =
      [{ y with order := s.elements.nextOrder }] := by simp [hentries]
  rw [marked, withEntries_takenState] at placed
  refine runExecute_open (q := { r with entries := [{ y with order := s.elements.nextOrder }] }) hk hi ?_
    (takenState_record (r := { r with entries := [{ y with order := s.elements.nextOrder }] }) hk) rfl rfl ?_ fun z hz => ?_
  · rw [hentries]
    refine placed.trans (dispatchPass_first _ hl rfl he hav fun m hm => ?_)
    rcases hm with ⟨-, hover, hlost, hguard⟩ | ⟨hact, -⟩
    · rcases hg with ho | hg
      · rw [show r.override = false from hover] at ho
        cases ho
      · have unguarded := hg m hlost
        rw [show s.guardedSegment m = true from hguard] at unguarded
        cases unguarded
    · cases hact
  · exact ⟨_, List.mem_singleton.mpr rfl, .inl hw.1⟩
  · rw [List.mem_singleton.mp hz]
    refine reexamineEntry_same fun z t _ _ => ?_
    rw [show ({ y with order := s.elements.nextOrder } : Entry).step = .toClose from hw.1]
    rfl

end

/-! ### The request -/

section

variable {s : State} {tag k : Nat} {a : ExecuteArgs} {img : Image} {p : Plan} {i : Incident}

/-- What an EXECUTE for an incident of status NONE meets, and the record it takes. -/
structure FirstExecute (s : State) (a : ExecuteArgs) (p : Plan) (i : Incident) (k : Nat) : Prop where
  held : s.planner.buffer = .held p
  named : p.number = a.plan
  sound : p.result = some .ok
  fresh : p.startBasis = s.net.basis
  found : s.incident? p.incident = some i
  going : i.state ≠ .closed
  status : i.isoStatus = .none
  free : s.register.records[k]? = some none
  lowest : ∀ j, j < k → s.register.records[j]? ≠ some none
  apart : ∀ x ∈ p.close, s.recordHolding x.1 = none
  guarded : p.guardedCount = 0 ∨ a.override = true

theorem FirstExecute.tests (h : FirstExecute s a p i k)
    (hroom : s.elements.queue.length + ((newRecord s.partTime.toNat p a.override).entries.filter (·.toPlace)).length ≤ 32) :
    executeTests a s = .ok (p, k, newRecord s.partTime.toNat p a.override) := by
  have unheld : ¬overlaps p s = true := by
    rw [overlaps_iff]
    rintro ⟨x, hx, j, q, hj, -, -⟩
    rw [h.apart x hx] at hj
    cases hj
  have unguarded : ¬(p.guardedCount ≠ 0 ∧ a.override = false) := by
    rintro ⟨h0, hov⟩
    rcases h.guarded with hg | hg
    · exact h0 hg
    · rw [hov] at hg
      cases hg
  have room : ¬32 < s.elements.queue.length + ((newRecord s.partTime.toNat p a.override).entries.filter (·.toPlace)).length :=
    Nat.not_lt.mpr hroom
  rw [executeTests_record h.held h.named h.sound h.fresh h.found ⟨h.going, .inl h.status⟩
    ((executeRecord_first h.status).mpr ⟨h.free, h.lowest, rfl⟩), if_neg unheld, if_neg unguarded, if_neg room]

theorem FirstExecute.within (h : FirstExecute s a p i k) : k < s.register.records.length := by
  obtain ⟨hk, -⟩ := List.getElem?_eq_some_iff.mp h.free
  exact hk

/-- A first EXECUTE, by what its steps come to. -/
theorem FirstExecute.exec_eq (h : FirstExecute s a p i k) (ha : Admits s tag) (hi : s.net.active = some img) {count : Nat}
    (hcount : ((newRecord s.partTime.toNat p a.override).entries.filter (·.toPlace)).length = count)
    (hroom : s.elements.queue.length + count ≤ 32) {b : NoticeBody} {t : State}
    (hrun : ∀ d, runExecute k (newRecord s.partTime.toNat p a.override) { s with control := d } =
      passNotice b { t with control := d }) :
    exec (.execute tag (.fits a)) s = .next (answered 0x63 tag (.accepted (.executed (k + 1) count))
      (passNotice b { t with control := (huntControl s).control })) := by
  refine (Asks.execute tag a).exec_notice ha fun d => ?_
  have here : executeTests a { s with control := d } = .ok (p, k, newRecord s.partTime.toNat p a.override) :=
    h.tests (hcount ▸ hroom)
  rw [serveExecute, needImage_at d _ hi, here]
  dsimp only
  rw [hcount, hrun d]

/-- EXECUTE of a plan that closes MANUAL elements alone. -/
theorem FirstExecute.exec_manual (h : FirstExecute s a p i k) (ha : Admits s tag) (hi : s.net.active = some img)
    (hroom : s.elements.queue.length ≤ 32) (hne : p.close ≠ []) (hman : ∀ x ∈ p.close, x.2 = .manual)
    (hopen : ∀ x ∈ p.close, ∀ r, s.element? x.1 = some r → r.state ≠ .closed) :
    exec (.execute tag (.fits a)) s = .next (answered 0x63 tag (.accepted (.executed (k + 1) 0))
      (passNotice (isolationNotice { i with isoStatus := .executing, isoIndex := some (k + 1) })
        (takenState (huntControl s) k { newRecord s.partTime.toNat p a.override with entries := p.close.map fun x =>
          { element := x.1, cls := x.2, step := .crewClose, order := 0, last := none, stepTime := s.partTime.toNat } }))) := by
  have entries : (newRecord s.partTime.toNat p a.override).entries = p.close.map fun x =>
      { element := x.1, cls := x.2, step := .crewClose, order := 0, last := none, stepTime := s.partTime.toNat } := by
    refine List.map_congr_left fun x hx => ?_
    rw [newEntry_eq, hman x hx]
    rfl
  obtain ⟨q, hq⟩ : ∃ q, q = newRecord s.partTime.toNat p a.override := ⟨_, rfl⟩
  have named : q.incident = p.incident := by rw [hq]; rfl
  rw [← hq] at entries
  rw [← entries, ← hq]
  have crew {e : Entry} (he : e ∈ q.entries) : e.step = .crewClose ∧ ∃ x ∈ p.close, x.1 = e.element := by
    rw [entries] at he
    obtain ⟨x, hx, rfl⟩ := List.mem_map.mp he
    exact ⟨rfl, x, hx, rfl⟩
  have unplaced : (q.entries.filter (·.toPlace)).length = 0 := by
    rw [List.length_eq_zero_iff, List.filter_eq_nil_iff]
    intro e he hp
    rw [toPlace_iff, (crew he).1] at hp
    cases hp.1
  refine h.exec_eq ha hi (t := takenState s k q) (hq ▸ unplaced) hroom fun d => ?_
  rw [← hq]
  refine runExecute_manual (s := { s with control := d }) h.within (by rw [named]; exact h.found) ?_ (fun e he => (crew he).1)
    fun e he x hx => ?_
  · rw [entries]
    simpa using hne
  · obtain ⟨-, y, hy, hye⟩ := crew he
    exact hopen y hy x (hye ▸ hx)

/-- EXECUTE of a plan that closes one REMOTE element, whose order is sent at once. -/
theorem FirstExecute.exec_remote {m : Nat} {e : Element} {x : ElementRec} (h : FirstExecute s a p i k) (ha : Admits s tag)
    (hi : s.net.active = some img) (hl : s.elements.queue = []) (hc : p.close = [(m, .remote)])
    (he : s.elemTopo? m = some e) (hcls : e.cls = .remote) (hx : s.element? m = some x) (hs : x.state ≠ .closed)
    (hav : Available s e.station) (hg : a.override = true ∨ ∀ y ∈ s.lostBy m, s.guardedSegment y = false) :
    exec (.execute tag (.fits a)) s = .next (answered 0x63 tag (.accepted (.executed (k + 1) 1))
      (passNotice (isolationNotice { i with isoStatus := .executing, isoIndex := some (k + 1) })
        (sentState (takenState (huntControl s) k { newRecord s.partTime.toNat p a.override with
            entries := [{ element := m, cls := .remote, step := .toClose, order := s.elements.nextOrder, last := none
                          stepTime := s.partTime.toNat }] })
          (madeOrder s.elements.nextOrder m .close (.isolation p.incident) a.override s.partTime.toNat) e))) := by
  have entries : (newRecord s.partTime.toNat p a.override).entries = [newEntry s.partTime.toNat (m, .remote)] :=
    congrArg (List.map (newEntry s.partTime.toNat)) hc
  refine h.exec_eq ha hi (count := 1) (congrArg (fun l => (l.filter (·.toPlace)).length) entries) (by rw [hl]; decide)
    (t := sentState (takenState s k { newRecord s.partTime.toNat p a.override with
        entries := [{ element := m, cls := .remote, step := .toClose, order := s.elements.nextOrder, last := none
                      stepTime := s.partTime.toNat }] })
      (madeOrder s.elements.nextOrder m .close (.isolation p.incident) a.override s.partTime.toNat) e) fun d => ?_
  exact runExecute_remote (s := { s with control := d }) (r := newRecord s.partTime.toNat p a.override) (i := i)
    h.within h.found entries ⟨rfl, rfl⟩ hl he hcls hx hs hav hg

end

end Sys2Proof.Machine

/-! SUPPORT. RESTORE whole (R162 to R164), and the isolation requests and passes together (O56). -/

namespace Sys2Proof.Machine

/-! ### One ISOLATION notice passed twice in an event (R106)

The end of a restoration inside a RESTORE reports the status that the RESTORE itself then reports. -/

theorem EventSet.union_assoc (a b c : EventSet) : (a.union b).union c = a.union (b.union c) := by
  simp only [EventSet.union, Bool.or_assoc]

theorem EventSet.joins_union (a b : EventSet) : (a.union b).joins = (a.joins || b.joins) := by
  simp only [EventSet.joins, EventSet.union]
  cases a.created <;> cases b.created <;> simp [Bool.or_comm]

/-- Behind a notice in which nothing joined, it is all one which two of three notices are taken together first. -/
theorem IncidentNotice.merge_assoc {a c b : IncidentNotice} (hb : b.events.joins = false) (hj : b.joined = none) :
    (a.merge c).merge b = a.merge (c.merge b) := by
  have joined : ((a.merge c).merge b).joined = (a.merge (c.merge b)).joined := by
    simp only [IncidentNotice.merge, EventSet.joins_union, hb, hj]
    cases a.events.joins <;> cases c.events.joins <;> simp
  have call : ((a.merge c).merge b).call = (a.merge (c.merge b)).call := by
    simp only [IncidentNotice.merge]
    cases b.call <;> simp
  have events : ((a.merge c).merge b).events = (a.merge (c.merge b)).events := EventSet.union_assoc ..
  exact IncidentNotice.mk.injEq .. |>.mpr
    ⟨rfl, rfl, events, rfl, rfl, rfl, rfl, rfl, rfl, rfl, rfl, rfl, rfl, call, rfl, rfl, rfl, joined⟩

section

variable {b c c' a : NoticeBody} {y : IncidentNotice}

/-- A notice that has taken another up goes on to hold it when it takes up an earlier one. -/
theorem merge?_takes_up (hb : b = .incident y) (hy : y.events.joins = false) (hj : y.joined = none)
    (hc : c.merge? b = some c) (ha : a.merge? c = some c') : c'.merge? b = some c' := by
  subst hb
  cases c with
  | incident z =>
    cases a with
    | incident x =>
      simp only [NoticeBody.merge?] at hc ha ⊢
      split at hc
      · next hzy =>
        split at ha
        · have same : z.merge y = z := by simpa using hc
          obtain rfl := Option.some.inj ha
          refine (if_pos (show (x.merge z).incident = y.incident from hzy)).trans ?_
          rw [IncidentNotice.merge_assoc hy hj, same]
        · cases ha
      · cases hc
    | _ => cases ha
  | _ => cases hc

/-- A notice that the last one of an event has taken up changes nothing. -/
theorem gather_again (hb : b = .incident y) (hy : y.events.joins = false) (hj : y.joined = none) {l : List NoticeBody} :
    ∀ {c : NoticeBody}, c.merge? b = some c → gather b (gather c l) = gather c l := by
  induction l with
  | nil =>
    intro c hc
    rw [gather, gather, hc]
    rfl
  | cons a l ih =>
    intro c hc
    cases ha : a.merge? c with
    | some z =>
      rw [gather, ha]
      exact ih (merge?_takes_up hb hy hj hc ha)
    | none =>
      have apart : a.merge? b = none :=
        (merge?_eq_none a b).mpr ((sameSubject_of_merge? hc a).not.mp ((merge?_eq_none a c).mp ha))
      rw [gather, ha]
      dsimp only
      rw [gather, apart]
      exact congrArg (a :: ·) (ih hc)

end

theorem isolationNotice_merge (i : Incident) : (isolationNotice i).merge? (isolationNotice i) = some (isolationNotice i) := by
  simp [isolationNotice, NoticeBody.merge?, IncidentNotice.merge, EventSet.union, EventSet.joins]

/-- Inside an event the ISOLATION notice of an incident passed twice is passed once. -/
theorem passNotice_isolation_again {s : State} {l : List NoticeBody} (i : Incident) (hg : s.control.gathered = some l) :
    passNotice (isolationNotice i) (passNotice (isolationNotice i) s) = passNotice (isolationNotice i) s := by
  by_cases hs : (isolationNotice i).cls ∈ s.control.subscribed
  · rw [passNotice_gathered hs hg]
    refine (passNotice_gathered (l := gather (isolationNotice i) l)
      (s := { s with control := { s.control with gathered := some (gather (isolationNotice i) l) } }) hs rfl).trans ?_
    rw [gather_again (b := isolationNotice i) rfl rfl rfl (isolationNotice_merge i)]
  · rw [passNotice_dropped hs, passNotice_dropped hs]

theorem inEvent_isolation_again (i : Incident) (s : State) :
    inEvent (fun u => passNotice (isolationNotice i) (passNotice (isolationNotice i) u)) s = passNotice (isolationNotice i) s := by
  rw [← inEvent_notice]
  unfold inEvent
  cases hg : s.control.gathered with
  | some l => exact passNotice_isolation_again i hg
  | none => exact congrArg closeEvent (passNotice_isolation_again (s := openEvent s) i rfl)

/-! ### The entries of a restoration (R162) -/

section

variable {s : State} {k n : Nat} {r : IsoRecord} {i : Incident} {e : Entry} {x : ElementRec} {t : Element} {c : Ctx} {h : Hooks}

theorem restoreEntry_manual (hx : s.element? e.element = some x) (hs : x.state = .closed)
    (ht : s.elemTopo? e.element = some t) (hcls : t.cls = .manual) :
    restoreEntry s e = { e with step := .crewOpen, stepTime := s.partTime.toNat } := by
  simp [restoreEntry, hx, hs, ht, hcls, Entry.toStep, State.now]

theorem restoreEntry_held (hx : s.element? e.element = some x) (hs : x.state = .closed)
    (ht : s.elemTopo? e.element = some t) (hcls : t.cls = .remote) :
    restoreEntry s e = { e with step := .heldForClearance, stepTime := s.partTime.toNat } := by
  simp [restoreEntry, hx, hs, ht, hcls, Entry.toStep, State.now]

theorem restoreEntry_reopened (hx : ∀ x, s.element? e.element = some x → x.state ≠ .closed) :
    restoreEntry s e = { e with step := .reopened, stepTime := s.partTime.toNat } := by
  have passes : ¬(s.element? e.element).any (fun x => decide (x.state = .closed)) = true := by
    rw [Option.any_eq_true]
    rintro ⟨x, he, hc⟩
    exact hx x he (by simpa using hc)
  exact if_neg passes

/-- The pass of a RESTORE re-examines no entry to another step. -/
theorem reexamineEntry_restoreEntry (s : State) (e : Entry) :
    reexamineEntry c s (restoreEntry s e) = restoreEntry s e := by
  by_cases hx : ∀ x, s.element? e.element = some x → x.state ≠ .closed
  · rw [restoreEntry_reopened hx]
    exact reexamineEntry_same fun _ _ _ _ => rfl
  · obtain ⟨x, hx⟩ := not_forall.mp hx
    obtain ⟨hx, hs⟩ := Classical.not_imp.mp hx
    have closed : x.state = .closed := not_not.mp hs
    have any_closed : (s.element? e.element).any (fun x => decide (x.state = .closed)) = true := by simp [hx, closed]
    cases ht : s.elemTopo? e.element with
    | none =>
      have held : restoreEntry s e = e.toStep s.now .heldForClearance := by
        rw [restoreEntry, if_pos any_closed, ht]
        rfl
      rw [held]
      refine reexamineEntry_same fun y t _ hy => ?_
      rw [show s.elemTopo? e.element = some t from hy] at ht
      cases ht
    | some t =>
      cases hcls : t.cls with
      | manual =>
        rw [restoreEntry_manual hx closed ht hcls]
        refine reexamineEntry_same fun y z hy hz => ?_
        rw [show s.element? e.element = some y from hy] at hx
        rw [show s.elemTopo? e.element = some z from hz] at ht
        obtain rfl := Option.some.inj hx
        obtain rfl := Option.some.inj ht
        simp [reexamined, closed, hcls, ElementState.passes]
      | remote =>
        rw [restoreEntry_held hx closed ht hcls]
        refine reexamineEntry_same fun y z hy hz => ?_
        rw [show s.element? e.element = some y from hy] at hx
        rw [show s.elemTopo? e.element = some z from hz] at ht
        obtain rfl := Option.some.inj hx
        obtain rfl := Option.some.inj ht
        simp [reexamined, closed, hcls, ElementState.passes]

/-! ### The part a RESTORE leaves before its openings -/

/-- The status of the incident and the record's entries at a RESTORE (R162 steps 1 and 2). -/
def restoringState (s : State) (k n : Nat) (r : IsoRecord) (l : List Entry) : State :=
  { withEntries s k r l with incidents := { s.incidents with slots := (s.incidents.slots.map fun x =>
      x.map fun y => if y.number = n then { y with isoStatus := .restoring } else y) } }

theorem restoringState_incident (hi : s.incident? n = some i) (l : List Entry) :
    (restoringState s k n r l).incident? n = some { i with isoStatus := .restoring } := by
  have found := incident?_updIncident s n n (fun y => { y with isoStatus := .restoring }) fun _ h => h
  rw [hi, Option.map_some, if_pos (State.incident?_mem hi).2] at found
  exact found

theorem restoringState_record (hk : s.record? k = some r) (l : List Entry) :
    (restoringState s k n r l).record? k = some { r with entries := l } := record?_withEntries hk l

/-- The steps of a RESTORE: its entries, the held ones tried, the judgement and the report. -/
theorem runRestore_eq (hk : s.record? k = some r) (hn : r.incident = n) (hi : s.incident? n = some i) :
    runRestore k n s = reportStatus n (judgeStatus k
      ((((r.entries.map (restoreEntry s)).map (·.element)).reverse).foldl
        (fun v e => retryEntry ⟨dispatchInPass, id, activateInPass⟩ k e v)
        (restoringState s k n r (r.entries.map (restoreEntry s))))) := by
  have begun : (s.updIncident n fun i => { i with isoStatus := .restoring }).updRecord k (fun q => { q with
      entries := q.entries.map (restoreEntry (s.updIncident n fun i => { i with isoStatus := .restoring })) }) =
      restoringState s k n r (r.entries.map (restoreEntry s)) :=
    updRecord_entries (s := s.updIncident n fun i => { i with isoStatus := .restoring }) hk _
  have same : (r.entries.map (restoreEntry s)).map (reexamineEntry .plain (restoringState s k n r (r.entries.map (restoreEntry s))))
      = r.entries.map (restoreEntry s) := by
    rw [List.map_map]
    exact List.map_congr_left fun e _ =>
      reexamineEntry_restoreEntry (restoringState s k n r (r.entries.map (restoreEntry s))) e
  have record := restoringState_record (n := n) hk (r.entries.map (restoreEntry s))
  have status : ∃ j, (restoringState s k n r (r.entries.map (restoreEntry s))).incident? r.incident = some j ∧
      j.isoStatus = .restoring := by
    rw [hn]
    exact ⟨_, restoringState_incident hi _, rfl⟩
  unfold runRestore
  dsimp only
  rw [begun, passRecord_at .plain record, if_pos status]
  dsimp only
  rw [same, withEntries_same record]

/-- Held entries that fail their tests leave the state. -/
theorem retryHeld_same (hk : s.record? k = some r)
    (hh : ∀ e ∈ r.entries, e.step = .heldForClearance →
      ∃ m ∈ s.gaining e.element, ∃ y, s.outage? m = some y ∧ y.clearance = none) :
    ((r.entries.map (·.element)).reverse).foldl (fun v e => retryEntry h k e v) s = s := by
  refine foldl_same fun a ha => ?_
  obtain ⟨e, he, hf, rfl⟩ := entry?_of_mem (List.mem_reverse.mp ha)
  refine retryEntry_stays hk hf fun hs hp => ?_
  obtain ⟨m, hm, y, hy, hc⟩ := hh e he hs
  exact hp.1 m hm y hy hc

/-- A RESTORE that opens nothing yet and has an entry to open. -/
theorem runRestore_waits (hk : s.record? k = some r) (hn : r.incident = n) (hi : s.incident? n = some i) {l : List Entry}
    (hl : r.entries.map (restoreEntry s) = l)
    (hh : ∀ e ∈ l, e.step = .heldForClearance → ∃ m ∈ s.gaining e.element, ∃ y, s.outage? m = some y ∧ y.clearance = none)
    (hopen : GoesOn l) :
    runRestore k n s = passNotice (isolationNotice { i with isoStatus := .restoring }) (restoringState s k n r l) := by
  subst hn
  have record := restoringState_record (n := r.incident) hk l
  have found := restoringState_incident (k := k) (r := r) hi l
  have tried := retryHeld_same (h := ⟨dispatchInPass, id, activateInPass⟩) record hh
  rw [runRestore_eq hk rfl hi, hl, show (l.map (·.element)).reverse.foldl _ _ = _ from tried,
    (judgeStatus_restoring record found rfl).1 hopen, reportStatus, found]

/-- A RESTORE with one held opening, at an available station and cleared, on an empty queue: its order is sent at once. -/
theorem runRestore_sent (hk : s.record? k = some r) (hn : r.incident = n) (hi : s.incident? n = some i)
    (hentries : r.entries = [e]) (hx : s.element? e.element = some x) (hs : x.state = .closed)
    (ht : s.elemTopo? e.element = some t) (hcls : t.cls = .remote) (hav : Available s t.station)
    (hl : s.elements.queue = []) (hp : ∀ m ∈ s.gaining e.element, ∀ y, s.outage? m = some y → y.clearance ≠ none) :
    runRestore k n s = passNotice (isolationNotice { i with isoStatus := .restoring })
      (sentState
        (restoringState s k n r
          [{ e with step := .opening, order := s.elements.nextOrder, stepTime := s.partTime.toNat }])
        (madeOrder s.elements.nextOrder e.element .opening (.restoration n) false s.partTime.toNat) t) := by
  subst hn
  obtain ⟨y, hy⟩ : ∃ y : Entry, y = { e with step := .heldForClearance, stepTime := s.partTime.toNat } := ⟨_, rfl⟩
  obtain ⟨z, hz⟩ : ∃ z : Entry, z = { e with
    step := .opening, order := s.elements.nextOrder, stepTime := s.partTime.toNat } := ⟨_, rfl⟩
  have element : y.element = e.element := by rw [hy]
  have begun : r.entries.map (restoreEntry s) = [y] := by
    rw [hentries, List.map_singleton, restoreEntry_held hx hs ht hcls, hy]
  have record := restoringState_record (n := r.incident) hk [y]
  have room : s.elements.queue.length < 32 := by
    rw [hl]
    decide
  have marked : (([y] : List Entry).map fun v => if v.element = e.element then
      { v with step := .opening, order := s.elements.nextOrder, stepTime := s.partTime.toNat } else v) = [z] := by
    simp [hy, hz]
  have written : withEntries (restoringState s k r.incident r [y]) k { r with entries := [y] } [z] =
      restoringState s k r.incident r [z] := by simp only [restoringState, withEntries, List.set_set]
  have tried : retryEntry ⟨dispatchInPass, id, activateInPass⟩ k e.element (restoringState s k r.incident r [y]) =
      dispatchInPass (joined
        (withEntries (restoringState s k r.incident r [y]) k { r with entries := [y] } (([y] : List Entry).map fun v =>
          if v.element = e.element then
            { v with step := .opening, order := s.elements.nextOrder, stepTime := s.partTime.toNat } else v))
        (madeOrder s.elements.nextOrder e.element .opening (.restoration r.incident) false s.partTime.toNat) none
        (after 65535 s.elements.nextOrder)) :=
    retryEntry_joins (e := y) record (by simp [IsoRecord.entry?, element]) (by rw [hy]) hp ht hx hcls
      (orderOf?_of_empty hl _) (orderNumber_of_empty hl) room (by rw [hs]; exact ElementState.noConfusion) (fun _ => rfl)
      fun h => absurd hav h
  have sent : dispatchInPass (joined (restoringState s k r.incident r [z])
      (madeOrder s.elements.nextOrder e.element .opening (.restoration r.incident) false s.partTime.toNat) none
      (after 65535 s.elements.nextOrder)) = sentState (restoringState s k r.incident r [z])
        (madeOrder s.elements.nextOrder e.element .opening (.restoration r.incident) false s.partTime.toNat) t := by
    refine dispatchPass_first activateInPass hl rfl ht hav ?_
    rintro m (⟨hact, -⟩ | ⟨-, hm, v, hv, hc⟩)
    · cases hact
    · exact hp m hm v hv hc
  rw [marked, written, sent] at tried
  have swept : ((([y] : List Entry).map (·.element)).reverse).foldl
      (fun v e => retryEntry ⟨dispatchInPass, id, activateInPass⟩ k e v) (restoringState s k r.incident r [y]) = _ :=
    (congrArg (retryEntry _ k · _) element).trans tried
  obtain ⟨v, hv⟩ : ∃ v, v = sentState (restoringState s k r.incident r [z])
    (madeOrder s.elements.nextOrder e.element .opening (.restoration r.incident) false s.partTime.toNat) t := ⟨_, rfl⟩
  have after_record : v.record? k = some { r with entries := [z] } := by
    rw [hv]
    exact restoringState_record (n := r.incident) hk [z]
  have found : v.incident? r.incident = some { i with isoStatus := .restoring } := by
    rw [hv]
    exact restoringState_incident (k := k) (r := r) hi [z]
  rw [runRestore_eq hk rfl hi, begun, swept, ← hz, ← hv, (judgeStatus_restoring after_record found rfl).1
    ⟨z, List.mem_singleton.mpr rfl, .inr (.inl (by rw [hz]))⟩, reportStatus, found]

/-- The end of a restoration: the record freed and the incident RESTORED (R164). -/
def restoredState (s : State) (k n : Nat) : State :=
  { s with
    register := { records := s.register.records.set k none }
    incidents := { s.incidents with slots := (s.incidents.slots.map fun x => x.map fun y =>
      if y.number = n then { y with isoStatus := .restored, isoIndex := none } else y) } }

theorem slots_restored (slots : List (Option Incident)) (n : Nat) :
    ((slots.map fun x => x.map fun y => if y.number = n then { y with isoStatus := .restoring } else y).map fun x =>
      x.map fun y => if y.number = n then { y with isoStatus := .restored, isoIndex := none } else y) =
      slots.map fun x => x.map fun y => if y.number = n then { y with isoStatus := .restored, isoIndex := none } else y := by
  rw [List.map_map]
  refine List.map_congr_left fun x _ => ?_
  cases x with
  | none => rfl
  | some y => by_cases h : y.number = n <;> simp [h]

/-- A RESTORE with no CLOSED element: it ends at once, and its end is reported with it. -/
theorem runRestore_ends (hk : s.record? k = some r) (hn : r.incident = n) (hi : s.incident? n = some i)
    (hx : ∀ e ∈ r.entries, ∀ x, s.element? e.element = some x → x.state ≠ .closed) :
    runRestore k n s = passNotice (isolationNotice { i with isoStatus := .restored })
      (passNotice (isolationNotice { i with isoStatus := .restored }) (restoredState s k n)) := by
  subst hn
  obtain ⟨l, hl⟩ : ∃ l, l = r.entries.map (restoreEntry s) := ⟨_, rfl⟩
  have opened {e : Entry} (he : e ∈ l) : e.step = .reopened := by
    rw [hl] at he
    obtain ⟨y, hy, rfl⟩ := List.mem_map.mp he
    rw [restoreEntry_reopened (hx y hy)]
  have record := restoringState_record (n := r.incident) hk l
  have found := restoringState_incident (k := k) (r := r) hi l
  have tried := retryHeld_same (h := ⟨dispatchInPass, id, activateInPass⟩) record fun e he hs => by
    rw [opened he] at hs
    cases hs
  have closed : ¬GoesOn l := by
    rintro ⟨e, he, hs⟩
    rw [opened he] at hs
    rcases hs with hs | hs | hs | hs <;> cases hs
  have judged : judgeStatus k (restoringState s k r.incident r l) = passNotice (isolationNotice { i with isoStatus := .restored })
      (restoredState (restoringState s k r.incident r l) k r.incident) :=
    (judgeStatus_restoring record found rfl).2 closed
  have freed : restoredState (restoringState s k r.incident r l) k r.incident = restoredState s k r.incident := by
    simp only [restoredState, restoringState, withEntries, List.set_set, slots_restored]
  have ended := incident?_updIncident s r.incident r.incident
    (fun y => { y with isoStatus := .restored, isoIndex := none }) fun _ h => h
  rw [hi, Option.map_some, if_pos (State.incident?_mem hi).2] at ended
  have reported (b : NoticeBody) : (passNotice b (restoredState s k r.incident)).incident? r.incident =
      some { i with isoStatus := .restored, isoIndex := none } := by
    rw [State.incident?, State.incidentList, passNotice_incidents]
    exact ended
  rw [runRestore_eq hk rfl hi, ← hl, show (l.map (·.element)).reverse.foldl _ _ = _ from tried, judged, freed, reportStatus,
    reported]
  rfl

end

end Sys2Proof.Machine

/-! SUPPORT. The isolation requests and passes together (O56). -/

namespace Sys2Proof.Machine

/-! ### The request RESTORE -/

section

variable {s : State} {tag n k : Nat} {img : Image} {r : IsoRecord} {i : Incident}

theorem restorable_iff {x : IsoStatus} : restorable x = true ↔ x = .isolated ∨ x = .proven ∨ x = .partially := by
  simp [restorable, or_assoc]

theorem incident_of_recordOf (hk : s.recordOf n = some k) (hr : s.record? k = some r) : r.incident = n := by
  have found := List.find?_some hk
  rw [hr] at found
  simpa using found

/-- RESTORE in a status that admits it is its steps. -/
theorem serveRestore_at (d : ControlPort) (hi : s.net.active = some img) (hn : s.incident? n = some i)
    (hs : i.isoStatus = .isolated ∨ i.isoStatus = .proven ∨ i.isoStatus = .partially) (hk : s.recordOf n = some k) :
    serveRestore n { s with control := d } =
      (runRestore k n { s with control := d }, .accepted (.restoring (k + 1))) := by
  have record : State.recordOf { s with control := d } n = some k := hk
  rw [serveRestore, withIncident_at d _ hi hn]
  refine (if_pos (restorable_iff.mpr hs)).trans ?_
  rw [record]

theorem exec_restore_refused {c : Code} (ha : Admits s tag)
    (h : ∀ d, serveRestore n { s with control := d } = refuse c { s with control := d }) :
    exec (.restore tag (.fits n)) s = .next (answered 0x64 tag (.refused (.plain c)) (huntControl s)) :=
  (Asks.restore tag n).exec_same ha h

end

/-! ### O56 -/

/-- RESTORE over the elements of its record (R162 to R164). -/
theorem exec_restore_cases {s : State} {tag n k : Nat} {img : Image} {r : IsoRecord} {i : Incident} (ha : Admits s tag)
    (hi : s.net.active = some img) (hn : s.incident? n = some i)
    (hs : i.isoStatus = .isolated ∨ i.isoStatus = .proven ∨ i.isoStatus = .partially) (hk : s.recordOf n = some k)
    (hr : s.record? k = some r) :
    (∀ l, r.entries.map (restoreEntry s) = l →
      (∀ e ∈ l, e.step = .heldForClearance → ∃ m ∈ s.gaining e.element, ∃ y, s.outage? m = some y ∧ y.clearance = none) →
      GoesOn l →
      exec (.restore tag (.fits n)) s = .next (answered 0x64 tag (.accepted (.restoring (k + 1)))
        (passNotice (isolationNotice { i with isoStatus := .restoring }) (restoringState (huntControl s) k n r l)))) ∧
    (∀ e t x, r.entries = [e] → s.element? e.element = some x → x.state = .closed →
      s.elemTopo? e.element = some t → t.cls = .remote → Available s t.station → s.elements.queue = [] →
      (∀ m ∈ s.gaining e.element, ∀ y, s.outage? m = some y → y.clearance ≠ none) →
      exec (.restore tag (.fits n)) s = .next (answered 0x64 tag (.accepted (.restoring (k + 1)))
        (passNotice (isolationNotice { i with isoStatus := .restoring })
          (sentState
            (restoringState (huntControl s) k n r
              [{ e with step := .opening, order := s.elements.nextOrder, stepTime := s.partTime.toNat }])
            (madeOrder s.elements.nextOrder e.element .opening (.restoration n) false s.partTime.toNat) t)))) ∧
    ((∀ e ∈ r.entries, ∀ x, s.element? e.element = some x → x.state ≠ .closed) →
      exec (.restore tag (.fits n)) s = .next (answered 0x64 tag (.accepted (.restoring (k + 1)))
        (passNotice (isolationNotice { i with isoStatus := .restored }) (restoredState (huntControl s) k n)))) := by
  have named := incident_of_recordOf hk hr
  refine ⟨fun l hl hh hopen => ?_, fun e t x he hx hc ht hcls hav hq hp => ?_, fun hx => ?_⟩
  · refine (Asks.restore tag n).exec_notice ha (t := restoringState s k n r l) fun d => ?_
    rw [serveRestore_at d hi hn hs hk]
    exact congrArg (·, _) (runRestore_waits (s := { s with control := d }) hr named hn hl hh hopen)
  · refine (Asks.restore tag n).exec_notice ha (t := sentState
      (restoringState s k n r [{ e with step := .opening, order := s.elements.nextOrder, stepTime := s.partTime.toNat }])
      (madeOrder s.elements.nextOrder e.element .opening (.restoration n) false s.partTime.toNat) t) fun d => ?_
    rw [serveRestore_at d hi hn hs hk]
    exact congrArg (·, _) (runRestore_sent (s := { s with control := d }) hr named hn he hx hc ht hcls hav hq hp)
  · refine ((Asks.restore tag n).exec_event ha (reply := .accepted (.restoring (k + 1)))
      (t := restoredState s k n) (g := fun u =>
      passNotice (isolationNotice { i with isoStatus := .restored })
        (passNotice (isolationNotice { i with isoStatus := .restored }) u)) fun d => ?_).trans ?_
    · rw [serveRestore_at d hi hn hs hk]
      exact congrArg (·, _) (runRestore_ends (s := { s with control := d }) hr named hn hx)
    · rw [inEvent_isolation_again]
      rfl

/-- Settles O56: EXECUTE and RESTORE, the placements of their orders, the passes over the records and the judged status. -/
theorem executeAndRestoreHandCrewsTheirSteps : Obligations.ExecuteAndRestoreHandCrewsTheirSteps := by
  refine ⟨?executeManual, ?restoreManual, ?executeRemote, ?restoreCases, ?restoreRefused, ?tests, ?placed, fun _ _ _ => rfl,
    ?passed, ?judged⟩
  case executeManual =>
    intro s tag k a img p i ha hi hb hn hr hfresh hinc hgo hst hfree hlow hheld hg hq hne hman hopen
    have first : FirstExecute s a p i k := ⟨hb, hn, hr, hfresh, hinc, hgo, hst, hfree, hlow, hheld, hg⟩
    exact first.exec_manual ha hi hq hne hman hopen
  case restoreManual =>
    intro s tag n k img r i ha hi hn hs hk hr hne hman
    have crewed : r.entries.map (restoreEntry s) =
        r.entries.map fun e => { e with step := .crewOpen, stepTime := s.partTime.toNat } := by
      refine List.map_congr_left fun e he => ?_
      obtain ⟨⟨x, hx, hc⟩, t, ht, hcls⟩ := hman e he
      exact restoreEntry_manual hx hc ht hcls
    refine (exec_restore_cases ha hi hn hs hk hr).1 _ crewed (fun e he hh => ?_) ?_
    · obtain ⟨y, -, rfl⟩ := List.mem_map.mp he
      cases hh
    · obtain ⟨e, he⟩ := List.exists_mem_of_ne_nil _ hne
      exact ⟨_, List.mem_map_of_mem he, .inr (.inr (.inl rfl))⟩
  case executeRemote =>
    intro s tag k m a img p i e x st ha hi hb hn hr hfresh hinc hgo hst hfree hlow hheld hg hq hc he hcls hx hs hstation hrep
      hlocal hover
    have first : FirstExecute s a p i k := ⟨hb, hn, hr, hfresh, hinc, hgo, hst, hfree, hlow, fun y hy => by
      rw [hc, List.mem_singleton] at hy
      rw [hy]
      exact hheld, hg⟩
    exact first.exec_remote ha hi hq hc he hcls hx hs ⟨st, hstation, hrep, hlocal⟩ hover
  case restoreCases =>
    intro s tag n k img r i ha hi hn hs hk hr now withStatus restoringWith answer
    obtain ⟨waits, sent, ends⟩ := exec_restore_cases ha hi hn hs hk hr
    refine ⟨fun hne hheld => ?_, fun e t x st he hx hc ht hcls hst hrep hlocal hq hp => ?_, fun hx => ends hx⟩
    · have held : r.entries.map (restoreEntry s) =
          r.entries.map fun e => { e with step := .heldForClearance, stepTime := now } := by
        refine List.map_congr_left fun e he => ?_
        obtain ⟨⟨x, hx, hc⟩, ⟨t, ht, hcls⟩, -⟩ := hheld e he
        exact restoreEntry_held hx hc ht hcls
      refine waits _ held (fun e he _ => ?_) ?_
      · obtain ⟨y, hy, rfl⟩ := List.mem_map.mp he
        exact (hheld y hy).2.2
      · obtain ⟨e, he⟩ := List.exists_mem_of_ne_nil _ hne
        exact ⟨_, List.mem_map_of_mem he, .inl rfl⟩
    · intro order orderTag
      exact sent e t x he hx hc ht hcls ⟨st, hst, hrep, hlocal⟩ hq hp
  case restoreRefused =>
    intro s tag n img ha hi refused
    refine ⟨fun hn => exec_restore_refused ha fun d => ?_, fun i hn h1 h2 h3 => exec_restore_refused ha fun d => ?_⟩
    · have unknown : State.incident? { s with control := d } n = none := hn
      rw [serveRestore, withIncident, needImage_at d _ hi, unknown]
    · rw [serveRestore, withIncident_at d _ hi hn]
      refine if_neg fun hs => ?_
      rcases restorable_iff.mp hs with h | h | h
      · exact h1 h
      · exact h2 h
      · exact h3 h
  case tests =>
    intro s element action t x ht hx target test
    have target_eq : target = action.target := by cases action <;> rfl
    obtain ⟨unremote, remote⟩ := placeTest_at (x := action) ht hx
    refine ⟨unremote, fun hcls => ?_⟩
    obtain ⟨holds, free⟩ := remote hcls
    refine ⟨fun o ho => ⟨fun hact => ?_, fun hact hq => ?_, fun hact hq => ?_⟩, fun ho => ⟨fun hs hfull => ?_, fun hroom => ?_⟩⟩
    · exact (holds o ho).trans (if_pos hact)
    · exact (holds o ho).trans ((if_neg hact).trans (if_neg hq))
    · exact (holds o ho).trans ((if_neg hact).trans (if_pos hq))
    · exact (free ho).trans (if_neg (not_or.mpr ⟨target_eq ▸ hs, Nat.not_lt.mpr hfull⟩))
    · exact (free ho).trans (if_pos (target_eq ▸ hroom))
  case placed =>
    intro h s k steps r e t x timer hk he ht hx now withEntry waits numberAfter n made available
    refine ⟨fun hw => placeClosing_stays hk he hw, fun code hw hc => placeClosing_refused hk he hw hc,
      fun hcls ho hsteps hheld hfree => ?_⟩
    have number : orderNumber s = n := orderNumber_first hsteps hheld hfree
    refine ⟨fun hw hs hrec hone => ?_, fun hroom h1 h2 => ⟨fun hw hs => ?_, fun hh hs hp => ?_⟩⟩
    · exact placeClosing_already hk he hw ht hx hcls ho number hs hrec hone
    · exact placeClosing_joins hk he hw ht hx hcls ho number hroom hs h1 h2
    · exact retryEntry_joins hk he hh hp ht hx hcls ho number hroom hs h1 h2
  case passed =>
    intro c h s k r hk now withEntries' u
    refine ⟨passRecord_at c hk, fun e x t hc hx ht => ?_, fun e hc => if_pos hc, fun e he => ?_⟩
    · intro y moved
      have step : y = ((reexamined e.step x.state t.cls).map moved).getD e := reexamineEntry_at hc hx ht
      rw [step]
      refine ⟨fun hs hx => ?_, fun hs hx => ?_, fun hs hx => ?_, fun hs hx => ?_, fun hs hx => ?_, fun hs hx => ?_, fun hs => ?_⟩
      · simp [hs, hx, reexamined]
      · simp [hs, hx, reexamined]
      · have passes : x.state.passes = true := passes_iff.mpr hx
        rcases hs with hs | hs | hs <;> simp [hs, passes, reexamined]
      · have shut : ¬x.state.passes = true := fun hp => passes_iff.mp hp hx
        by_cases hcls : t.cls = .remote <;> simp [hs, shut, reexamined, hcls]
      · have shut : ¬x.state.passes = true := fun hp => passes_iff.mp hp hx
        by_cases hcls : t.cls = .manual <;> simp [hs, shut, reexamined, hcls]
      · have shut : ¬x.state.passes = true := fun hp => passes_iff.mp hp hx
        simp [hs, shut, reexamined]
      · rcases hs with hs | hs | hs | hs | hs <;> rw [hs] <;> rfl
    · intro passes
      refine ⟨fun hs => ?_, fun code hs hp hc => retryEntry_refused hk he hs hp hc⟩
      exact retryEntry_stays hk he fun hh hp => hs.elim (fun hne => hne hh) fun hne => hne hp
  case judged =>
    intro s k r i hk hi judged proven becomes
    have enclosed {x : IsoStatus} (hr : i.isoStatus ≠ .restoring) (hj : judgedStatus s r i.isoStatus = x)
        (hx : x ≠ i.isoStatus) (hne : x ≠ .restored) : becomes x := judgeStatus_becomes hk hi hr hj hx hne
    refine ⟨fun hs => ⟨fun hall => ⟨fun hp => ?_, fun hp => ?_⟩, fun hopen hfailed => ?_, fun hopen => ?_⟩,
      fun hs => ⟨fun hp => ?_, fun hp => ?_⟩, fun hs => judgeStatus_restoring hk hi hs, fun hs => ?_⟩
    · refine enclosed (by simp [hs]) ?_ (by simp [hs]) (by simp)
      rw [hs, judgedStatus_executing.1 hall, if_pos (zoneProven_iff.mpr hp)]
    · refine enclosed (by simp [hs]) ?_ (by simp [hs]) (by simp)
      rw [hs, judgedStatus_executing.1 hall, if_neg (zoneProven_iff.not.mpr hp)]
    · refine enclosed (by simp [hs]) ?_ (by simp [hs]) (by simp)
      rw [hs, judgedStatus_executing.2.1 hopen hfailed]
    · refine judgeStatus_same hk hi (by simp [hs]) ?_
      rw [hs, judgedStatus_executing.2.2 hopen]
    · refine enclosed (by simp [hs]) ?_ (by simp [hs]) (by simp)
      rw [hs]
      exact if_pos (zoneProven_iff.mpr hp)
    · refine judgeStatus_same hk hi (by simp [hs]) ?_
      rw [hs]
      exact if_neg (zoneProven_iff.not.mpr hp)
    · refine judgeStatus_same hk hi ?_ ?_
      · rcases hs with hs | hs | hs | hs <;> simp [hs]
      · rcases hs with hs | hs | hs | hs <;> rw [hs] <;> rfl

end Sys2Proof.Machine
